-- ==== Sys2Proof/Word.lean ====
section
/-! DEFINITION. The plain data the model is built from: bytes, serials, tags, and a sparse table. -/

namespace Sys2Proof

/-- One byte of a frame (R174, R175). -/
abbrev Byte := BitVec 8

/-- A card serial, the 48-bit number read from a card (R5). -/
abbrev Serial := BitVec 48

/-- The tag of a purser frame (R177). -/
abbrev Tag := BitVec 16

/-- A table of numbered records, held sparsely: number and record, numbers strictly rising. -/
abbrev Table (α : Type) := List (Nat × α)

end Sys2Proof
end

