-- ==== Sys2Proof/Syntax.lean ====
section
/-! DEFINITION. The commands of the part: one constructor of Instr per row of spec/opcode_table.json, in
the table's order, with the named values their operands are drawn from. -/

namespace Sys2Proof

/-- Outcome codes, in the order of R1's table; a code's number is its position (R174). -/
inductive Code where
  | ok | format | range | notFound | inUse | full | busy | empty
  | unknownCard | revoked | notEmbarked | notOccupant | area | privacy | granted | grantedReissue
  | unbound | held | presence | barred | cap | limit | daily | personTabs | terminalTabs | tabStoreFull
  | tabLines | noTab | nothingToVoid | queueFull | closedEmpty
  | permit | laneClosed | laneBusy | inTransit | repeated | wrongDirection | directionUnknown | holdAboard
  | tabsOpen | balanceOpen | notEmpty | past | genLimit | clockUnset | occupantsFull
  deriving DecidableEq, Repr

/-- The five presence states (00_scope.md, Terms; R24). -/
inductive Presence where
  | notEmbarked | aboard | ashore | disputed | disembarked
  deriving DecidableEq, Repr

/-- Configured and effective modes of a lane (R26). -/
inductive LaneMode where
  | closed | outbound | inbound | both
  deriving DecidableEq, Repr

/-- Direction of a permit or a passage (R26, R176). -/
inductive Direction where
  | outward | inward
  deriving DecidableEq, Repr

/-- The kind of a lock with its cabin number or area code (R63). -/
inductive LockKind where
  | cabin (number : Nat)
  | area (code : Nat)
  deriving DecidableEq, Repr

/-- The tax state (R115). -/
inductive TaxState where
  | sea | port
  deriving DecidableEq, Repr

/-- A tab reference: slot and use count (R88). -/
structure TabRef where
  slot : Nat
  use : Nat
  deriving DecidableEq, Repr

/-- A row of the venue table (R113). -/
structure VenueRow where
  inUse : Bool
  serviceRate : Nat
  serviceApplies : Bool
  taxRate : Nat
  taxable : Bool
  classDiscount : Bool
  deriving DecidableEq, Repr

/-- The fields of ADMIT PERSON (R8). -/
structure Admission where
  person : Nat
  cls : Nat
  cabin : Option Nat
  master : Bool
  holdAboard : Bool
  areas : BitVec 64
  creditLimit : Nat
  dailyLimit : Option Nat
  deriving DecidableEq, Repr

/-- The fields AMEND PERSON may name (R9); `none` is a field not named, and for a cabin or a daily limit
`some none` names "absent". -/
structure Amendment where
  cls : Option Nat
  cabin : Option (Option Nat)
  master : Option Bool
  holdAboard : Option Bool
  areas : Option (BitVec 64)
  creditLimit : Option Nat
  dailyLimit : Option (Option Nat)
  deriving DecidableEq, Repr

/-- The four status flags of a lock (R63, R176). -/
structure LockStatus where
  battery : Bool
  tamper : Bool
  ajar : Bool
  deadbolt : Bool
  deriving DecidableEq, Repr

/-- What a poll reply reports (R76). -/
structure PollReport where
  floor : Nat
  status : LockStatus
  released : Bool
  logCount : Nat
  deriving DecidableEq, Repr

/-- What a log reply carries (R77, R176); the entry counts when `present` is set. -/
structure LogReport where
  present : Bool
  serial : Serial
  time : Nat
  granted : Bool
  remaining : Nat
  deriving DecidableEq, Repr

/-- A link frame without its length and check (R175). -/
structure Frame where
  station : Nat
  kind : Byte
  tag : Byte
  body : List Byte
  deriving DecidableEq, Repr

/-- The steps of the part. Purser commands carry the tag of their command frame first (R177) and then
the fields written after the command's name; station frames carry their link's segment where there are
several, the station (terminal, lane or lock), the tag and the fields of their body (R176). -/
inductive Instr where
  /-- ADMIT_PERSON (R8). -/
  | admitPerson (tag : Tag) (a : Admission)
  /-- AMEND_PERSON (R9). -/
  | amendPerson (tag : Tag) (person : Nat) (a : Amendment)
  /-- RELEASE_PERSON (R18). -/
  | releasePerson (tag : Tag) (person : Nat) (writeOff : Bool)
  /-- ISSUE_CARD (R11). -/
  | issueCard (tag : Tag) (person : Nat) (serial : Serial)
  /-- REVOKE_CARD (R13). -/
  | revokeCard (tag : Tag) (serial : Serial)
  /-- SET_CABIN (R7). -/
  | setCabin (tag : Tag) (cabin : Nat) (inUse : Bool) (label : Nat)
  /-- REKEY_CABIN (R15). -/
  | rekeyCabin (tag : Tag) (cabin : Nat)
  /-- POST_PAYMENT (R20). -/
  | postPayment (tag : Tag) (person : Nat) (amount : Int)
  /-- READ_PERSON (R21). -/
  | readPerson (tag : Tag) (person : Nat)
  /-- READ_CARD (R21). -/
  | readCard (tag : Tag) (serial : Serial)
  /-- READ_CABIN (R21). -/
  | readCabin (tag : Tag) (cabin : Nat)
  /-- SET_LANE (R28). -/
  | setLane (tag : Tag) (lane : Nat) (point : Nat) (mode : LaneMode)
  /-- SET_PERMIT_WINDOW (R28). -/
  | setPermitWindow (tag : Tag) (seconds : Nat)
  /-- SET_PRESENCE (R39). -/
  | setPresence (tag : Tag) (person : Nat) (state : Presence)
  /-- ARM_DEADLINE (R40). -/
  | armDeadline (tag : Tag) (time : Nat)
  /-- DISARM_DEADLINE (R40). -/
  | disarmDeadline (tag : Tag)
  /-- READ_COUNTS (R43). -/
  | readCounts (tag : Tag)
  /-- ENROL_LOCK (R65). -/
  | enrolLock (tag : Tag) (segment : Nat) (station : Nat) (kind : LockKind)
  /-- WITHDRAW_LOCK (R66). -/
  | withdrawLock (tag : Tag) (segment : Nat) (station : Nat)
  /-- SET_SEGMENT (R82): doze timer code, poll spacing in ms, contact window in minutes, station list. -/
  | setSegment (tag : Tag) (segment : Nat) (doze : Nat) (spacing : Nat) (window : Nat) (list : List (Nat × Bool))
  /-- RETRAIN_SEGMENT (R83). -/
  | retrainSegment (tag : Tag) (segment : Nat)
  /-- READ_SEGMENT (R84). -/
  | readSegment (tag : Tag) (segment : Nat) (first : Nat) (count : Nat)
  /-- ALL_RELEASE (R80); segment 255 is the code for all four (R178). -/
  | allRelease (tag : Tag) (segment : Nat)
  /-- ALL_RESTORE (R80). -/
  | allRestore (tag : Tag) (segment : Nat)
  /-- BIND_TERMINAL (R87). -/
  | bindTerminal (tag : Tag) (terminal : Nat) (venue : Option Nat)
  /-- SET_HOLD (R91). -/
  | setHold (tag : Tag) (venue : Nat) (held : Bool)
  /-- FORCE_CLOSE (R101). -/
  | forceClose (tag : Tag) (slot : Nat)
  /-- SET_RESTRICTION (R102). -/
  | setRestriction (tag : Tag) (cls : Nat) (venue : Nat) (barred : BitVec 16)
  /-- SET_REFUSAL_REPORTING (R103). -/
  | setRefusalReporting (tag : Tag) (venue : Nat) (record : Bool) (notice : Bool)
  /-- READ_TAB (R104). -/
  | readTab (tag : Tag) (slot : Nat)
  /-- READ_TERMINAL (R104). -/
  | readTerminal (tag : Tag) (terminal : Nat)
  /-- SET_VENUE (R113). -/
  | setVenue (tag : Tag) (venue : Nat) (row : VenueRow)
  /-- SET_CLASS (R114). -/
  | setClass (tag : Tag) (cls : Nat) (rate : Nat) (capCode : Nat)
  /-- SET_TAX_STATE (R115). -/
  | setTaxState (tag : Tag) (state : TaxState)
  /-- SET_CAP (R116). -/
  | setCap (tag : Tag) (capped : BitVec 16) (window : Nat)
  /-- READ_VENUE_SETTINGS (R122). -/
  | readVenueSettings (tag : Tag)
  /-- TAKE_POSTING (R133). -/
  | takePosting (tag : Tag)
  /-- READ_QUEUE_STATUS (R134). -/
  | readQueueStatus (tag : Tag)
  /-- START_OPERATION (R139): the kind's code, so that an unknown kind can be named. -/
  | startOperation (tag : Tag) (kind : Nat) (first : Nat) (last : Nat)
  /-- ABORT_OPERATION (R142). -/
  | abortOperation (tag : Tag)
  /-- READ_OPERATION (R149). -/
  | readOperation (tag : Tag)
  /-- SET_CLOCK (R153). -/
  | setClock (tag : Tag) (time : Nat)
  /-- CLEAR_ALL (R158). -/
  | clearAll (tag : Tag)
  /-- READ_CLOCK (R161). -/
  | readClock (tag : Tag)
  /-- ENABLE_LINK (R170). -/
  | enableLink (tag : Tag) (link : Nat)
  /-- DISABLE_LINK (R170). -/
  | disableLink (tag : Tag) (link : Nat)
  /-- RETRAIN_LINK (R170). -/
  | retrainLink (tag : Tag) (link : Nat)
  /-- READ_LINK (R170). -/
  | readLink (tag : Tag) (link : Nat)
  /-- READ_NOTICES (R183). -/
  | readNotices (tag : Tag)
  /-- CLEAR_NOTICES (R183); the set as its three bytes carry it. -/
  | clearNotices (tag : Tag) (kinds : BitVec 24)
  /-- SET_ENABLES (R183). -/
  | setEnables (tag : Tag) (kinds : BitVec 24)
  /-- READ_FAULTS (R186). -/
  | readFaults (tag : Tag)
  /-- CLEAR_FAULTS (R186); the set as its two bytes carry it. -/
  | clearFaults (tag : Tag) (kinds : BitVec 16)
  /-- SET_MASKS (R186). -/
  | setMasks (tag : Tag) (masks : BitVec 16) (severe : BitVec 16)
  /-- COMMAND_WRITE (R171, R172): every byte written on PDI in one transaction, the select byte first. -/
  | commandWrite (bytes : List Byte)
  /-- ANSWER_READ (R173): how many bytes are clocked out after the select byte. -/
  | answerRead (count : Nat)
  /-- LINK_FRAME_ARRIVAL (R167): the bytes of one frame as received on a link. -/
  | linkFrameArrival (link : Nat) (bytes : List Byte)
  /-- TRAIN_REPLY (R165): a TRAIN REPLY with its hub kind. -/
  | trainReply (link : Nat) (hubKind : Nat)
  /-- PRESENTATION (R46). -/
  | presentation (segment : Nat) (station : Nat) (tag : Byte) (serial : Serial) (generation : Nat) (deadbolt : Bool)
  /-- PUSH_ACK (R70). -/
  | pushAck (segment : Nat) (station : Nat) (tag : Byte) (floor : Nat)
  /-- POLL_REPLY (R76). -/
  | pollReply (segment : Nat) (station : Nat) (tag : Byte) (report : PollReport)
  /-- LOG_REPLY (R77). -/
  | logReply (segment : Nat) (station : Nat) (tag : Byte) (report : LogReport)
  /-- OPEN_TAB (R93). -/
  | openTab (station : Nat) (tag : Byte) (serial : Serial)
  /-- ADD_LINE (R95). -/
  | addLine (station : Nat) (tag : Byte) (ref : TabRef) (category : Nat) (price : Nat) (quantity : Nat)
  /-- VOID_LAST (R97). -/
  | voidLast (station : Nat) (tag : Byte) (ref : TabRef)
  /-- CLOSE_TAB (R98). -/
  | closeTab (station : Nat) (tag : Byte) (ref : TabRef) (tip : Nat)
  /-- QUICK_SALE (R100). -/
  | quickSale (station : Nat) (tag : Byte) (serial : Serial) (category : Nat) (price : Nat) (quantity : Nat) (tip : Nat)
  /-- QUERY_BALANCE (R99). -/
  | queryBalance (station : Nat) (tag : Byte) (serial : Serial)
  /-- SCAN (R29). -/
  | scan (lane : Nat) (tag : Byte) (serial : Serial)
  /-- PASSAGE (R33). -/
  | passage (lane : Nat) (tag : Byte) (direction : Direction)
  /-- EVIDENCE (R38): PU takes the oldest piece of evidence sent to it. -/
  | evidence
  /-- PERMIT_EXPIRY (R32). -/
  | permitExpiry (lane : Nat)
  /-- DEADLINE_EXPIRY (R41). -/
  | deadlineExpiry
  /-- DOOR_ANSWER (R53). -/
  | doorAnswer (segment : Nat)
  /-- BROADCAST (R80). -/
  | broadcast (segment : Nat)
  /-- PUSH (R70). -/
  | push (segment : Nat)
  /-- LOG_FETCH (R77). -/
  | logFetch (segment : Nat)
  /-- POLL (R75). -/
  | poll (segment : Nat)
  /-- VENUE_ANSWER (R90). -/
  | venueAnswer
  /-- LANE_ANSWER (R29). -/
  | laneAnswer
  /-- REPLY_WAIT_EXPIRY (R73). -/
  | replyWaitExpiry (segment : Nat)
  /-- CONTACT_DEADLINE (R78). -/
  | contactDeadline (segment : Nat) (station : Nat)
  /-- DOZE (R79). -/
  | doze (segment : Nat)
  /-- TRAIN (R165). -/
  | train (link : Nat)
  /-- TRAINING_ATTEMPT_END (R165). -/
  | trainingAttemptEnd (link : Nat)
  /-- KEEPALIVE_SEND (R166). -/
  | keepaliveSend (link : Nat)
  /-- HUB_SILENT (R166). -/
  | hubSilent (link : Nat)
  /-- MUSTER_ENTRY (R159). -/
  | musterEntry
  /-- MUSTER_EXIT (R159). -/
  | musterExit
  /-- SUPM_LOSS (R156). -/
  | supmLoss
  /-- SUPM_RETURN (R156), with the level of the MUSTER line as the filter holds it (log 16). -/
  | supmReturn (musterLevel : Bool)
  /-- SUPB_LOSS (R156). -/
  | supbLoss
  /-- RESET_ASSERT (R157). -/
  | resetAssert
  /-- RESET_RELEASE (R157). -/
  | resetRelease
  /-- DAY_CLOSE_PERSONS_STEP (R145). -/
  | dayClosePersonsStep
  /-- DAY_CLOSE_CARDS_STEP (R146). -/
  | dayCloseCardsStep
  /-- CABIN_REKEY_STEP (R147). -/
  | cabinRekeyStep
  /-- FINAL_DISEMBARK_STEP (R148). -/
  | finalDisembarkStep
  /-- RESEND (R71). -/
  | resend (segment : Nat)
  /-- SUPB_RETURN (R156). -/
  | supbReturn
  deriving DecidableEq, Repr

end Sys2Proof
end

