-- ==== Sys2Proof/WellFormed.lean ====
section
/-! DEFINITION. When a command's operands fit the fields that carry them: the widths of R175, R176 and
R178, and, for the steps of the part's own, links 0 to 5 (R162) and segments 0 to 3. The checks on ranges
and states are the owners' (R172) and stand in their meanings. -/

namespace Sys2Proof

/-- Fits a field of one byte (R178). -/
def fits1 (n : Nat) : Bool := n < 256
/-- Fits a field of two bytes (R178). -/
def fits2 (n : Nat) : Bool := n < 65536
/-- Fits a field of four bytes (R178). -/
def fits4 (n : Nat) : Bool := n < 4294967296
/-- Fits a signed field of four bytes, two's complement (R174). -/
def fitsSigned (n : Int) : Bool := -2147483648 ≤ n && n < 2147483648
/-- A link number (R162). -/
def isLink (n : Nat) : Bool := n < 6
/-- A segment number. -/
def isSegment (n : Nat) : Bool := n < 4

def TabRef.wf (r : TabRef) : Bool := fits1 r.slot && fits1 r.use
def LockKind.wf : LockKind → Bool
  | .cabin n => fits2 n
  | .area n => fits2 n
def VenueRow.wf (r : VenueRow) : Bool := fits4 r.serviceRate && fits4 r.taxRate
def Admission.wf (a : Admission) : Bool :=
  fits2 a.person && fits1 a.cls && a.cabin.all fits2 && fits4 a.creditLimit && a.dailyLimit.all fits4
def Amendment.wf (a : Amendment) : Bool :=
  a.cls.all fits1 && a.cabin.all (·.all fits2) && a.creditLimit.all fits4 && a.dailyLimit.all (·.all fits4)
def PollReport.wf (r : PollReport) : Bool := fits2 r.floor && fits1 r.logCount
def LogReport.wf (r : LogReport) : Bool := fits4 r.time && fits1 r.remaining

/-- A command whose every operand fits its field. -/
def Instr.wf : Instr → Bool
  | .admitPerson _ a => a.wf
  | .amendPerson _ p a => fits2 p && a.wf
  | .releasePerson _ p _ => fits2 p
  | .issueCard _ p _ => fits2 p
  | .revokeCard _ _ => true
  | .setCabin _ c _ l => fits2 c && fits2 l
  | .rekeyCabin _ c => fits2 c
  | .postPayment _ p a => fits2 p && fitsSigned a
  | .readPerson _ p => fits2 p
  | .readCard _ _ => true
  | .readCabin _ c => fits2 c
  | .setLane _ l p _ => fits1 l && fits1 p
  | .setPermitWindow _ n => fits4 n
  | .setPresence _ p _ => fits2 p
  | .armDeadline _ t => fits4 t
  | .disarmDeadline _ => true
  | .readCounts _ => true
  | .enrolLock _ g st k => fits1 g && fits2 st && k.wf
  | .withdrawLock _ g st => fits1 g && fits2 st
  | .setSegment _ g d sp w list =>
      fits1 g && fits1 d && fits4 sp && fits4 w && fits2 list.length && list.all fun e => fits2 e.1
  | .retrainSegment _ g => fits1 g
  | .readSegment _ g f n => fits1 g && fits2 f && fits4 n
  | .allRelease _ g => fits1 g
  | .allRestore _ g => fits1 g
  | .bindTerminal _ t v => fits1 t && v.all fits1
  | .setHold _ v _ => fits1 v
  | .forceClose _ n => fits1 n
  | .setRestriction _ c v _ => fits1 c && fits1 v
  | .setRefusalReporting _ v _ _ => fits1 v
  | .readTab _ n => fits1 n
  | .readTerminal _ t => fits1 t
  | .setVenue _ v row => fits1 v && row.wf
  | .setClass _ c r k => fits1 c && fits4 r && fits1 k
  | .setTaxState _ _ => true
  | .setCap _ _ w => fits4 w
  | .readVenueSettings _ => true
  | .takePosting _ => true
  | .readQueueStatus _ => true
  | .startOperation _ k f l => fits1 k && fits2 f && fits2 l
  | .abortOperation _ => true
  | .readOperation _ => true
  | .setClock _ t => fits4 t
  | .clearAll _ => true
  | .readClock _ => true
  | .enableLink _ l => fits1 l
  | .disableLink _ l => fits1 l
  | .retrainLink _ l => fits1 l
  | .readLink _ l => fits1 l
  | .readNotices _ => true
  | .clearNotices _ _ => true
  | .setEnables _ _ => true
  | .readFaults _ => true
  | .clearFaults _ _ => true
  | .setMasks _ _ _ => true
  | .commandWrite _ => true
  | .answerRead _ => true
  | .linkFrameArrival l _ => isLink l
  | .trainReply l k => isLink l && fits1 k
  | .presentation g st _ _ gen _ => isSegment g && fits2 st && fits2 gen
  | .pushAck g st _ f => isSegment g && fits2 st && fits2 f
  | .pollReply g st _ r => isSegment g && fits2 st && r.wf
  | .logReply g st _ r => isSegment g && fits2 st && r.wf
  | .openTab st _ _ => fits2 st
  | .addLine st _ r c p q => fits2 st && r.wf && fits1 c && fits4 p && fits1 q
  | .voidLast st _ r => fits2 st && r.wf
  | .closeTab st _ r t => fits2 st && r.wf && fits4 t
  | .quickSale st _ _ c p q t => fits2 st && fits1 c && fits4 p && fits1 q && fits4 t
  | .queryBalance st _ _ => fits2 st
  | .scan l _ _ => fits2 l
  | .passage l _ _ => fits2 l
  | .evidence => true
  | .permitExpiry l => 1 ≤ l && l ≤ 8
  | .deadlineExpiry => true
  | .doorAnswer g => isSegment g
  | .broadcast g => isSegment g
  | .push g => isSegment g
  | .logFetch g => isSegment g
  | .poll g => isSegment g
  | .venueAnswer => true
  | .laneAnswer => true
  | .replyWaitExpiry g => isSegment g
  | .contactDeadline g st => isSegment g && 1 ≤ st && st ≤ 600
  | .doze g => isSegment g
  | .train l => isLink l
  | .trainingAttemptEnd l => isLink l
  | .keepaliveSend l => isLink l
  | .hubSilent l => isLink l
  | .musterEntry => true
  | .musterExit => true
  | .supmLoss => true
  | .supmReturn _ => true
  | .supbLoss => true
  | .resetAssert => true
  | .resetRelease => true
  | .dayClosePersonsStep => true
  | .dayCloseCardsStep => true
  | .cabinRekeyStep => true
  | .finalDisembarkStep => true
  | .resend g => isSegment g
  | .supbReturn => true

end Sys2Proof
end

