-- ==== Sys2Proof/Decode.lean ====
section
/-! DEFINITION. The byte layouts: fields, the frame check, link frames and command frames (R174 to R178,
R180), with the encoding of the steps that a frame carries beside their decoding. No row of
spec/opcode_table.json gives bits, so decodeTableWord reads no instruction from a word. -/

namespace Sys2Proof

/-! ### Fields (R174, R178) -/

/-- A number as `n` bytes, most significant first (R174). -/
def be : Nat → Nat → List Byte
  | 0, _ => []
  | n + 1, v => BitVec.ofNat 8 (v / 256 ^ n) :: be n v

/-- The number that bytes spell, most significant first (R174). -/
def ofBe (bs : List Byte) : Nat := bs.foldl (fun acc b => acc * 256 + b.toNat) 0

/-- A signed amount as four bytes in two's complement (R174). -/
def be4Signed (v : Int) : List Byte := be 4 (v % 4294967296).toNat

/-- The signed amount four bytes spell (R174). -/
def signed4 (n : Nat) : Int := if n < 2147483648 then n else (n : Int) - 4294967296

/-- A single flag (R178). -/
def flagByte (b : Bool) : List Byte := [if b then 1 else 0]

/-- Flags named together, the first at bit 0 (R178). -/
def flagsByte (bs : List Bool) : List Byte :=
  [BitVec.ofNat 8 (bs.foldr (fun b acc => acc * 2 + b.toNat) 0)]

/-- An optional field: presence byte, then the field when present (R174; log 12). -/
def opt {α : Type} (f : α → List Byte) : Option α → List Byte
  | none => [0]
  | some a => 1 :: f a

/-- An optional person reads 0xFFFF when absent (R174). -/
def optPerson (p : Option Nat) : List Byte := be 2 (p.getD 65535)

/-- A list: a two-byte count, then its items (R178). -/
def listOf {α : Type} (f : α → List Byte) (l : List α) : List Byte := be 2 l.length ++ l.flatMap f

/-- A card serial (R178). -/
def serialBytes (s : Serial) : List Byte := be 6 s.toNat

/-- A tab reference (R178). -/
def refBytes (r : TabRef) : List Byte := be 1 r.slot ++ be 1 r.use

/-! ### The frame check (R174) -/

/-- One bit of the check: x^16 + x^12 + x^5 + 1. -/
def crcBit (crc : BitVec 16) : BitVec 16 :=
  if crc.msb then (crc <<< 1) ^^^ 0x1021#16 else crc <<< 1

/-- One byte of the check, most significant bit first. -/
def crcByte (crc : BitVec 16) (b : Byte) : BitVec 16 :=
  crcBit (crcBit (crcBit (crcBit (crcBit (crcBit (crcBit (crcBit
    (crc ^^^ (b.setWidth 16 <<< 8)))))))))

/-- The 16-bit check of R174: register preset to 0xFFFF, no final inversion. -/
def crc (bs : List Byte) : BitVec 16 := bs.foldl crcByte 0xFFFF#16

/-- The check as sent, high byte first (R174). -/
def crcBytes (bs : List Byte) : List Byte := be 2 (crc bs).toNat

/-! ### Named values (R178: the position in the list where the manual first gives it; log 13) -/

/-- The number of an outcome code: its position in R1's table (R174). -/
def Code.number (c : Code) : Nat := c.ctorIdx

def Presence.code : Presence → Nat
  | .notEmbarked => 0 | .aboard => 1 | .ashore => 2 | .disputed => 3 | .disembarked => 4
def Presence.ofCode : Nat → Option Presence
  | 0 => some .notEmbarked | 1 => some .aboard | 2 => some .ashore | 3 => some .disputed
  | 4 => some .disembarked | _ => none
def LaneMode.code : LaneMode → Nat
  | .closed => 0 | .outbound => 1 | .inbound => 2 | .both => 3
def LaneMode.ofCode : Nat → Option LaneMode
  | 0 => some .closed | 1 => some .outbound | 2 => some .inbound | 3 => some .both | _ => none
def Direction.code : Direction → Nat
  | .outward => 0 | .inward => 1
def Direction.ofCode : Nat → Option Direction
  | 0 => some .outward | 1 => some .inward | _ => none
def TaxState.code : TaxState → Nat
  | .sea => 0 | .port => 1
def TaxState.ofCode : Nat → Option TaxState
  | 0 => some .sea | 1 => some .port | _ => none
def LockKind.bytes : LockKind → List Byte
  | .cabin n => 0 :: be 2 n
  | .area n => 1 :: be 2 n

/-- The cabin of a CABIN lock. -/
def LockKind.cabin? : LockKind → Option Nat
  | .cabin n => some n
  | .area _ => none

/-- The four status flags in one byte (R176). -/
def LockStatus.bytes (s : LockStatus) : List Byte := flagsByte [s.battery, s.tamper, s.ajar, s.deadbolt]
def LockStatus.ofByte (b : Byte) : LockStatus :=
  { battery := b.getLsbD 0, tamper := b.getLsbD 1, ajar := b.getLsbD 2, deadbolt := b.getLsbD 3 }

/-! ### Link frames (R175, R176) -/

/-- The three kinds of link: venue, gangway, lock (R165, R176). -/
def linkKind : Nat → Nat
  | 0 => 0
  | 1 => 1
  | _ => 2

/-- The bytes a frame's check covers: station to the end of the body (R174). -/
def Frame.covered (f : Frame) : List Byte :=
  be 2 f.station ++ f.kind :: f.tag :: BitVec.ofNat 8 f.body.length :: f.body

/-- A frame as sent on a link (R175). -/
def Frame.bytes (f : Frame) : List Byte := f.covered ++ crcBytes f.covered

/-- The fixed body length of a kind that a hub sends on this kind of link; `none` for every other kind
(R176). -/
def hubBodyLength (lk : Nat) (kind : Byte) : Option Nat :=
  match kind.toNat, linkKind lk with
  | 0x02, _ => some 1
  | 0x03, _ => some 0
  | 0x10, 2 => some 9
  | 0x13, 2 => some 2
  | 0x15, 2 => some 5
  | 0x17, 2 => some 13
  | 0x20, 0 => some 6
  | 0x21, 0 => some 8
  | 0x22, 0 => some 2
  | 0x23, 0 => some 6
  | 0x24, 0 => some 16
  | 0x25, 0 => some 6
  | 0x30, 1 => some 6
  | 0x31, 1 => some 1
  | _, _ => none

/-- Byte `n` of a body. -/
def byteAt (body : List Byte) (n : Nat) : Nat := (body.getD n 0).toNat

/-- Every coded field of a hub's frame holds a value that R176 gives for it. -/
def codedFieldsOk (kind : Byte) (body : List Byte) : Bool :=
  match kind.toNat with
  | 0x02 => byteAt body 0 ≤ 2
  | 0x10 => byteAt body 8 ≤ 1
  | 0x15 => byteAt body 2 < 16 && byteAt body 3 ≤ 1
  | 0x17 => byteAt body 0 ≤ 1 && byteAt body 11 ≤ 1
  | 0x31 => byteAt body 0 ≤ 1
  | _ => true

/-- What the checks of an arriving frame find (R167). -/
inductive FrameCheck where
  | form
  | check
  | good (f : Frame)
  deriving DecidableEq, Repr

/-- R167: the three checks in their order, the first failure deciding. -/
def checkFrame (lk : Nat) (bs : List Byte) : FrameCheck :=
  let n := byteAt bs 4
  if bs.length < 7 ∨ bs.length ≠ 5 + n + 2 ∨ 64 < n then .form
  else if bs.drop (5 + n) ≠ crcBytes (bs.take (5 + n)) then .check
  else
    let kind := bs.getD 2 0
    let body := (bs.drop 5).take n
    if hubBodyLength lk kind = some n ∧ codedFieldsOk kind body = true then
      .good { station := ofBe (bs.take 2), kind := kind, tag := bs.getD 3 0, body := body }
    else .form

/-- The link that a segment's controller serves (R162). -/
def segLink (seg : Nat) : Nat := 2 + seg

/-- The link and frame of a step that takes a station frame (R175, R176, R178). -/
def Instr.stationFrame : Instr → Option (Nat × Frame)
  | .presentation g st tag serial gen bolt =>
      some (segLink g, ⟨st, 0x10, tag, serialBytes serial ++ be 2 gen ++ flagByte bolt⟩)
  | .pushAck g st tag floor => some (segLink g, ⟨st, 0x13, tag, be 2 floor⟩)
  | .pollReply g st tag r =>
      some (segLink g, ⟨st, 0x15, tag, be 2 r.floor ++ r.status.bytes ++ flagByte r.released ++ be 1 r.logCount⟩)
  | .logReply g st tag r =>
      some (segLink g, ⟨st, 0x17, tag,
        flagByte r.present ++ serialBytes r.serial ++ be 4 r.time ++ flagByte r.granted ++ be 1 r.remaining⟩)
  | .openTab st tag serial => some (0, ⟨st, 0x20, tag, serialBytes serial⟩)
  | .addLine st tag r c p q => some (0, ⟨st, 0x21, tag, refBytes r ++ be 1 c ++ be 4 p ++ be 1 q⟩)
  | .voidLast st tag r => some (0, ⟨st, 0x22, tag, refBytes r⟩)
  | .closeTab st tag r t => some (0, ⟨st, 0x23, tag, refBytes r ++ be 4 t⟩)
  | .quickSale st tag serial c p q t =>
      some (0, ⟨st, 0x24, tag, serialBytes serial ++ be 1 c ++ be 4 p ++ be 1 q ++ be 4 t⟩)
  | .queryBalance st tag serial => some (0, ⟨st, 0x25, tag, serialBytes serial⟩)
  | .scan l tag serial => some (1, ⟨l, 0x30, tag, serialBytes serial⟩)
  | .passage l tag d => some (1, ⟨l, 0x31, tag, be 1 d.code⟩)
  | _ => none

/-- The number at `len` bytes from `at`. -/
def numAt (body : List Byte) (start len : Nat) : Nat := ofBe ((body.drop start).take len)

/-- The step that takes a station frame which has passed the checks of R167. -/
def decodeStation (lk : Nat) (f : Frame) : Option Instr :=
  let b := f.body
  let serial := BitVec.ofNat 48 (numAt b 0 6)
  let ref : TabRef := ⟨byteAt b 0, byteAt b 1⟩
  match f.kind.toNat, linkKind lk with
  | 0x10, 2 => some (.presentation (lk - 2) f.station f.tag serial (numAt b 6 2) (byteAt b 8 == 1))
  | 0x13, 2 => some (.pushAck (lk - 2) f.station f.tag (numAt b 0 2))
  | 0x15, 2 => some (.pollReply (lk - 2) f.station f.tag
      ⟨numAt b 0 2, LockStatus.ofByte (b.getD 2 0), byteAt b 3 == 1, byteAt b 4⟩)
  | 0x17, 2 => some (.logReply (lk - 2) f.station f.tag
      ⟨byteAt b 0 == 1, BitVec.ofNat 48 (numAt b 1 6), numAt b 7 4, byteAt b 11 == 1, byteAt b 12⟩)
  | 0x20, 0 => some (.openTab f.station f.tag serial)
  | 0x21, 0 => some (.addLine f.station f.tag ref (byteAt b 2) (numAt b 3 4) (byteAt b 7))
  | 0x22, 0 => some (.voidLast f.station f.tag ref)
  | 0x23, 0 => some (.closeTab f.station f.tag ref (numAt b 2 4))
  | 0x24, 0 => some (.quickSale f.station f.tag serial (byteAt b 6) (numAt b 7 4) (byteAt b 11) (numAt b 12 4))
  | 0x25, 0 => some (.queryBalance f.station f.tag serial)
  | 0x30, 1 => some (.scan f.station f.tag serial)
  | 0x31, 1 => (Direction.ofCode (byteAt b 0)).map fun d => .passage f.station f.tag d
  | _, _ => none

/-! ### Command frames (R177, R178, R180) -/

/-- The fields AMEND PERSON may name, each behind its naming byte (R178). -/
def Amendment.bytes (a : Amendment) : List Byte :=
  opt (be 1) a.cls ++ opt (opt (be 2)) a.cabin ++ opt flagByte a.master ++ opt flagByte a.holdAboard ++
    opt (fun s => be 8 s.toNat) a.areas ++ opt (be 4) a.creditLimit ++ opt (opt (be 4)) a.dailyLimit

def VenueRow.bytes (r : VenueRow) : List Byte :=
  flagByte r.inUse ++ be 4 r.serviceRate ++ flagByte r.serviceApplies ++ be 4 r.taxRate ++
    flagByte r.taxable ++ flagByte r.classDiscount

/-- A purser command as its command frame carries it: command code (R180), tag and body (R178). `none`
for a step that is no purser command. The venue of BIND TERMINAL is an optional field, absent for unbound (DEDUCED,
log 45). -/
def Instr.command : Instr → Option (Nat × Tag × List Byte)
  | .admitPerson t a => some (1, t, be 2 a.person ++ be 1 a.cls ++ opt (be 2) a.cabin ++ flagByte a.master ++
      flagByte a.holdAboard ++ be 8 a.areas.toNat ++ be 4 a.creditLimit ++ opt (be 4) a.dailyLimit)
  | .amendPerson t p a => some (2, t, be 2 p ++ a.bytes)
  | .releasePerson t p w => some (3, t, be 2 p ++ flagByte w)
  | .issueCard t p s => some (4, t, be 2 p ++ serialBytes s)
  | .revokeCard t s => some (5, t, serialBytes s)
  | .setCabin t c u l => some (6, t, be 2 c ++ flagByte u ++ be 2 l)
  | .rekeyCabin t c => some (7, t, be 2 c)
  | .postPayment t p a => some (8, t, be 2 p ++ be4Signed a)
  | .readPerson t p => some (9, t, be 2 p)
  | .readCard t s => some (10, t, serialBytes s)
  | .readCabin t c => some (11, t, be 2 c)
  | .setLane t l p m => some (12, t, be 1 l ++ be 1 p ++ be 1 m.code)
  | .setPermitWindow t n => some (13, t, be 4 n)
  | .setPresence t p st => some (14, t, be 2 p ++ be 1 st.code)
  | .armDeadline t n => some (15, t, be 4 n)
  | .disarmDeadline t => some (16, t, [])
  | .readCounts t => some (17, t, [])
  | .enrolLock t g st k => some (18, t, be 1 g ++ be 2 st ++ k.bytes)
  | .withdrawLock t g st => some (19, t, be 1 g ++ be 2 st)
  | .setSegment t g d sp w l => some (20, t, be 1 g ++ be 1 d ++ be 4 sp ++ be 4 w ++
      listOf (fun e => be 2 e.1 ++ flagByte e.2) l)
  | .retrainSegment t g => some (21, t, be 1 g)
  | .readSegment t g f n => some (22, t, be 1 g ++ be 2 f ++ be 4 n)
  | .allRelease t g => some (23, t, be 1 g)
  | .allRestore t g => some (24, t, be 1 g)
  | .bindTerminal t n v => some (25, t, be 1 n ++ opt (be 1) v)
  | .setHold t v h => some (26, t, be 1 v ++ flagByte h)
  | .forceClose t n => some (27, t, be 1 n)
  | .setRestriction t c v b => some (28, t, be 1 c ++ be 1 v ++ be 2 b.toNat)
  | .setRefusalReporting t v r n => some (29, t, be 1 v ++ flagByte r ++ flagByte n)
  | .readTab t n => some (30, t, be 1 n)
  | .readTerminal t n => some (31, t, be 1 n)
  | .setVenue t v row => some (32, t, be 1 v ++ row.bytes)
  | .setClass t c r k => some (33, t, be 1 c ++ be 4 r ++ be 1 k)
  | .setTaxState t st => some (34, t, be 1 st.code)
  | .setCap t s w => some (35, t, be 2 s.toNat ++ be 4 w)
  | .readVenueSettings t => some (36, t, [])
  | .takePosting t => some (37, t, [])
  | .readQueueStatus t => some (38, t, [])
  | .startOperation t k f l => some (39, t, be 1 k ++ be 2 f ++ be 2 l)
  | .abortOperation t => some (40, t, [])
  | .readOperation t => some (41, t, [])
  | .setClock t n => some (42, t, be 4 n)
  | .clearAll t => some (43, t, [])
  | .readClock t => some (44, t, [])
  | .enableLink t l => some (45, t, be 1 l)
  | .disableLink t l => some (46, t, be 1 l)
  | .retrainLink t l => some (47, t, be 1 l)
  | .readLink t l => some (48, t, be 1 l)
  | .readNotices t => some (49, t, [])
  | .clearNotices t k => some (50, t, be 3 k.toNat)
  | .setEnables t k => some (51, t, be 3 k.toNat)
  | .readFaults t => some (52, t, [])
  | .clearFaults t k => some (53, t, be 2 k.toNat)
  | .setMasks t m v => some (54, t, be 2 m.toNat ++ be 2 v.toNat)
  | _ => none

/-- A field read from a body: its value, whether a coded field so far held no listed value, and the bytes
after it. -/
structure Read (α : Type) where
  val : α
  bad : Bool
  rest : List Byte

/-- Reads a field; `none` where the body is too short or a naming or presence byte is neither 0 nor 1
(R172, check 4; log 11). -/
abbrev Reader (α : Type) := List Byte → Option (Read α)

/-- One field after another. -/
def Reader.andThen {α β : Type} (r : Reader α) (k : α → Reader β) : Reader β := fun bs =>
  match r bs with
  | none => none
  | some x =>
    match k x.val x.rest with
    | none => none
    | some y => some { y with bad := x.bad || y.bad }

/-- No further field. -/
def Reader.done {α : Type} (a : α) : Reader α := fun bs => some ⟨a, false, bs⟩

/-- A number of `n` bytes. -/
def num (n : Nat) : Reader Nat := fun bs =>
  if bs.length < n then none else some ⟨ofBe (bs.take n), false, bs.drop n⟩

/-- A coded field of one byte; a code that names no value is bad (log 11). -/
def coded {α : Type} (f : Nat → Option α) (fallback : α) : Reader α := fun bs =>
  match bs with
  | [] => none
  | b :: rest =>
    match f b.toNat with
    | some a => some ⟨a, false, rest⟩
    | none => some ⟨fallback, true, rest⟩

def flagOfCode : Nat → Option Bool
  | 0 => some false | 1 => some true | _ => none

/-- A single flag. -/
def flag : Reader Bool := coded flagOfCode false

/-- A field behind its presence or naming byte. -/
def optional {α : Type} (r : Reader α) : Reader (Option α) := fun bs =>
  match bs with
  | [] => none
  | b :: rest =>
    if b = 0 then some ⟨none, false, rest⟩
    else if b = 1 then
      match r rest with
      | none => none
      | some x => some ⟨some x.val, x.bad, x.rest⟩
    else none

/-- `n` items one after another. -/
def items {α : Type} (r : Reader α) : Nat → Reader (List α)
  | 0 => Reader.done []
  | n + 1 => r.andThen fun a => (items r n).andThen fun l => Reader.done (a :: l)

def serialField : Reader Serial := (num 6).andThen fun n => Reader.done (BitVec.ofNat 48 n)

def lockKindOfCode : Nat → Option (Nat → LockKind)
  | 0 => some .cabin | 1 => some .area | _ => none

def venueRowField : Reader VenueRow :=
  flag.andThen fun u => (num 4).andThen fun sr => flag.andThen fun sa => (num 4).andThen fun tr =>
  flag.andThen fun tx => flag.andThen fun cd => Reader.done ⟨u, sr, sa, tr, tx, cd⟩

def amendmentField : Reader Amendment :=
  (optional (num 1)).andThen fun c => (optional (optional (num 2))).andThen fun cab =>
  (optional flag).andThen fun m => (optional flag).andThen fun h =>
  (optional ((num 8).andThen fun n => Reader.done (BitVec.ofNat 64 n))).andThen fun ar =>
  (optional (num 4)).andThen fun cl => (optional (optional (num 4))).andThen fun dl =>
  Reader.done ⟨c, cab, m, h, ar, cl, dl⟩

/-- The fields of the command with a given code (R178, R180); `none` where the code is no number of the
command index. -/
def commandFields (code : Nat) (t : Tag) : Option (Reader Instr) :=
  match code with
  | 1 => some <| (num 2).andThen fun p => (num 1).andThen fun c => (optional (num 2)).andThen fun cab =>
      flag.andThen fun m => flag.andThen fun h => (num 8).andThen fun ar => (num 4).andThen fun cl =>
      (optional (num 4)).andThen fun dl => Reader.done (.admitPerson t ⟨p, c, cab, m, h, BitVec.ofNat 64 ar, cl, dl⟩)
  | 2 => some <| (num 2).andThen fun p => amendmentField.andThen fun a => Reader.done (.amendPerson t p a)
  | 3 => some <| (num 2).andThen fun p => flag.andThen fun w => Reader.done (.releasePerson t p w)
  | 4 => some <| (num 2).andThen fun p => serialField.andThen fun s => Reader.done (.issueCard t p s)
  | 5 => some <| serialField.andThen fun s => Reader.done (.revokeCard t s)
  | 6 => some <| (num 2).andThen fun c => flag.andThen fun u => (num 2).andThen fun l => Reader.done (.setCabin t c u l)
  | 7 => some <| (num 2).andThen fun c => Reader.done (.rekeyCabin t c)
  | 8 => some <| (num 2).andThen fun p => (num 4).andThen fun a => Reader.done (.postPayment t p (signed4 a))
  | 9 => some <| (num 2).andThen fun p => Reader.done (.readPerson t p)
  | 10 => some <| serialField.andThen fun s => Reader.done (.readCard t s)
  | 11 => some <| (num 2).andThen fun c => Reader.done (.readCabin t c)
  | 12 => some <| (num 1).andThen fun l => (num 1).andThen fun p => (coded LaneMode.ofCode .closed).andThen fun m =>
      Reader.done (.setLane t l p m)
  | 13 => some <| (num 4).andThen fun n => Reader.done (.setPermitWindow t n)
  | 14 => some <| (num 2).andThen fun p => (coded Presence.ofCode .notEmbarked).andThen fun st =>
      Reader.done (.setPresence t p st)
  | 15 => some <| (num 4).andThen fun n => Reader.done (.armDeadline t n)
  | 16 => some <| Reader.done (.disarmDeadline t)
  | 17 => some <| Reader.done (.readCounts t)
  | 18 => some <| (num 1).andThen fun g => (num 2).andThen fun st => (coded lockKindOfCode .cabin).andThen fun k =>
      (num 2).andThen fun n => Reader.done (.enrolLock t g st (k n))
  | 19 => some <| (num 1).andThen fun g => (num 2).andThen fun st => Reader.done (.withdrawLock t g st)
  | 20 => some <| (num 1).andThen fun g => (num 1).andThen fun d => (num 4).andThen fun sp => (num 4).andThen fun w =>
      (num 2).andThen fun n => (items ((num 2).andThen fun st => flag.andThen fun b => Reader.done (st, b)) n).andThen fun l =>
      Reader.done (.setSegment t g d sp w l)
  | 21 => some <| (num 1).andThen fun g => Reader.done (.retrainSegment t g)
  | 22 => some <| (num 1).andThen fun g => (num 2).andThen fun f => (num 4).andThen fun n =>
      Reader.done (.readSegment t g f n)
  | 23 => some <| (num 1).andThen fun g => Reader.done (.allRelease t g)
  | 24 => some <| (num 1).andThen fun g => Reader.done (.allRestore t g)
  | 25 => some <| (num 1).andThen fun n => (optional (num 1)).andThen fun v => Reader.done (.bindTerminal t n v)
  | 26 => some <| (num 1).andThen fun v => flag.andThen fun h => Reader.done (.setHold t v h)
  | 27 => some <| (num 1).andThen fun n => Reader.done (.forceClose t n)
  | 28 => some <| (num 1).andThen fun c => (num 1).andThen fun v => (num 2).andThen fun b =>
      Reader.done (.setRestriction t c v (BitVec.ofNat 16 b))
  | 29 => some <| (num 1).andThen fun v => flag.andThen fun r => flag.andThen fun n =>
      Reader.done (.setRefusalReporting t v r n)
  | 30 => some <| (num 1).andThen fun n => Reader.done (.readTab t n)
  | 31 => some <| (num 1).andThen fun n => Reader.done (.readTerminal t n)
  | 32 => some <| (num 1).andThen fun v => venueRowField.andThen fun row => Reader.done (.setVenue t v row)
  | 33 => some <| (num 1).andThen fun c => (num 4).andThen fun r => (num 1).andThen fun k => Reader.done (.setClass t c r k)
  | 34 => some <| (coded TaxState.ofCode .sea).andThen fun st => Reader.done (.setTaxState t st)
  | 35 => some <| (num 2).andThen fun s => (num 4).andThen fun w => Reader.done (.setCap t (BitVec.ofNat 16 s) w)
  | 36 => some <| Reader.done (.readVenueSettings t)
  | 37 => some <| Reader.done (.takePosting t)
  | 38 => some <| Reader.done (.readQueueStatus t)
  | 39 => some <| (num 1).andThen fun k => (num 2).andThen fun f => (num 2).andThen fun l =>
      Reader.done (.startOperation t k f l)
  | 40 => some <| Reader.done (.abortOperation t)
  | 41 => some <| Reader.done (.readOperation t)
  | 42 => some <| (num 4).andThen fun n => Reader.done (.setClock t n)
  | 43 => some <| Reader.done (.clearAll t)
  | 44 => some <| Reader.done (.readClock t)
  | 45 => some <| (num 1).andThen fun l => Reader.done (.enableLink t l)
  | 46 => some <| (num 1).andThen fun l => Reader.done (.disableLink t l)
  | 47 => some <| (num 1).andThen fun l => Reader.done (.retrainLink t l)
  | 48 => some <| (num 1).andThen fun l => Reader.done (.readLink t l)
  | 49 => some <| Reader.done (.readNotices t)
  | 50 => some <| (num 3).andThen fun k => Reader.done (.clearNotices t (BitVec.ofNat 24 k))
  | 51 => some <| (num 3).andThen fun k => Reader.done (.setEnables t (BitVec.ofNat 24 k))
  | 52 => some <| Reader.done (.readFaults t)
  | 53 => some <| (num 2).andThen fun k => Reader.done (.clearFaults t (BitVec.ofNat 16 k))
  | 54 => some <| (num 2).andThen fun m => (num 2).andThen fun v =>
      Reader.done (.setMasks t (BitVec.ofNat 16 m) (BitVec.ofNat 16 v))
  | _ => none

/-- What the checks of a command frame find (R172; `range` is log 11). -/
inductive CommandCheck where
  | format
  | range
  | command (i : Instr)
  deriving DecidableEq, Repr

/-- Checks 3 and 4 of R172, and the coded fields. -/
def decodeCommand (code : Nat) (t : Tag) (body : List Byte) : CommandCheck :=
  match commandFields code t with
  | none => .format
  | some r =>
    match r body with
    | none => .format
    | some x => if x.rest ≠ [] then .format else if x.bad then .range else .command x.val

/-- A command frame as written after the select byte (R177). -/
def commandBytes (code : Nat) (t : Tag) (body : List Byte) : List Byte :=
  let head := be 1 code ++ be 2 t.toNat ++ be 2 body.length ++ body
  head ++ crcBytes head

/-- R172: the checks of the bytes that followed the select byte, in their order. -/
def checkCommand (bs : List Byte) : CommandCheck :=
  let n := numAt bs 3 2
  if bs.length < 7 ∨ bs.length ≠ 7 + n then .format
  else if bs.drop (5 + n) ≠ crcBytes (bs.take (5 + n)) then .format
  else decodeCommand (byteAt bs 0) (BitVec.ofNat 16 (numAt bs 1 2)) ((bs.drop 5).take n)

/-- No row of spec/opcode_table.json gives bits, so no word spells a command (log 7). -/
def decodeTableWord (_nbits _w : Nat) : Option Instr := none

end Sys2Proof
end

