-- ==== Sys2Proof/Config.lean ====
section
/-! DEFINITION. What the part fixes (00_scope.md, Principal Figures) and the free values: the constants
without a body, which stand for what the spec does not state. -/

namespace Sys2Proof.Config

/-- Person numbers 0 to 8191 (R2). -/
def lastPerson : Nat := 8191
/-- Cabin numbers 0 to 2047 (R6). -/
def lastCabin : Nat := 2047
/-- Card entries of the index (R5). -/
def cardEntries : Nat := 12288
/-- Occupants of a cabin (R6). -/
def cabinOccupants : Nat := 6
/-- The highest key generation (R6, R14). -/
def lastGeneration : Nat := 65535
/-- The top of every amount and of the balance's range (R3, R112). -/
def topAmount : Nat := 999999999
/-- Lock stations of a segment, 1 to 600 (R63). -/
def stations : Nat := 600
/-- Terminals 1 to 64 (R87). -/
def terminals : Nat := 64
/-- Venues 0 to 31 (R113). -/
def lastVenue : Nat := 31
/-- Guest classes 0 to 7 (R114). -/
def lastClass : Nat := 7
/-- Tab slots of the store (R88). -/
def tabSlots : Nat := 256
/-- Open tabs of one person (R88). -/
def personTabs : Nat := 2
/-- Open tabs of one terminal (R88). -/
def terminalTabs : Nat := 8
/-- Lines of one tab, voided ones included (R88). -/
def tabLines : Nat := 16
/-- Entries of a serving list (R117). -/
def servingEntries : Nat := 6
/-- Records of the posting queue (R125). -/
def queueRecords : Nat := 4096
/-- The reserve of the posting queue (R129). -/
def queueReserve : Nat := 256
/-- Frames of an intake queue (R168). -/
def intakeFrames : Nat := 16
/-- Saturation of a lane tally and of the unposted count (R26, R132). -/
def topTally : Nat := 65535
/-- The top of a 32-bit count: ship clock and open day (R152, R155). -/
def top32 : Nat := 4294967295
/-- A lane repeats within this many milliseconds of a crossing (R29). -/
def repeatMs : Nat := 5000
/-- The wait of a reply-expecting frame (R73). -/
def replyWaitMs : Nat := 40
/-- Sendings of a reply-expecting frame (R73). -/
def sendings : Nat := 4
/-- Unreachable locks in a row that take the link to RECOVERY (R74). -/
def unreachableLimit : Nat := 4
/-- One training attempt (R165). -/
def attemptMs : Nat := 1000
/-- Training attempts (R165). -/
def attempts : Nat := 3
/-- Spacing of TRAIN frames, and how many an attempt sends (R165). -/
def trainMs : Nat := 100
def trainsPerAttempt : Nat := 10
/-- A KEEPALIVE after this long without a frame sent (R166). -/
def keepAliveMs : Nat := 1000
/-- HUB_SILENT after this long without a good frame (R166). -/
def silenceMs : Nat := 3000
/-- The top of the elapsed base and of a doze counter, 48-bit counts (R154, R79). -/
def topMs : Nat := 281474976710655
/-- A change of the MUSTER line is taken once it has held this long (R159). -/
def filterMs : Nat := 50

/-- FREE VALUE. The tag of the n-th frame the part itself originates; the spec gives such a frame a tag
and does not say which (R175: "set by the sender of a request"). DESIGN CHOICE, safe, log 8. -/
opaque frameTag : Nat → Byte

/-- FREE VALUE. What READ LINK gives as the milliseconds since the last good frame, at an elapsed base,
while no good frame has come since the last reset (R170 states none). DESIGN CHOICE, safe, log 9. -/
opaque unheardMs : Nat → Nat

/-- FREE VALUE. What READ LINK gives in its four bytes for a figure that they do not hold (R170, R178). DESIGN
CHOICE, safe, log 9. -/
opaque wideMs : Nat → Nat

/-- FREE VALUE. What follows the top of a 48-bit count of milliseconds, which R154 says is not reached within the
service life of the part. DESIGN CHOICE, safe, log 34. -/
opaque pastTopMs : Nat → Nat

/-- FREE VALUE. The sweep-excluded flag of a station that SET SEGMENT lists more than once; R82's list
"holds no station twice" and says nothing of one that does. DESIGN CHOICE, safe, log 10. -/
opaque repeatedStationFlag : Nat → Bool

end Sys2Proof.Config
end

