-- ==== Sys2Proof/Machine/State.lean ====
section
/-! DEFINITION. Everything the spec gives the part to hold, as plain data, and its value after a COLD
reset. Tables are sparse: a person, card or lock that is not listed is FREE, absent or not enrolled; any
other record that is not listed has its cleared value. -/

namespace Sys2Proof.Machine

/-! ### Purser port (R171) -/

/-- The purser port's state with what it holds (R171). -/
inductive Port where
  /-- No command and no answer. -/
  | empty
  /-- A command taken and not yet answered. -/
  | busy (cmd : Instr)
  /-- A command taken and not yet answered, in whose frame a coded byte names no value of its list: its owner will answer
  RANGE (log 11, log 44). -/
  | busyUnlisted (tag : Tag)
  /-- The answer to the last command: tag, outcome code and body (R177). -/
  | answered (tag : Tag) (code : Code) (body : List Byte)
  deriving DecidableEq, Repr

/-- The purser port. `pdo` is the model's own record of the bytes clocked out by the last answer read
(DESIGN CHOICE, log 14). -/
structure PurserPort where
  port : Port
  pdo : List Byte
  deriving DecidableEq, Repr

/-! ### Links (R163 to R169) -/

/-- The six states of a link, in the order of the terms list of 00_scope.md. -/
inductive LinkState where
  | down | training | up | doze | recovery | failed
  deriving DecidableEq, Repr

/-- One station link. `sent` is the model's own record of the bytes of the last frame sent (log 14). -/
structure Link where
  state : LinkState
  /-- The three previous states, the most recent first (R164). -/
  history : List LinkState
  /-- The training attempt in progress, 0 outside TRAINING (R165, R170). -/
  attempt : Nat
  attemptStart : Nat
  /-- TRAIN frames sent in the attempt (R165). -/
  trains : Nat
  /-- When the silence timer last started (R166). -/
  silenceStart : Nat
  /-- When the part last sent a frame, or the keep-alive timer started again (R166). -/
  lastSend : Nat
  /-- When the last good frame came; `none` before any (R170, log 9). -/
  lastGood : Option Nat
  /-- The intake queue, oldest first (R168). -/
  intake : List Frame
  /-- Answers decided and not yet sent, oldest first (R71, R90). -/
  answers : List Frame
  sent : List Byte
  deriving DecidableEq, Repr

/-- A link after a COLD or WARM reset (R164, R165). -/
def Link.cold : Link :=
  { state := .training, history := [.down, .down, .down], attempt := 1, attemptStart := 0, trains := 0,
    silenceStart := 0, lastSend := 0, lastGood := none, intake := [], answers := [], sent := [] }

/-! ### Persons, cards and cabins (R2 to R6) -/

/-- The folio (R3). -/
structure Folio where
  balance : Int
  creditLimit : Nat
  held : Nat
  dailyLimit : Option Nat
  dailySpend : Nat
  day : Nat
  deriving DecidableEq, Repr

/-- An entry of a serving list (R117). -/
structure Serving where
  stamp : Nat
  slot : Nat
  line : Nat
  count : Nat
  deriving DecidableEq, Repr

/-- An OCCUPIED person record (R2, R24). -/
structure Person where
  cls : Nat
  cabin : Option Nat
  master : Bool
  holdAboard : Bool
  reissueDue : Bool
  areas : BitVec 64
  card : Option Serial
  folio : Folio
  tabs : List TabRef
  servings : List Serving
  presence : Presence
  ashoreSince : Option Nat
  permitLane : Option Nat
  lastLane : Option Nat
  lastCrossing : Option Nat
  deriving DecidableEq, Repr

/-- State of a card entry; a REVOKED one carries its revoked day (R5). -/
inductive CardState where
  | active
  | revoked (day : Nat)
  deriving DecidableEq, Repr

/-- A card entry, keyed by its serial (R5). -/
structure Card where
  person : Nat
  generation : Nat
  state : CardState
  issueTime : Nat
  deriving DecidableEq, Repr

/-- The card index: its entries by serial, and the serials of the REVOKED ones, oldest first (R5). -/
structure CardIndex where
  entries : Table Card
  order : List Serial
  deriving DecidableEq, Repr

/-- A cabin record (R6). -/
structure Cabin where
  inUse : Bool
  label : Nat
  occupants : List Nat
  keyGen : Nat
  /-- Segment and station of the bound lock. -/
  lock : Option (Nat × Nat)
  deriving DecidableEq, Repr

/-- A cabin after a COLD reset (R23). -/
def Cabin.cold : Cabin := { inUse := false, label := 0, occupants := [], keyGen := 0, lock := none }

/-! ### Presence unit (R24 to R44) -/

/-- The five presence counts (R25). -/
structure Counts where
  notEmbarked : Nat
  aboard : Nat
  ashore : Nat
  disputed : Nat
  disembarked : Nat
  deriving DecidableEq, Repr

/-- A permit on a lane (R26); the expiry is on the elapsed base. -/
structure Permit where
  person : Nat
  direction : Direction
  fromState : Presence
  expiry : Nat
  deriving DecidableEq, Repr

/-- The six tallies of a lane (R26). -/
structure Tallies where
  granted : Nat
  outward : Nat
  inward : Nat
  stale : Nat
  scanNoPass : Nat
  passNoScan : Nat
  deriving DecidableEq, Repr

/-- Tallies at 0. -/
def Tallies.zero : Tallies :=
  { granted := 0, outward := 0, inward := 0, stale := 0, scanNoPass := 0, passNoScan := 0 }

/-- A lane record (R26). -/
structure Lane where
  point : Nat
  configured : LaneMode
  effective : LaneMode
  permit : Option Permit
  tallies : Tallies
  deriving DecidableEq, Repr

/-- A lane after a COLD reset (R44). -/
def Lane.cold : Lane :=
  { point := 0, configured := .closed, effective := .closed, permit := none, tallies := Tallies.zero }

/-- The all-aboard deadline (R40). -/
structure Deadline where
  armed : Bool
  time : Nat
  passed : Bool
  deriving DecidableEq, Repr

/-- The muster snapshot (R42). -/
structure Snapshot where
  time : Nat
  aboard : Nat
  disputed : Nat
  ashore : Nat
  notEmbarked : Nat
  deriving DecidableEq, Repr

/-- The source of an ACCESS posting or of evidence (R128). -/
inductive Source where
  | door (segment station : Nat)
  | venue (venue terminal : Nat)
  | lane (lane : Nat)
  deriving DecidableEq, Repr

/-- A piece of evidence sent to PU (R38). -/
structure Evidence where
  person : Nat
  time : Nat
  serial : Serial
  source : Source
  offline : Bool
  deriving DecidableEq, Repr

/-- The presence unit's own state. -/
structure PresenceUnit where
  counts : Counts
  lanes : Table Lane
  permitWindow : Nat
  deadline : Deadline
  snapshot : Option Snapshot
  evidence : List Evidence
  deriving DecidableEq, Repr

/-! ### Segment controllers (R63 to R85) -/

/-- The four states of a lock (R64). -/
inductive LockState where
  | new | online | stale | unreachable
  deriving DecidableEq, Repr

/-- The release state of a lock (R63, R80). -/
inductive ReleaseState where
  | normal | releasePending | released | restorePending
  deriving DecidableEq, Repr

/-- An enrolled lock (R63). -/
structure Lock where
  kind : LockKind
  excluded : Bool
  state : LockState
  ackGen : Option Nat
  lastContact : Option Nat
  dozeAtContact : Nat
  status : LockStatus
  release : ReleaseState
  logCount : Nat
  deriving DecidableEq, Repr

/-- The three kinds of reply-expecting frame (R71). -/
inductive Asked where
  | push | logFetch | poll
  deriving DecidableEq, Repr

/-- The outstanding reply-expecting frame (R71 to R73). `waitEnd` is `none` while a resend that fell due is
held back (R71); `withdrawn` marks a station withdrawn since the sending (R66). -/
structure Outstanding where
  asked : Asked
  frame : Frame
  sendings : Nat
  waitEnd : Option Nat
  withdrawn : Bool
  deriving DecidableEq, Repr

/-- The due broadcast of a segment (R80). -/
inductive DueBroadcast where
  | none | allRelease | allRestore
  deriving DecidableEq, Repr

/-- The doze measure (R79): when it last started and the doze time it runs against; `limit` is `none` while
no measure runs or once a measure has been spent (log 22). -/
structure Measure where
  start : Nat
  limit : Option Nat
  deriving DecidableEq, Repr

/-- One segment controller. -/
structure Segment where
  roster : Table Lock
  pushes : List Nat
  fetches : List Nat
  cursor : Nat
  unreachable : Nat
  dozeCount : Nat
  /-- The doze timer's code, 0 OFF to 5 (R79). -/
  dozeTimer : Nat
  spacing : Nat
  /-- The requested contact window and the one in force, in minutes (R82). -/
  windowAsked : Nat
  window : Nat
  wanted : Bool
  due : DueBroadcast
  outstanding : Option Outstanding
  /-- When the last sweep POLL was first sent (R75, log 21). -/
  lastPoll : Option Nat
  measure : Measure
  deriving DecidableEq, Repr

/-- A segment controller after a COLD reset (R85). -/
def Segment.cold : Segment :=
  { roster := [], pushes := [], fetches := [], cursor := 1, unreachable := 0, dozeCount := 0, dozeTimer := 0,
    spacing := 200, windowAsked := 15, window := 15, wanted := false, due := .none, outstanding := none,
    lastPoll := none, measure := { start := 0, limit := none } }

/-! ### Tab unit (R87 to R91) -/

/-- A line of a tab (R89). -/
structure Line where
  category : Nat
  price : Nat
  quantity : Nat
  amount : Nat
  voided : Bool
  deriving DecidableEq, Repr

/-- An open tab (R89). -/
structure Tab where
  terminal : Nat
  venue : Nat
  person : Nat
  opened : Nat
  lines : List Line
  total : Nat
  voidable : Bool
  deriving DecidableEq, Repr

/-- A slot of the tab store (R88). -/
structure Slot where
  use : Nat
  tab : Option Tab
  deriving DecidableEq, Repr

/-- A slot after a COLD reset (R106). -/
def Slot.cold : Slot := { use := 0, tab := none }

/-- A row of the terminal table (R87). -/
structure Terminal where
  venue : Option Nat
  tabs : List TabRef
  deriving DecidableEq, Repr

/-- A terminal after a COLD reset (R106). -/
def Terminal.cold : Terminal := { venue := none, tabs := [] }

/-- The tab unit. -/
structure TabUnit where
  slots : Table Slot
  terminals : Table Terminal
  /-- The venue hold set (R91). -/
  holds : BitVec 32
  deriving DecidableEq, Repr

/-! ### Charge calculator (R113 to R116, R102) -/

/-- A venue row after a COLD reset (R123). -/
def coldVenue : VenueRow :=
  { inUse := false, serviceRate := 0, serviceApplies := false, taxRate := 0, taxable := false,
    classDiscount := false }

/-- A row of the class table; `cap` is `none` for UNLIMITED (R114). -/
structure ClassRow where
  rate : Nat
  cap : Option Nat
  deriving DecidableEq, Repr

/-- A class row after a COLD reset (R123). -/
def ClassRow.cold : ClassRow := { rate := 0, cap := none }

/-- The charge calculator's settings. The restriction of class c at venue v stands at 32 c + v. -/
structure ChargeCalc where
  venues : Table VenueRow
  classes : Table ClassRow
  capped : BitVec 16
  window : Nat
  tax : TaxState
  restrictions : Table (BitVec 16)
  deriving DecidableEq, Repr

/-! ### Posting queue (R125 to R132) -/

/-- The body of a CHARGE posting (R127). -/
structure Charge where
  venue : Nat
  terminal : Nat
  ref : TabRef
  lineCount : Nat
  subtotal : Nat
  discount : Nat
  service : Nat
  tax : Nat
  tip : Nat
  amount : Nat
  tipClamped : Bool
  tipRequestClamped : Bool
  overLimit : Bool
  forced : Bool
  quick : Bool
  balanceSaturated : Bool
  deriving DecidableEq, Repr

/-- The body of a CROSSING posting (R128); minutes late is present only with LATE. -/
structure Crossing where
  lane : Nat
  direction : Direction
  late : Bool
  wasDisputed : Bool
  stale : Bool
  unscanned : Bool
  minutesLate : Option Nat
  deriving DecidableEq, Repr

/-- The events of an ACCESS posting (R128). -/
inductive AccessEvent where
  | revokedUse | disputeRaised | exposure
  deriving DecidableEq, Repr

/-- The bodies of the seven kinds of posting (R127, R128). -/
inductive PostingBody where
  | charge (c : Charge)
  | refusal (venue terminal : Nat) (category : Option Nat) (reason : Code)
  | crossing (c : Crossing)
  | access (event : AccessEvent) (source : Source) (serial : Serial) (offline : Bool)
  | dayTotal (day spend : Nat)
  | reconcile (day : Nat) (groups : List (Nat × Tallies))
  | folioFinal (balance : Int)
  deriving DecidableEq, Repr

/-- A posting record (R126). -/
structure Posting where
  seq : BitVec 32
  time : Nat
  person : Option Nat
  day : Nat
  body : PostingBody
  deriving DecidableEq, Repr

/-- The posting queue, oldest record first (R125, R132). -/
structure PostingQueue where
  records : List Posting
  next : BitVec 32
  unposted : Nat
  deriving DecidableEq, Repr

/-! ### Operation engine (R137) -/

inductive OpKind where
  | dayClose | cabinRekey | finalDisembark
  deriving DecidableEq, Repr

inductive OpState where
  | idle | running | waiting
  deriving DecidableEq, Repr

inductive OpPhase where
  | persons | cabins | cards
  deriving DecidableEq, Repr

inductive OpResult where
  | done | aborted | reset
  deriving DecidableEq, Repr

/-- The operation record (R137). The reason counts are, in order: ALREADY_ROLLED for DAY CLOSE; NOT_IN_USE
and GEN_LIMIT for CABIN REKEY; NOT_ASHORE, TABS_OPEN and IN_TRANSIT for FINAL DISEMBARK (R149). -/
structure Operation where
  kind : Option OpKind
  first : Nat
  last : Nat
  state : OpState
  phase : Option OpPhase
  cursor : Nat
  result : Option OpResult
  processed : Nat
  reason1 : Nat
  reason2 : Nat
  reason3 : Nat
  musterSeen : Bool
  clockSetSeen : Bool
  deriving DecidableEq, Repr

/-- The operation record after a COLD reset (R151). -/
def Operation.cold : Operation :=
  { kind := none, first := 0, last := 0, state := .idle, phase := none, cursor := 0, result := none,
    processed := 0, reason1 := 0, reason2 := 0, reason3 := 0, musterSeen := false, clockSetSeen := false }

/-! ### Notice and fault unit (R181 to R186) -/

/-- The eighteen notice kinds; a kind's number is its position (R181). -/
inductive Notice where
  | restart | postingsHigh | chargingStopped | unposted | deadlinePassed | lateReturn | dispute | revokedUse
  | exposure | tailgate | stalePassage | linkChange | lockStale | lockAlert | operationDone | fault | muster
  | refusal
  deriving DecidableEq, Repr

/-- The nine fault kinds; a kind's number is its position (R184). -/
inductive FaultKind where
  | frameCheck | frameForm | stationUnknown | replyUnexpected | replyTimeout | hubSilent | intakeOverrun
  | purserForm | trainingFailed
  deriving DecidableEq, Repr

/-- A captured fault: its kind and header log. Ports are 0 to 5 for the links and 6 for PP (R185). -/
structure FaultRecord where
  kind : FaultKind
  port : Nat
  station : Option Nat
  frameKind : Option Nat
  tag : Option Nat
  deriving DecidableEq, Repr

/-- The notice and fault unit. -/
structure NoticeUnit where
  pending : BitVec 18
  enables : BitVec 18
  status : BitVec 9
  masks : BitVec 9
  severe : BitVec 9
  first : Option FaultRecord
  refusalRecord : BitVec 32
  refusalNotice : BitVec 32
  deriving DecidableEq, Repr

/-! ### Ship clock and supplies (R152 to R161) -/

inductive ResetKind where
  | cold | warm
  deriving DecidableEq, Repr

/-- The ship clock, the elapsed base, the open day, the muster state and the supplies. `ms` is the model's own:
the milliseconds into the current second of ship time (DESIGN CHOICE, log 6). -/
structure ShipClock where
  clock : Nat
  clockSet : Bool
  ms : Nat
  elapsed : Nat
  openDay : Nat
  /-- The muster state, true for ACTIVE (R159). -/
  muster : Bool
  /-- The level of the MUSTER line as the filter holds it (R159, R161). -/
  musterLevel : Bool
  /-- The level of the MUSTER line itself (R159). -/
  musterLine : Bool
  /-- The milliseconds for which the line has held another level than the filter's (R159). -/
  musterHold : Nat
  supm : Bool
  supb : Bool
  /-- The RESET line is active (R157). -/
  resetLine : Bool
  /-- The retention mark (R156). -/
  mark : Bool
  /-- SUPM returned while the RESET line was active (R157). -/
  returned : Bool
  lastReset : ResetKind
  deriving DecidableEq, Repr

/-! ### The whole part -/

/-- The state of the part. `pending` is the queue of commands waiting, first in first out; `tagCount` counts
the tags drawn from Config.frameTag (log 8). -/
structure State where
  pending : List Instr
  tagCount : Nat
  pp : PurserPort
  lk : Table Link
  pt : Table Person
  ci : CardIndex
  ct : Table Cabin
  pu : PresenceUnit
  sc : Table Segment
  tu : TabUnit
  cc : ChargeCalc
  pq : PostingQueue
  oe : Operation
  nfu : NoticeUnit
  sck : ShipClock
  deriving DecidableEq, Repr

/-- The part never stops: no step of it ends in a fault of the model (the nine fault kinds of R184 are
recorded in the state). Nobody raises one. -/
inductive Fault where
  deriving DecidableEq, Repr

/-- Why a command has no outcome. -/
inductive Refusal where
  /-- Raised by exec's arm for a row that has no meaning yet; safe. No arm raises it now. -/
  | notModelled (mnemonic : String)
  deriving DecidableEq, Repr

/-- The part right after a COLD reset with the MUSTER line inactive (R23, R44, R85, R106, R123, R135, R151,
R157, R164, R187). DESIGN CHOICE, unsafe: `ms` (log 6), `tagCount` (log 8), `pdo` and `sent` (log 14), the
levels of SUPB, MUSTER and RESET and the link timers (log 15), the deadline's time (log 20). -/
def State.reset : State :=
  { pending := []
    tagCount := 0
    pp := { port := .empty, pdo := [] }
    lk := []
    pt := []
    ci := { entries := [], order := [] }
    ct := []
    pu := { counts := { notEmbarked := 0, aboard := 0, ashore := 0, disputed := 0, disembarked := 0 }
            lanes := []
            permitWindow := 10
            deadline := { armed := false, time := 0, passed := false }
            snapshot := none
            evidence := [] }
    sc := []
    tu := { slots := [], terminals := [], holds := 0 }
    cc := { venues := [], classes := [], capped := 0, window := 60, tax := .sea, restrictions := [] }
    pq := { records := [], next := 1, unposted := 0 }
    oe := Operation.cold
    nfu := { pending := 1, enables := 0, status := 0, masks := 0, severe := 0, first := none
             refusalRecord := 0, refusalNotice := 0 }
    sck := { clock := 0, clockSet := false, ms := 0, elapsed := 0, openDay := 1, muster := false
             musterLevel := false, musterLine := false, musterHold := 0, supm := true, supb := true
             resetLine := false, mark := true, returned := false, lastReset := .cold } }

end Sys2Proof.Machine
end

