-- ==== Sys2Proof/Machine/Table.lean ====
section
/-! DEFINITION. Operations on sparse tables: one place reads and writes every numbered record. -/

namespace Sys2Proof.Machine

/-- The record with number `k`, if one is listed. -/
def find? {α : Type} (t : Table α) (k : Nat) : Option α :=
  match t with
  | [] => none
  | (j, a) :: rest => if j = k then some a else find? rest k

/-- The table without the record `k`. -/
def erase {α : Type} (t : Table α) (k : Nat) : Table α := t.filter fun e => e.1 ≠ k

/-- The table with record `k` written, numbers kept rising. -/
def insert {α : Type} (t : Table α) (k : Nat) (a : α) : Table α :=
  match t with
  | [] => [(k, a)]
  | (j, b) :: rest =>
    if k < j then (k, a) :: (j, b) :: rest
    else if k = j then (k, a) :: rest
    else (j, b) :: insert rest k a

/-- The record with number `k`, or the cleared one where none is listed. -/
def getD {α : Type} (t : Table α) (k : Nat) (cleared : α) : α := (find? t k).getD cleared

/-- The table with record `k` written; a record equal to the cleared one is not listed. -/
def setD {α : Type} [DecidableEq α] (t : Table α) (k : Nat) (cleared a : α) : Table α :=
  if a = cleared then erase t k else insert t k a

/-- Every listed record changed by `f`. -/
def mapRecords {α : Type} (f : α → α) (t : Table α) : Table α := t.map fun e => (e.1, f e.2)

/-- Every listed record changed by `f`; records that become the cleared one are not listed. -/
def mapD {α : Type} [DecidableEq α] (cleared : α) (f : α → α) (t : Table α) : Table α :=
  t.filterMap fun e => let b := f e.2; if b = cleared then none else some (e.1, b)

/-- How many listed records satisfy `p`. -/
def countRecords {α : Type} (p : α → Bool) (t : Table α) : Nat := (t.filter fun e => p e.2).length

/-- The canonical form: numbers strictly rising. -/
def rising {α : Type} : Table α → Bool
  | [] => true
  | [_] => true
  | (j, _) :: (k, b) :: rest => j < k && rising ((k, b) :: rest)

/-- The canonical form of a table with a cleared record: rising, and no record listed that is cleared. -/
def canonical {α : Type} [DecidableEq α] (cleared : α) (t : Table α) : Bool :=
  rising t && t.all fun e => e.2 ≠ cleared

end Sys2Proof.Machine
end

