-- ==== Sys2Proof/Machine/Operands.lean ====
section
/-! DEFINITION. Reading the operands: the records a number names, values taken into their ranges, card and
tab look-ups, and the byte forms of the values that answers and postings carry (R178, R179). -/

namespace Sys2Proof.Machine

/-! ### Records -/

def State.link (s : State) (n : Nat) : Link := getD s.lk n Link.cold
def State.person? (s : State) (p : Nat) : Option Person := find? s.pt p
def State.card? (s : State) (serial : Serial) : Option Card := find? s.ci.entries serial.toNat
def State.cabin (s : State) (c : Nat) : Cabin := getD s.ct c Cabin.cold
def State.lane (s : State) (n : Nat) : Lane := getD s.pu.lanes n Lane.cold
def State.seg (s : State) (g : Nat) : Segment := getD s.sc g Segment.cold
def State.lock? (s : State) (g st : Nat) : Option Lock := find? (s.seg g).roster st
def State.slot (s : State) (n : Nat) : Slot := getD s.tu.slots n Slot.cold
def State.terminal (s : State) (n : Nat) : Terminal := getD s.tu.terminals n Terminal.cold
def State.venue (s : State) (v : Nat) : VenueRow := getD s.cc.venues v coldVenue
def State.classRow (s : State) (c : Nat) : ClassRow := getD s.cc.classes c ClassRow.cold
/-- The barred set of a class at a venue (R102). -/
def State.barred (s : State) (c v : Nat) : BitVec 16 := getD s.cc.restrictions (c * 32 + v) 0

/-- The lane numbers (R26). -/
def laneNumbers : List Nat := [1, 2, 3, 4, 5, 6, 7, 8]
/-- The link numbers (R162). -/
def linkNumbers : List Nat := [0, 1, 2, 3, 4, 5]
/-- The segment numbers. -/
def segmentNumbers : List Nat := [0, 1, 2, 3]
/-- The gangway link's number (R162). -/
def glLink : Nat := 1
/-- The segment that a link serves, for LS0 to LS3 (R162). -/
def linkSeg? (l : Nat) : Option Nat := if 2 ≤ l ∧ l ≤ 5 then some (l - 2) else none

/-- The part takes events: SUPM is present and the RESET line is not active (R156, R157). -/
def State.takesEvents (s : State) : Bool := s.sck.supm && !s.sck.resetLine

/-- PP is BUSY (R171). -/
def Port.isBusy : Port → Bool
  | .busy _ | .busyUnlisted _ => true
  | .empty | .answered .. => false

/-- A link in service: UP or DOZE (R167). -/
def Link.inService (l : Link) : Bool := l.state = .up || l.state = .doze

/-! ### Ranges -/

/-- A value taken into a range (R28, R82, R116). -/
def clamp (low high n : Nat) : Nat := if n < low then low else if high < n then high else n

/-- A tally or the unposted count raised by 1, saturating (R26, R132). -/
def tallyUp (n : Nat) : Nat := if n < Config.topTally then n + 1 else Config.topTally

/-- The current minute (R152). -/
def State.minute (s : State) : Nat := s.sck.clock / 60

/-- A number in a set carried as bits. -/
def inSet {w : Nat} (set : BitVec w) (k : Nat) : Bool := set.getLsbD k

/-- A set with one number written in or out. -/
def setMember {w : Nat} (set : BitVec w) (k : Nat) (b : Bool) : BitVec w :=
  let bit := BitVec.ofNat w (2 ^ k)
  if b then set ||| bit else set &&& ~~~bit

/-! ### Look-ups -/

/-- The generation of a person's active card (R5). -/
def State.activeGen? (s : State) (r : Person) : Option Nat :=
  match r.card with
  | none => none
  | some serial => (s.card? serial).map (·.generation)

/-- The tab a terminal's request names (R88): the slot holds a tab, its use count is the reference's, and
the tab's terminal sent the request. -/
def State.findTab (s : State) (terminal : Nat) (r : TabRef) : Option Tab :=
  let sl := s.slot r.slot
  match sl.tab with
  | none => none
  | some t => if sl.use = r.use ∧ t.terminal = terminal then some t else none

/-- The lowest-numbered empty slot (R88). -/
def State.emptySlot? (s : State) : Option Nat :=
  (List.range Config.tabSlots).find? fun n => (s.slot n).tab.isNone

/-- Some tab is open in the store (R158). -/
def State.anyTab (s : State) : Bool := s.tu.slots.any fun e => e.2.tab.isSome

/-- A tab is open at a venue (R113). -/
def State.tabAtVenue (s : State) (v : Nat) : Bool :=
  s.tu.slots.any fun e => match e.2.tab with
    | some t => t.venue == v
    | none => false

/-- The contact deadline of a lock, for an ONLINE lock that has been heard from and is not sweep-excluded
(R78). -/
def Segment.deadline? (g : Segment) (k : Lock) : Option Nat :=
  if k.state = .online ∧ k.ackGen.isSome ∧ k.excluded = false then
    some (k.lastContact.getD 0 + g.window * 60000 + g.dozeCount - k.dozeAtContact)
  else none

/-- A lock that may be sent a PUSH or a LOG FETCH: ONLINE or STALE (R68, R77). -/
def Segment.servable (g : Segment) (st : Nat) : Bool :=
  match find? g.roster st with
  | some k => k.state = .online || k.state = .stale
  | none => false

/-- The oldest servable entry of a list (R68, R77). -/
def Segment.oldestServable (g : Segment) (list : List Nat) : Option Nat := list.find? g.servable

/-- A station eligible for the sweep (R75). -/
def Lock.eligible (k : Lock) : Bool := !k.excluded || k.state = .new || k.state = .unreachable

/-- The station polled next: the first eligible one at or after the cursor, wrapping (R75). -/
def Segment.sweepStation? (g : Segment) : Option Nat :=
  let eligible := (g.roster.filter fun e => e.2.eligible).map (·.1)
  match eligible.find? fun st => g.cursor ≤ st with
  | some st => some st
  | none => eligible.head?

/-- The doze times of the six codes, in ms (R79); OFF and codes beyond have none. -/
def dozeMs : Nat → Option Nat
  | 1 => some 1000
  | 2 => some 5000
  | 3 => some 30000
  | 4 => some 120000
  | 5 => some 600000
  | _ => none

/-- The contact window in force: the requested one, raised to the sweep time rounded up to a whole minute
(R82). -/
def Segment.deriveWindow (g : Segment) : Nat :=
  let swept := (g.roster.filter fun e => !e.2.excluded).length
  max g.windowAsked ((swept * g.spacing + 59999) / 60000)

/-! ### Byte forms (R178; log 12, log 13) -/

def LinkState.code : LinkState → Nat
  | .down => 0 | .training => 1 | .up => 2 | .doze => 3 | .recovery => 4 | .failed => 5
def LockState.code : LockState → Nat
  | .new => 0 | .online => 1 | .stale => 2 | .unreachable => 3
def ReleaseState.code : ReleaseState → Nat
  | .normal => 0 | .releasePending => 1 | .released => 2 | .restorePending => 3
def DueBroadcast.code : DueBroadcast → Nat
  | .none => 0 | .allRelease => 1 | .allRestore => 2
def AccessEvent.code : AccessEvent → Nat
  | .revokedUse => 0 | .disputeRaised => 1 | .exposure => 2
def OpKind.code : Option OpKind → Nat
  | some .dayClose => 0 | some .cabinRekey => 1 | some .finalDisembark => 2 | none => 3
def OpState.code : OpState → Nat
  | .idle => 0 | .running => 1 | .waiting => 2
/-- R137: the phases by their place in its list, which has no none; a record that describes nothing, after a COLD reset,
reads as 3, as its kind and result do (DEDUCED, log 13). -/
def OpPhase.code : Option OpPhase → Nat
  | some .persons => 0 | some .cabins => 1 | some .cards => 2 | none => 3
def OpResult.code : Option OpResult → Nat
  | some .done => 0 | some .aborted => 1 | some .reset => 2 | none => 3
def ResetKind.code : ResetKind → Nat
  | .cold => 0 | .warm => 1
/-- The operation kinds by code; any other code is an unknown kind (R139). -/
def OpKind.ofCode : Nat → Option OpKind
  | 0 => some .dayClose | 1 => some .cabinRekey | 2 => some .finalDisembark | _ => none
def Notice.number (n : Notice) : Nat := n.ctorIdx
def FaultKind.number (k : FaultKind) : Nat := k.ctorIdx

/-- An optional lock: segment and station (R6). -/
def lockBytes (l : Option (Nat × Nat)) : List Byte := opt (fun e => be 1 e.1 ++ be 2 e.2) l

/-- The source of an ACCESS posting (R178). -/
def Source.bytes : Source → List Byte
  | .door g st => 0 :: (be 1 g ++ be 2 st)
  | .venue v t => 1 :: (be 1 v ++ be 1 t)
  | .lane l => 2 :: be 1 l

def Serving.bytes (e : Serving) : List Byte := be 4 e.stamp ++ be 1 e.slot ++ be 1 e.line ++ be 1 e.count

def Tallies.bytes (t : Tallies) : List Byte :=
  be 2 t.granted ++ be 2 t.outward ++ be 2 t.inward ++ be 2 t.stale ++ be 2 t.scanNoPass ++ be 2 t.passNoScan

/-- An OCCUPIED person record: R2's fields, R3's, the two lists, the presence fields (R21). -/
def Person.bytes (r : Person) : List Byte :=
  be 1 r.cls ++ opt (be 2) r.cabin ++ flagByte r.master ++ flagByte r.holdAboard ++ flagByte r.reissueDue ++
    be 8 r.areas.toNat ++ opt serialBytes r.card ++
    be4Signed r.folio.balance ++ be 4 r.folio.creditLimit ++ be 4 r.folio.held ++ opt (be 4) r.folio.dailyLimit ++
    be 4 r.folio.dailySpend ++ be 4 r.folio.day ++
    listOf refBytes r.tabs ++ listOf Serving.bytes r.servings ++
    be 1 r.presence.code ++ opt (be 4) r.ashoreSince ++ opt (be 1) r.permitLane ++ opt (be 1) r.lastLane ++
    opt (be 6) r.lastCrossing

/-- A card entry: every field of R5 after the serial that names it, the revoked day present only when
REVOKED (R21). -/
def cardBytes (serial : Serial) (e : Card) : List Byte :=
  serialBytes serial ++ be 2 e.person ++ be 2 e.generation ++
    (match e.state with
      | .active => be 1 0 ++ be 4 e.issueTime ++ [0]
      | .revoked day => be 1 1 ++ be 4 e.issueTime ++ 1 :: be 4 day)

def Cabin.bytes (c : Cabin) : List Byte :=
  flagByte c.inUse ++ be 2 c.label ++ listOf (be 2) c.occupants ++ be 2 c.keyGen ++ lockBytes c.lock

/-- R43: a permit as READ COUNTS gives it. A permit whose expiry is past and not yet taken has 0 ms left (DESIGN CHOICE,
log 41). -/
def Permit.bytes (now : Nat) (p : Permit) : List Byte :=
  be 2 p.person ++ be 1 p.direction.code ++ be 1 p.fromState.code ++ be 6 (p.expiry - now)

def Lane.bytes (now : Nat) (l : Lane) : List Byte :=
  be 1 l.point ++ be 1 l.configured.code ++ be 1 l.effective.code ++ opt (Permit.bytes now) l.permit ++
    l.tallies.bytes

def Snapshot.bytes (n : Snapshot) : List Byte :=
  be 4 n.time ++ be 4 n.aboard ++ be 4 n.disputed ++ be 4 n.ashore ++ be 4 n.notEmbarked

/-- What a record that holds no lock reads as: the cleared values of R63, which names none for the kind and the state,
here CABIN 0 and NEW (DESIGN CHOICE, log 36). -/
def Lock.cleared : Lock :=
  { kind := .cabin 0, excluded := false, state := .new, ackGen := none, lastContact := none, dozeAtContact := 0,
    status := ⟨false, false, false, false⟩, release := .normal, logCount := 0 }

/-- A lock record with every field of R63, and the milliseconds left to its contact deadline (R84), 0 where it is past
and not yet taken (DESIGN CHOICE, log 41). -/
def Segment.lockBytes (g : Segment) (now st : Nat) : List Byte :=
  let k := (find? g.roster st).getD Lock.cleared
  flagByte (find? g.roster st).isSome ++ k.kind.bytes ++ flagByte k.excluded ++ be 1 k.state.code ++
    opt (be 2) k.ackGen ++ opt (be 6) k.lastContact ++ be 6 k.dozeAtContact ++ k.status.bytes ++
    be 1 k.release.code ++ be 1 k.logCount ++ opt (fun d => be 6 (d - now)) (g.deadline? k)

def Line.bytes (l : Line) : List Byte :=
  be 1 l.category ++ be 4 l.price ++ be 1 l.quantity ++ be 4 l.amount ++ flagByte l.voided

def Tab.bytes (t : Tab) : List Byte :=
  be 1 t.terminal ++ be 1 t.venue ++ be 2 t.person ++ be 4 t.opened ++ listOf Line.bytes t.lines ++ be 4 t.total ++
    flagByte t.voidable

/-- A class row; K as 1 to 6, UNLIMITED as the cap code 7 (log 12). -/
def ClassRow.bytes (r : ClassRow) : List Byte := be 4 r.rate ++ be 1 (r.cap.getD 7)

/-- A posting's kind number (R179). -/
def PostingBody.kindNumber : PostingBody → Nat
  | .charge _ => 1
  | .refusal .. => 2
  | .crossing _ => 3
  | .access .. => 4
  | .dayTotal .. => 5
  | .reconcile .. => 6
  | .folioFinal _ => 7

/-- The body of a posting (R127, R128, R178, R179). -/
def PostingBody.bytes : PostingBody → List Byte
  | .charge c =>
      be 1 c.venue ++ be 1 c.terminal ++ refBytes c.ref ++ be 1 c.lineCount ++ be 4 c.subtotal ++ be 4 c.discount ++
        be 4 c.service ++ be 4 c.tax ++ be 4 c.tip ++ be 4 c.amount ++
        flagsByte [c.tipClamped, c.tipRequestClamped, c.overLimit, c.forced, c.quick, c.balanceSaturated]
  | .refusal v t cat reason => be 1 v ++ be 1 t ++ opt (be 1) cat ++ be 1 reason.number
  | .crossing c =>
      be 1 c.lane ++ be 1 c.direction.code ++ flagsByte [c.late, c.wasDisputed, c.stale, c.unscanned] ++
        opt (be 4) c.minutesLate
  | .access e src serial offline => be 1 e.code ++ src.bytes ++ serialBytes serial ++ flagByte offline
  | .dayTotal day spend => be 4 day ++ be 4 spend
  | .reconcile day groups => be 4 day ++ listOf (fun g => be 1 g.1 ++ g.2.bytes) groups
  | .folioFinal b => be4Signed b

/-- A posting record: header and body (R179). -/
def Posting.bytes (p : Posting) : List Byte :=
  be 4 p.seq.toNat ++ be 1 p.body.kindNumber ++ be 4 p.time ++ optPerson p.person ++ be 4 p.day ++
    be 1 p.body.bytes.length ++ p.body.bytes

/-- The first-fault record (R185): kind, port, station, frame kind and tag, the tag two bytes on PP. -/
def FaultRecord.bytes (r : FaultRecord) : List Byte :=
  be 1 r.kind.number ++ be 1 r.port ++ opt (be 2) r.station ++ opt (be 1) r.frameKind ++
    opt (be (if r.port = 6 then 2 else 1)) r.tag

end Sys2Proof.Machine
end

