-- ==== Sys2Proof/Machine/Flags.lean ====
section
/-! DEFINITION. Every figure the part derives from its state: ATTN, effective modes, overdue, the room of the
posting queue, held venues, severities (R27, R41, R91, R129, R182, R184). -/

namespace Sys2Proof.Machine

/-- R182, R157: ATTN is driven low while the pending and enable sets share a kind, and released otherwise and
while the RESET line is active; without SUPM nothing drives it. -/
def State.attnLow (s : State) : Bool := s.takesEvents && s.nfu.pending &&& s.nfu.enables != 0

/-- R27: the effective mode from the configured one, when the deadline is passed or muster is active. -/
def deriveMode (closing : Bool) (m : LaneMode) : LaneMode :=
  if closing then
    match m with
    | .closed => .closed
    | .outbound => .closed
    | .inbound => .inbound
    | .both => .inbound
  else m

/-- R27: the two conditions of the part. -/
def State.closing (s : State) : Bool := s.pu.deadline.passed || s.sck.muster

/-- R41: while the deadline is armed and passed every ASHORE person is overdue. -/
def State.overdueNow (s : State) : Bool := s.pu.deadline.armed && s.pu.deadline.passed

/-- R41: the overdue count that READ COUNTS reports. -/
def State.overdueCount (s : State) : Nat := if s.overdueNow then s.pu.counts.ashore else 0

/-- R41: the deadline is armed, not passed, and the ship clock has reached its time. -/
def State.deadlineReached (s : State) : Bool :=
  s.pu.deadline.armed && !s.pu.deadline.passed && s.pu.deadline.time ≤ s.sck.clock

/-- R129: records in the queue. -/
def State.fill (s : State) : Nat := s.pq.records.length
/-- R129: 4,096 less the fill. -/
def State.free (s : State) : Nat := Config.queueRecords - s.fill
/-- R129: free less 256, taken as 0 when below 0. -/
def State.room (s : State) : Nat := s.free - Config.queueReserve

/-- R91: a venue is treated as held while its flag is set or the muster state is active. -/
def State.venueHeld (s : State) (v : Nat) : Bool := inSet s.tu.holds v || s.sck.muster

/-- R184: the kinds whose severity can be set. -/
def FaultKind.settable : FaultKind → Bool
  | .frameCheck => true
  | .frameForm => true
  | .stationUnknown => true
  | .replyUnexpected => true
  | _ => false

/-- R184: HUB_SILENT and TRAINING_FAILED are SEVERE; a settable kind is when the severity set holds it. -/
def NoticeUnit.isSevere (n : NoticeUnit) (k : FaultKind) : Bool :=
  k = .hubSilent || k = .trainingFailed || (k.settable && inSet n.severe k.number)

/-- R137, R138: an operation is in flight. -/
def State.inFlight (s : State) : Bool := s.oe.state ≠ .idle

/-- R25: the count of one presence state. -/
def Counts.of (c : Counts) : Presence → Nat
  | .notEmbarked => c.notEmbarked
  | .aboard => c.aboard
  | .ashore => c.ashore
  | .disputed => c.disputed
  | .disembarked => c.disembarked

/-- One count written. -/
def Counts.put (c : Counts) (n : Nat) : Presence → Counts
  | .notEmbarked => { c with notEmbarked := n }
  | .aboard => { c with aboard := n }
  | .ashore => { c with ashore := n }
  | .disputed => { c with disputed := n }
  | .disembarked => { c with disembarked := n }

/-- R33: minutes late, 0 when the clock has been set back before the deadline time. -/
def State.minutesLate (s : State) : Nat := (s.sck.clock - s.pu.deadline.time) / 60

end Sys2Proof.Machine
end

