-- ==== Sys2Proof/Machine/Ops.lean ====
section
/-! DEFINITION. The named operations over the part's state that the meanings share: writing records, notices
and postings, permits, links leaving service, faults, sending, rekeys, revocations and presence moves. -/

namespace Sys2Proof.Machine

/-! ### Writing records -/

def State.setLink (s : State) (n : Nat) (l : Link) : State := { s with lk := setD s.lk n Link.cold l }
def State.setPerson (s : State) (p : Nat) (r : Person) : State := { s with pt := insert s.pt p r }
def State.setCard (s : State) (serial : Serial) (e : Card) : State :=
  { s with ci := { s.ci with entries := insert s.ci.entries serial.toNat e } }
def State.setCabin (s : State) (c : Nat) (r : Cabin) : State := { s with ct := setD s.ct c Cabin.cold r }
def State.setLane (s : State) (n : Nat) (l : Lane) : State :=
  { s with pu := { s.pu with lanes := setD s.pu.lanes n Lane.cold l } }
def State.setCounts (s : State) (c : Counts) : State := { s with pu := { s.pu with counts := c } }
def State.setDeadline (s : State) (d : Deadline) : State := { s with pu := { s.pu with deadline := d } }
def State.setSeg (s : State) (g : Nat) (c : Segment) : State := { s with sc := setD s.sc g Segment.cold c }
def State.setLock (s : State) (g st : Nat) (k : Lock) : State :=
  s.setSeg g { s.seg g with roster := insert (s.seg g).roster st k }
def State.setSlot (s : State) (n : Nat) (x : Slot) : State :=
  { s with tu := { s.tu with slots := setD s.tu.slots n Slot.cold x } }
def State.setTerminal (s : State) (n : Nat) (x : Terminal) : State :=
  { s with tu := { s.tu with terminals := setD s.tu.terminals n Terminal.cold x } }
def State.setOperation (s : State) (o : Operation) : State := { s with oe := o }

/-- A person record changed, where the record is OCCUPIED. -/
def State.modPerson (s : State) (p : Nat) (f : Person → Person) : State :=
  match s.person? p with
  | none => s
  | some r => s.setPerson p (f r)

def State.modLink (s : State) (n : Nat) (f : Link → Link) : State := s.setLink n (f (s.link n))
def State.modSeg (s : State) (g : Nat) (f : Segment → Segment) : State := s.setSeg g (f (s.seg g))

/-- A lock record changed, where the station is enrolled. -/
def State.modLock (s : State) (g st : Nat) (f : Lock → Lock) : State :=
  match s.lock? g st with
  | none => s
  | some k => s.setLock g st (f k)

/-! ### Notices and postings -/

/-- R182: a raised notice's kind joins the pending set, whether or not it is enabled. -/
def State.raise (s : State) (n : Notice) : State :=
  { s with nfu := { s.nfu with pending := setMember s.nfu.pending n.number true } }

/-- R125, R129, R131: a posting joins the tail with the next sequence number where a free entry is present,
raising POSTINGS_HIGH at a fill of 3,584 and CHARGING_STOPPED at 3,839. `none` where the queue is full. -/
def State.append? (s : State) (time : Nat) (person : Option Nat) (day : Nat) (body : PostingBody) :
    Option (State × BitVec 32) :=
  if s.free < 1 then none
  else
    let rec_ : Posting := { seq := s.pq.next, time := time, person := person, day := day, body := body }
    let s1 := { s with pq := { s.pq with records := s.pq.records ++ [rec_], next := s.pq.next + 1 } }
    let s2 := if s1.fill = 3584 then s1.raise .postingsHigh else s1
    let s3 := if s1.fill = 3839 then s2.raise .chargingStopped else s2
    some (s3, s.pq.next)

/-- R130: an append whose appender goes on without the record when the room is lacking. -/
def State.append (s : State) (time : Nat) (person : Option Nat) (day : Nat) (body : PostingBody) : State :=
  match s.append? time person day body with
  | some (s1, _) => s1
  | none => s

/-- R132: a CROSSING that meets a full queue is counted unposted and raises UNPOSTED. -/
def State.appendCrossing (s : State) (person : Option Nat) (c : Crossing) : State :=
  match s.append? s.sck.clock person s.sck.openDay (.crossing c) with
  | some (s1, _) => s1
  | none => ({ s with pq := { s.pq with unposted := tallyUp s.pq.unposted } } : State).raise .unposted

/-- R30, R48, R92: a revoked card seen at a lane, a door or a venue. -/
def State.revokedUse (s : State) (person : Nat) (serial : Serial) (src : Source) : State :=
  (s.append s.sck.clock (some person) s.sck.openDay (.access .revokedUse src serial false)).raise .revokedUse

/-- R38: evidence is held in the order sent (log 31). -/
def State.sendEvidence (s : State) (e : Evidence) : State :=
  { s with pu := { s.pu with evidence := s.pu.evidence ++ [e] } }

/-! ### Presence (R24, R25) -/

/-- R24, R25: a person's presence state changes, 1 moves between the counts, and ashore-since is set on entering
ASHORE and cleared on leaving it. Nothing happens when the state is the present one. -/
def State.movePresence (s : State) (p : Nat) (new : Presence) : State :=
  match s.person? p with
  | none => s
  | some r =>
    if r.presence = new then s
    else
      let c := s.pu.counts.put (s.pu.counts.of r.presence - 1) r.presence
      let c2 := c.put (c.of new + 1) new
      (s.setCounts c2).setPerson p { r with
        presence := new, ashoreSince := if new = .ashore then some s.sck.clock else none }

/-! ### Lanes and permits (R27, R37) -/

/-- R27: every lane's effective mode derived again. -/
def State.deriveModes (s : State) : State :=
  let closing := s.closing
  { s with pu := { s.pu with
      lanes := mapD Lane.cold (fun l => { l with effective := deriveMode closing l.configured }) s.pu.lanes } }

/-- R32, R37: a lane's permit ends without a passage: it and the person's permit lane are cleared and
scan-no-pass is counted. -/
def State.endPermit (s : State) (n : Nat) : State :=
  let l := s.lane n
  match l.permit with
  | none => s
  | some p =>
    (s.setLane n { l with permit := none
                          tallies := { l.tallies with scanNoPass := tallyUp l.tallies.scanNoPass } }).modPerson
      p.person fun r => { r with permitLane := none }

/-- R37: every lane's permit withdrawn. -/
def State.endPermits (s : State) : State := laneNumbers.foldl State.endPermit s

/-- R37: every permit of direction OUT withdrawn. -/
def State.endOutPermits (s : State) : State :=
  laneNumbers.foldl (fun s n =>
    match (s.lane n).permit with
    | some p => if p.direction = .outward then s.endPermit n else s
    | none => s) s

/-- R41: at expiry passed is set, the effective modes are derived again and DEADLINE_PASSED is raised. -/
def State.expireDeadline (s : State) : State :=
  ((s.setDeadline { s.pu.deadline with passed := true }).deriveModes).raise .deadlinePassed

/-! ### Links (R163 to R169) -/

/-- R164: a change of state pushes the state being left onto the history, and raises LINK_CHANGE on entering UP,
RECOVERY or FAILED. R165: training starts each time a link enters TRAINING. -/
def State.changeLink (s : State) (n : Nat) (new : LinkState) : State :=
  let training := new = .training
  let s1 := s.modLink n fun l =>
    { l with
      state := new
      history := (l.state :: l.history).take 3
      attempt := if training then 1 else 0
      attemptStart := if training then s.sck.elapsed else l.attemptStart
      trains := 0 }
  if new = .up ∨ new = .recovery ∨ new = .failed then s1.raise .linkChange else s1

/-- R169, R83, R37: what is done when a link in service leaves UP or DOZE: its queue is emptied, unsent answers
are abandoned, an outstanding reply-expecting frame is ended without a fault, and on GL every permit is
withdrawn. -/
def State.leaveService (s : State) (n : Nat) : State :=
  if (s.link n).inService then
    let s1 := s.modLink n fun l => { l with intake := [], answers := [] }
    let s2 := match linkSeg? n with
      | some g => s1.modSeg g fun c => { c with outstanding := none, measure := { c.measure with limit := none } }
      | none => s1
    if n = glLink then s2.endPermits else s2
  else s

/-- R163: a link in service goes to RECOVERY and passes to TRAINING in the same update. -/
def State.recoverLink (s : State) (n : Nat) : State :=
  if (s.link n).inService then ((s.leaveService n).changeLink n .recovery).changeLink n .training else s

/-- R79, log 22: the doze measure of a segment starts again, against the doze time now set. -/
def State.restartMeasure (s : State) (g : Nat) : State :=
  s.modSeg g fun c => { c with measure := { start := s.sck.elapsed, limit := dozeMs c.dozeTimer } }

/-- R79, R166: a segment link in DOZE returns to UP; the silence and keep-alive timers and the doze measure start
again. -/
def State.wake (s : State) (g : Nat) : State :=
  if (s.link (segLink g)).state = .doze then
    ((s.changeLink (segLink g) .up).modLink (segLink g) fun l =>
      { l with silenceStart := s.sck.elapsed, lastSend := s.sck.elapsed }).restartMeasure g
  else s

/-- R165, R74, R75: a link in TRAINING enters UP; the silence timer starts, and on a lock segment the unreachable
count and the cursor start again. -/
def State.enterUp (s : State) (n : Nat) : State :=
  let s1 := (s.changeLink n .up).modLink n fun l =>
    { l with silenceStart := s.sck.elapsed, lastGood := some s.sck.elapsed }
  match linkSeg? n with
  | some g => (s1.modSeg g fun c => { c with unreachable := 0, cursor := 1 }).restartMeasure g
  | none => s1

/-! ### Faults (R184, R185) -/

/-- R184: recording a fault: status, capture, notice, severity, in that order. -/
def State.recordFault (s : State) (r : FaultRecord) : State :=
  let masked := inSet s.nfu.masks r.kind.number
  let s1 := { s with nfu := { s.nfu with
    status := setMember s.nfu.status r.kind.number true
    first := if !masked && s.nfu.first.isNone then some r else s.nfu.first } }
  let s2 := if masked then s1 else s1.raise .fault
  if s.nfu.isSevere r.kind && decide (r.port < 6) then s2.recoverLink r.port else s2

/-- The header log of a fault of a frame on a link (R185). -/
def frameFault (k : FaultKind) (port : Nat) (f : Frame) : FaultRecord :=
  { kind := k, port := port, station := some f.station, frameKind := some f.kind.toNat, tag := some f.tag.toNat }

/-- The header log of a fault that arises from no frame (R185). -/
def bareFault (k : FaultKind) (port : Nat) : FaultRecord :=
  { kind := k, port := port, station := none, frameKind := none, tag := none }

/-! ### Frames -/

/-- A frame goes out on a link (R166: the keep-alive timer), its bytes as R175 lays them out. -/
def State.sendFrame (s : State) (n : Nat) (f : Frame) : State :=
  s.modLink n fun l => { l with sent := f.bytes, lastSend := s.sck.elapsed }

/-- The tag of a frame the part originates: a free value (log 8). -/
def State.nextTag (s : State) : Byte := Config.frameTag s.tagCount
def State.drawTag (s : State) : State := { s with tagCount := s.tagCount + 1 }

/-- R71, R83, R90: an answer waits to be sent while its link is UP; decided at any other time it is abandoned. -/
def State.queueAnswer (s : State) (n : Nat) (f : Frame) : State :=
  if (s.link n).state = .up then s.modLink n fun l => { l with answers := l.answers ++ [f] } else s

/-- R166: a frame that passes its checks restarts the silence timer. -/
def State.goodFrame (s : State) (n : Nat) : State :=
  s.modLink n fun l => { l with silenceStart := s.sck.elapsed, lastGood := some s.sck.elapsed }

/-- R79, R166: a good station frame restarts the silence timer, wakes a segment in DOZE and, unless it is a poll
reply, restarts the doze measure. -/
def State.stationArrives (s : State) (n : Nat) (kind : Byte) : State :=
  let s1 := s.goodFrame n
  match linkSeg? n with
  | none => s1
  | some g =>
    let s2 := s1.wake g
    if kind = 0x15 then s2 else s2.restartMeasure g

/-- R168: the owner takes a frame from the head of the link's intake queue. Where the queue is empty the row
stands for the frame's arrival as well (log 2); `none` where the frame cannot be the one taken. -/
def State.takeFrame (s : State) (n : Nat) (f : Frame) : Option State :=
  if s.takesEvents && (s.link n).inService then
    match (s.link n).intake with
    | [] => some (s.stationArrives n f.kind)
    | g :: rest => if g = f then some (s.modLink n fun l => { l with intake := rest }) else none
  else none

/-- A step that takes a station frame and goes on with what the owner does with it; where the frame cannot be the
one taken, nothing happens (log 2, log 3). -/
def State.onFrame (s : State) (i : Instr) (owner : Nat → Frame → State → State) :
    Host.Outcome State Fault Refusal :=
  match i.stationFrame with
  | none => .next s
  | some (n, f) =>
    match s.takeFrame n f with
    | none => .next s
    | some s1 => .next (owner n f s1)

/-- A step of the part's own: where its condition does not hold the event does not arise and nothing happens
(log 3). -/
def State.onEvent (s : State) (due : Bool) (effect : State → State) : Host.Outcome State Fault Refusal :=
  if s.takesEvents && due then .next (effect s) else .next s

/-! ### Purser commands (R171, R172) -/

/-- The answer of a command's owner: outcome code and body (R177). -/
structure Reply where
  code : Code
  body : List Byte
  deriving DecidableEq, Repr

/-- An answer with no body. -/
def Reply.only (c : Code) : Reply := { code := c, body := [] }

/-- An OK answer. -/
def Reply.ok (body : List Byte) : Reply := { code := .ok, body := body }

/-- R171: PP holds an answer. -/
def State.answer (s : State) (tag : Tag) (r : Reply) : State :=
  { s with pp := { s.pp with port := .answered tag r.code r.body } }

/-- R171, R172: the owner takes a purser command. A command PP holds (BUSY) is taken; in EMPTY and ANSWERED the
row stands for the write of its frame as well (log 1); while PP is BUSY with another command it is not
the one in progress and nothing happens. -/
def State.accepts (s : State) (i : Instr) : Bool :=
  s.takesEvents &&
    match s.pp.port with
    | .busy c => c = i
    | .busyUnlisted _ => false
    | .empty | .answered .. => true

/-- The step of a purser command: its owner's update, whole, and the answer held by PP (R171, R172). -/
def State.onCommand (s : State) (i : Instr) (tag : Tag) (owner : State → State × Reply) :
    Host.Outcome State Fault Refusal :=
  if s.accepts i then .next ((owner s).1.answer tag (owner s).2) else .next s

/-- A refusal: the outcome and no change. -/
def State.refuse (s : State) (c : Code) : State × Reply := (s, Reply.only c)

/-! ### Push entries, rekeys and revocations (R13, R14, R17) -/

/-- R14: a lock handed to its segment controller: a push entry at the tail when the list holds none for it. R79: a
push entry that is servable wakes a segment in DOZE. -/
def State.handPush (s : State) (g st : Nat) : State :=
  let c := s.seg g
  let s1 := s.setSeg g { c with pushes := if c.pushes.contains st then c.pushes else c.pushes ++ [st] }
  if c.servable st then s1.wake g else s1

/-- R14: reissue due is set for every listed person whose active card carries a generation below `gen`. -/
def State.markBelow (s : State) (occupants : List Nat) (gen : Nat) : State :=
  occupants.foldl (fun s p =>
    match s.person? p with
    | none => s
    | some r =>
      match s.activeGen? r with
      | none => s
      | some g => if g < gen then s.setPerson p { r with reissueDue := true } else s) s

/-- R14: the rekey of a cabin, saturated at 65,535. -/
def State.rekey (s : State) (c : Nat) : State :=
  let r := s.cabin c
  if r.keyGen < Config.lastGeneration then
    let s1 := s.setCabin c { r with keyGen := r.keyGen + 1 }
    let s2 := match r.lock with
      | some (g, st) => s1.handPush g st
      | none => s1
    s2.markBelow r.occupants (r.keyGen + 1)
  else s.markBelow r.occupants Config.lastGeneration

/-- R13: a card entry becomes REVOKED with the open day, joins the tail of the revocation order, and its person's
active card becomes absent. The rekey is the caller's. -/
def State.revokeEntry (s : State) (serial : Serial) : State :=
  match s.card? serial with
  | none => s
  | some e =>
    let s1 := s.setCard serial { e with state := .revoked s.sck.openDay }
    ({ s1 with ci := { s1.ci with order := s1.ci.order ++ [serial] } } : State).modPerson e.person
      fun r => { r with card := none }

/-- R13: a person's active card, if any, is revoked, without the rekey. -/
def State.revokeCardOf (s : State) (p : Nat) : State :=
  match s.person? p with
  | none => s
  | some r =>
    match r.card with
    | none => s
    | some serial => s.revokeEntry serial

/-- R17: a person leaves the cabin's occupants list and its cabin field becomes absent. The rekey is the
caller's. -/
def State.leaveCabin (s : State) (p : Nat) : State :=
  match s.person? p with
  | none => s
  | some r =>
    match r.cabin with
    | none => s
    | some c =>
      let rc := s.cabin c
      (s.setCabin c { rc with occupants := rc.occupants.filter (· ≠ p) }).setPerson p { r with cabin := none }

/-- The rekey of a cabin, where there is one. -/
def State.rekeyIf (s : State) (c : Option Nat) : State :=
  match c with
  | some n => s.rekey n
  | none => s

/-- R14, R17: a removal from the cabin and a revocation of the active card, applied in that order with one rekey
for the two. -/
def State.removeAndRevoke (s : State) (p : Nat) : State :=
  match s.person? p with
  | none => s
  | some r => ((s.leaveCabin p).revokeCardOf p).rekeyIf r.cabin

/-! ### The roll (R3, R94, R145) -/

/-- R3, R94: a person behind the open day is rolled: a DAY_TOTAL of a nonzero daily spend, then spend 0 and the
open day. -/
def State.roll (s : State) (p : Nat) : State :=
  match s.person? p with
  | none => s
  | some r =>
    if r.folio.day < s.sck.openDay then
      let s1 := if r.folio.dailySpend = 0 then s
        else s.append s.sck.clock (some p) s.sck.openDay (.dayTotal r.folio.day r.folio.dailySpend)
      s1.setPerson p { r with folio := { r.folio with dailySpend := 0, day := s.sck.openDay } }
    else s

/-! ### Serving lists (R117 to R121) -/

/-- R118: an entry counts while the current minute less its stamp is below W. -/
def Serving.counts (minute window : Nat) (e : Serving) : Bool := minute - e.stamp < window

/-- R118: the pruning: the entries that do not count are removed. -/
def pruneServings (minute window : Nat) (l : List Serving) : List Serving := l.filter (Serving.counts minute window)

/-- R119: an entry joins the tail; the head leaves first when the list holds six. -/
def addServing (l : List Serving) (e : Serving) : List Serving :=
  (if Config.servingEntries ≤ l.length then l.drop 1 else l) ++ [e]

/-- R121: the newest entry carrying the slot and the line leaves, be it an older one of a closed tab in the same slot
where the voided line made none (DESIGN CHOICE, log 42). -/
def removeServing (l : List Serving) (slot line : Nat) : List Serving :=
  (l.reverse.eraseP fun e => e.slot = slot ∧ e.line = line).reverse

/-- R153: stamps later than the minute are taken back to it. -/
def clampServings (minute : Nat) (l : List Serving) : List Serving :=
  l.map fun e => if minute < e.stamp then { e with stamp := minute } else e

/-- Every person's serving list changed. -/
def State.mapServings (s : State) (f : List Serving → List Serving) : State :=
  { s with pt := mapRecords (fun r => { r with servings := f r.servings }) s.pt }

/-! ### Release and restore (R80), muster (R42, R159) -/

/-- R80: a lock's release state at a release. -/
def ReleaseState.onRelease : ReleaseState → ReleaseState
  | .normal => .releasePending
  | .restorePending => .releasePending
  | r => r

/-- R80: a lock's release state at a restore. -/
def ReleaseState.onRestore : ReleaseState → ReleaseState
  | .released => .restorePending
  | .releasePending => .restorePending
  | r => r

/-- R80: release of one segment: wanted released, ALL RELEASE due; NORMAL and RESTORE_PENDING locks become
RELEASE_PENDING. A due broadcast wakes a segment in DOZE (R79). -/
def State.releaseSegment (s : State) (g : Nat) : State :=
  (s.modSeg g fun c => { c with
    wanted := true
    due := .allRelease
    roster := mapRecords (fun k => { k with release := k.release.onRelease }) c.roster }).wake g

/-- R80: restore of one segment. -/
def State.restoreSegment (s : State) (g : Nat) : State :=
  (s.modSeg g fun c => { c with
    wanted := false
    due := .allRestore
    roster := mapRecords (fun k => { k with release := k.release.onRestore }) c.roster }).wake g

/-- R42: the snapshot of the counts as they stand. -/
def State.takeSnapshot (s : State) : State :=
  let c := s.pu.counts
  let n : Snapshot := ⟨s.sck.clock, c.aboard, c.disputed, c.ashore, c.notEmbarked⟩
  { s with pu := { s.pu with snapshot := some n } }

/-- R159, R42, R37, R80, R143: entry into the muster state, at every block in one update; R160 keeps the snapshot
held when the state is entered again after a WARM reset. -/
def State.enterMuster (s : State) (keepSnapshot : Bool) : State :=
  let s1 := ({ s with sck := { s.sck with muster := true } } : State).raise .muster
  let s2 := if keepSnapshot then s1 else s1.takeSnapshot
  let s3 := s2.deriveModes.endOutPermits
  let s4 := segmentNumbers.foldl State.releaseSegment s3
  if s4.inFlight then s4.setOperation { s4.oe with musterSeen := true } else s4

/-- R159, R42, R80: the muster state is left. -/
def State.leaveMuster (s : State) : State :=
  let s1 := ({ s with sck := { s.sck with muster := false } } : State).raise .muster
  segmentNumbers.foldl State.restoreSegment s1.deriveModes

end Sys2Proof.Machine
end

