-- ==== Sys2Proof/Machine/Persons.lean ====
section
/-! DEFINITION. Persons, cards and cabins: the purser commands of 01_persons_cards_and_cabins.md. -/

namespace Sys2Proof.Machine

/-- An amount or limit within its range (R8, R9). -/
def limitOk (n : Nat) : Bool := n ≤ Config.topAmount

/-- R7: SET CABIN. -/
def setCabin (c : Nat) (inUse : Bool) (label : Nat) (s : State) : State × Reply :=
  let r := s.cabin c
  if Config.lastCabin < c then s.refuse .range
  else if !inUse && !r.occupants.isEmpty then s.refuse .notEmpty
  else if !inUse && r.lock.isSome then s.refuse .inUse
  else (s.setCabin c { r with inUse := inUse, label := label }, Reply.ok [])

/-- R8: a new person record. -/
def admitted (a : Admission) (day : Nat) : Person :=
  { cls := a.cls, cabin := a.cabin, master := a.master, holdAboard := a.holdAboard, reissueDue := false,
    areas := a.areas, card := none,
    folio := { balance := 0, creditLimit := a.creditLimit, held := 0, dailyLimit := a.dailyLimit, dailySpend := 0,
               day := day },
    tabs := [], servings := [], presence := .notEmbarked, ashoreSince := none, permitLane := none,
    lastLane := none, lastCrossing := none }

/-- A person joins the tail of a cabin's occupants list (R6). -/
def State.joinCabin (s : State) (c p : Nat) : State :=
  s.setCabin c { s.cabin c with occupants := (s.cabin c).occupants ++ [p] }

/-- R8: ADMIT PERSON. -/
def admitPerson (a : Admission) (s : State) : State × Reply :=
  if Config.lastPerson < a.person ∨ Config.lastClass < a.cls ∨ a.cabin.any (Config.lastCabin < ·) ∨
      !limitOk a.creditLimit ∨ a.dailyLimit.any (!limitOk ·) then s.refuse .range
  else if (s.person? a.person).isSome then s.refuse .inUse
  else if a.cabin.any fun c => !(s.cabin c).inUse then s.refuse .notFound
  else if a.cabin.any fun c => Config.cabinOccupants ≤ (s.cabin c).occupants.length then s.refuse .occupantsFull
  else
    let s1 := s.setPerson a.person (admitted a s.sck.openDay)
    let s2 := match a.cabin with
      | some c => s1.joinCabin c a.person
      | none => s1
    (s2.setCounts (s2.pu.counts.put (s2.pu.counts.notEmbarked + 1) .notEmbarked), Reply.ok [])

/-- R9: the named fields other than the cabin written. -/
def amended (a : Amendment) (r : Person) : Person :=
  { r with
    cls := a.cls.getD r.cls
    master := a.master.getD r.master
    holdAboard := a.holdAboard.getD r.holdAboard
    areas := a.areas.getD r.areas
    folio := { r.folio with
      creditLimit := a.creditLimit.getD r.folio.creditLimit
      dailyLimit := a.dailyLimit.getD r.folio.dailyLimit } }

/-- R10: leaving the old cabin, as an occupant removal with its rekey. -/
def State.moveOut (s : State) (p : Nat) (old : Option Nat) : State :=
  match old with
  | some c => (s.leaveCabin p).rekey c
  | none => s

/-- R10: joining a cabin: at the tail, without a rekey; reissue due is set when the active card carries another
generation than the cabin's. -/
def State.moveIn (s : State) (p c : Nat) : State :=
  let s1 := s.joinCabin c p
  s1.modPerson p fun r =>
    let differs := match s1.activeGen? r with
      | some g => g ≠ (s1.cabin c).keyGen
      | none => false
    { r with cabin := some c, reissueDue := r.reissueDue || differs }

/-- R9, R10: AMEND PERSON. -/
def amendPerson (p : Nat) (a : Amendment) (s : State) : State × Reply :=
  if Config.lastPerson < p ∨ a.cls.any (Config.lastClass < ·) ∨ a.cabin.any (·.any (Config.lastCabin < ·)) ∨
      a.creditLimit.any (!limitOk ·) ∨ a.dailyLimit.any (·.any (!limitOk ·)) then s.refuse .range
  else
    match s.person? p with
    | none => s.refuse .notFound
    | some r =>
      let moving := a.cabin.any fun c => c ≠ r.cabin
      if a.cabin.any Option.isSome && r.presence = .disembarked then s.refuse .presence
      else if moving && a.cabin.any (·.any fun c => !(s.cabin c).inUse) then s.refuse .notFound
      else if moving && a.cabin.any (·.any fun c => Config.cabinOccupants ≤ (s.cabin c).occupants.length) then
        s.refuse .occupantsFull
      else
        let s1 := s.setPerson p (amended a r)
        if moving then
          let s2 := s1.moveOut p r.cabin
          let s3 := match a.cabin with
            | some (some c) => s2.moveIn p c
            | _ => s2
          (s3, Reply.ok [])
        else (s1, Reply.ok [])

/-- R12: the oldest REVOKED entry leaves the index. -/
def State.evictOldest (s : State) : State :=
  match s.ci.order with
  | [] => s
  | old :: rest => { s with ci := { entries := erase s.ci.entries old.toNat, order := rest } }

/-- R11, R12: ISSUE CARD. -/
def issueCard (p : Nat) (serial : Serial) (s : State) : State × Reply :=
  if Config.lastPerson < p then s.refuse .range
  else
    match s.person? p with
    | none => s.refuse .notFound
    | some r =>
      if r.presence = .disembarked then s.refuse .presence
      else if (s.card? serial).isSome then s.refuse .inUse
      else if Config.cardEntries ≤ s.ci.entries.length && s.ci.order.isEmpty then s.refuse .full
      else
        let s1 := if r.card.isSome then (s.revokeCardOf p).rekeyIf r.cabin else s
        let s2 := if Config.cardEntries ≤ s1.ci.entries.length then s1.evictOldest else s1
        let gen := match r.cabin with
          | some c => (s2.cabin c).keyGen
          | none => 0
        let s3 := s2.setCard serial
          { person := p, generation := gen, state := .active, issueTime := s.sck.clock }
        let s4 := s3.modPerson p fun q => { q with card := some serial, reissueDue := false }
        (s4, Reply.ok (be 2 gen ++ opt (be 2) r.cabin ++ opt serialBytes r.card))

/-- R13: REVOKE CARD. In the answer the cabin and its key generation each have a presence byte (DEDUCED, log 12). -/
def revokeCard (serial : Serial) (s : State) : State × Reply :=
  match s.card? serial with
  | none => s.refuse .notFound
  | some e =>
    match e.state with
    | .revoked _ => s.refuse .revoked
    | .active =>
      let cab := (s.person? e.person).bind (·.cabin)
      let s1 := (s.revokeEntry serial).rekeyIf cab
      (s1, Reply.ok (be 2 e.person ++ opt (be 2) cab ++ opt (fun c => be 2 (s1.cabin c).keyGen) cab))

/-- R15: REKEY CABIN. -/
def rekeyCabin (c : Nat) (s : State) : State × Reply :=
  let r := s.cabin c
  if Config.lastCabin < c then s.refuse .range
  else if !r.inUse then s.refuse .notFound
  else if Config.lastGeneration ≤ r.keyGen then s.refuse .genLimit
  else
    let s1 := s.rekey c
    (s1, Reply.ok (be 2 (s1.cabin c).keyGen ++ flagByte r.lock.isSome))

/-- R19: a record made FREE: PU takes 1 from its count, drops the evidence naming it, and it is no longer listed. -/
def State.freePerson (s : State) (p : Nat) : State :=
  match s.person? p with
  | none => s
  | some r =>
    let s1 := s.setCounts (s.pu.counts.put (s.pu.counts.of r.presence - 1) r.presence)
    { s1 with pt := erase s1.pt p
              pu := { s1.pu with evidence := s1.pu.evidence.filter fun e => e.person ≠ p } }

/-- R18, R19, R22, R31, R89: RELEASE PERSON. An open tab and a permit are looked at before the presence: R22 and R89
answer TABS_OPEN to the release of a person with an open tab, and R31 IN_TRANSIT to that of one with a permit, while the
list of R18 has the presence before them (DESIGN CHOICE, log 35). -/
def releasePerson (p : Nat) (writeOff : Bool) (s : State) : State × Reply :=
  if Config.lastPerson < p then s.refuse .range
  else
    match s.person? p with
    | none => s.refuse .notFound
    | some r =>
      if !r.tabs.isEmpty then s.refuse .tabsOpen
      else if r.permitLane.isSome then s.refuse .inTransit
      else if r.presence ≠ .notEmbarked ∧ r.presence ≠ .disembarked then s.refuse .presence
      else if r.folio.balance ≠ 0 ∧ writeOff = false then s.refuse .balanceOpen
      else if r.folio.balance ≠ 0 ∧ s.room < 1 then s.refuse .queueFull
      else
        let s1 := s.removeAndRevoke p
        let s2 := if r.folio.balance = 0 then s1
          else s1.append s1.sck.clock (some p) r.folio.day (.folioFinal r.folio.balance)
        (s2.freePerson p, Reply.ok (be4Signed r.folio.balance))

/-- R112: the balance after an addition, held within its range, and whether it saturated. -/
def addBalance (b amount : Int) : Int × Bool :=
  let sum := b + amount
  if sum > Config.topAmount then ((Config.topAmount : Int), true)
  else if sum < -(Config.topAmount : Int) then (-(Config.topAmount : Int), true)
  else (sum, false)

/-- R20: POST PAYMENT. -/
def postPayment (p : Nat) (amount : Int) (s : State) : State × Reply :=
  if Config.lastPerson < p ∨ amount > Config.topAmount ∨ amount < -(Config.topAmount : Int) then s.refuse .range
  else
    match s.person? p with
    | none => s.refuse .notFound
    | some r =>
      let (b, sat) := addBalance r.folio.balance amount
      (s.setPerson p { r with folio := { r.folio with balance := b } }, Reply.ok (be4Signed b ++ flagByte sat))

/-- R21: READ PERSON: state 0 FREE, 1 OCCUPIED with every field. -/
def readPerson (p : Nat) (s : State) : State × Reply :=
  if Config.lastPerson < p then s.refuse .range
  else
    match s.person? p with
    | none => (s, Reply.ok [0])
    | some r => (s, Reply.ok (1 :: r.bytes))

/-- R21: READ CARD. -/
def readCard (serial : Serial) (s : State) : State × Reply :=
  match s.card? serial with
  | none => s.refuse .notFound
  | some e => (s, Reply.ok (cardBytes serial e))

/-- R21: READ CABIN. -/
def readCabin (c : Nat) (s : State) : State × Reply :=
  if Config.lastCabin < c then s.refuse .range else (s, Reply.ok (s.cabin c).bytes)

/-! ### The steps -/

def execAdmitPerson (tag : Tag) (a : Admission) (s : State) : Host.Outcome State Fault Refusal :=
  s.onCommand (.admitPerson tag a) tag (admitPerson a)
def execAmendPerson (tag : Tag) (p : Nat) (a : Amendment) (s : State) : Host.Outcome State Fault Refusal :=
  s.onCommand (.amendPerson tag p a) tag (amendPerson p a)
def execReleasePerson (tag : Tag) (p : Nat) (w : Bool) (s : State) : Host.Outcome State Fault Refusal :=
  s.onCommand (.releasePerson tag p w) tag (releasePerson p w)
def execIssueCard (tag : Tag) (p : Nat) (serial : Serial) (s : State) : Host.Outcome State Fault Refusal :=
  s.onCommand (.issueCard tag p serial) tag (issueCard p serial)
def execRevokeCard (tag : Tag) (serial : Serial) (s : State) : Host.Outcome State Fault Refusal :=
  s.onCommand (.revokeCard tag serial) tag (revokeCard serial)
def execSetCabin (tag : Tag) (c : Nat) (u : Bool) (l : Nat) (s : State) : Host.Outcome State Fault Refusal :=
  s.onCommand (.setCabin tag c u l) tag (setCabin c u l)
def execRekeyCabin (tag : Tag) (c : Nat) (s : State) : Host.Outcome State Fault Refusal :=
  s.onCommand (.rekeyCabin tag c) tag (rekeyCabin c)
def execPostPayment (tag : Tag) (p : Nat) (a : Int) (s : State) : Host.Outcome State Fault Refusal :=
  s.onCommand (.postPayment tag p a) tag (postPayment p a)
def execReadPerson (tag : Tag) (p : Nat) (s : State) : Host.Outcome State Fault Refusal :=
  s.onCommand (.readPerson tag p) tag (readPerson p)
def execReadCard (tag : Tag) (serial : Serial) (s : State) : Host.Outcome State Fault Refusal :=
  s.onCommand (.readCard tag serial) tag (readCard serial)
def execReadCabin (tag : Tag) (c : Nat) (s : State) : Host.Outcome State Fault Refusal :=
  s.onCommand (.readCabin tag c) tag (readCabin c)

end Sys2Proof.Machine
end

