-- ==== Sys2Proof/Machine/Charge.lean ====
section
/-! DEFINITION. The charge calculator: 06_charge_arithmetic_and_serving_limits.md. -/

namespace Sys2Proof.Machine

/-! ### Rounding and pricing (R108, R109) -/

/-- R108: a rate step, rounded half up. -/
def rateStep (base rate : Nat) : Nat := (base * rate + 5000) / 10000

/-- R109, R98: S, the sum of the line amounts of the non-voided lines. -/
def lineTotal (lines : List Line) : Nat := ((lines.filter fun l => !l.voided).map (·.amount)).sum

/-- The figures of a pricing (R109). -/
structure Prices where
  subtotal : Nat
  discount : Nat
  net : Nat
  service : Nat
  tax : Nat
  total : Nat
  deriving DecidableEq, Repr

/-- R109, R115: the three rates in force for a class at a venue. -/
def State.discountRate (s : State) (venue cls : Nat) : Nat :=
  if (s.venue venue).classDiscount then (s.classRow cls).rate else 0
def State.serviceRate (s : State) (venue : Nat) : Nat :=
  if (s.venue venue).serviceApplies then (s.venue venue).serviceRate else 0
def State.taxRate (s : State) (venue : Nat) : Nat :=
  if (s.venue venue).taxable ∧ s.cc.tax = .port then (s.venue venue).taxRate else 0

/-- R109: the six steps of a pricing at given rates. -/
def pricesAt (subtotal d sv t : Nat) : Prices :=
  let discount := rateStep subtotal d
  let net := subtotal - discount
  let service := rateStep net sv
  let tax := rateStep (net + service) t
  { subtotal := subtotal, discount := discount, net := net, service := service, tax := tax,
    total := net + service + tax }

/-- R109: a tab priced at the rates in force now. -/
def State.price (s : State) (venue cls : Nat) (lines : List Line) : Prices :=
  pricesAt (lineTotal lines) (s.discountRate venue cls) (s.serviceRate venue) (s.taxRate venue)

/-- The class of a person's record. -/
def State.classOf (s : State) (p : Nat) : Nat := ((s.person? p).map (·.cls)).getD 0

/-! ### Authorising a line and computing a close (R110, R111, R112) -/

/-- R94, R110: the daily spend as the daily test reads it: 0 for a person behind the open day. -/
def Folio.spendOn (f : Folio) (openDay : Nat) : Nat := if f.day < openDay then 0 else f.dailySpend

/-- R110: the credit test fails. -/
def overCredit (f : Folio) (oldTotal newTotal : Nat) : Bool :=
  f.balance + (f.held : Int) - oldTotal + newTotal > (f.creditLimit : Int)

/-- R110: the daily test fails. -/
def overDaily (f : Folio) (openDay oldTotal newTotal : Nat) : Bool :=
  f.dailyLimit.any fun d => (f.spendOn openDay : Int) + f.held - oldTotal + newTotal > (d : Int)

/-- The figures and flags of a close (R111). -/
structure CloseFigures where
  prices : Prices
  tip : Nat
  amount : Nat
  tipClamped : Bool
  tipRequestClamped : Bool
  overLimit : Bool
  saturated : Bool
  balance : Int
  deriving DecidableEq, Repr

/-- R111: the figures of a close that is not empty. -/
def closeFigures (p : Prices) (f : Folio) (oldTotal tipRequest : Nat) : CloseFigures :=
  let asked := min tipRequest 999999
  let room := ((f.creditLimit : Int) - f.balance - f.held + oldTotal - p.total).toNat
  let tip := min asked (min p.net room)
  let z := p.total + tip
  { prices := p, tip := tip, amount := z, tipClamped := tip < asked, tipRequestClamped := 999999 < tipRequest,
    overLimit := f.balance + (z : Int) > (f.creditLimit : Int), saturated := (addBalance f.balance z).2,
    balance := (addBalance f.balance z).1 }

/-- R112: the daily spend after an addition. -/
def addSpend (spend z : Nat) : Nat := min (spend + z) Config.topAmount

/-- R111, R112: a close's figures applied to the folio. -/
def Folio.charge (f : Folio) (c : CloseFigures) (oldTotal : Nat) : Folio :=
  { f with balance := c.balance, held := f.held - oldTotal, dailySpend := addSpend f.dailySpend c.amount }

/-! ### The serving cap (R116, R118) -/

/-- R116: a line is capped when its category is in the capped set. -/
def State.isCapped (s : State) (category : Nat) : Bool := inSet s.cc.capped category

/-- R118: the servings that count. -/
def State.servingsNow (s : State) (l : List Serving) : Nat :=
  ((l.filter (Serving.counts s.minute s.cc.window)).map (·.count)).sum

/-- R118: the cap would be exceeded by a line of this quantity. -/
def State.overCap (s : State) (r : Person) (quantity : Nat) : Bool :=
  (s.classRow r.cls).cap.any fun k => k < s.servingsNow r.servings + quantity

/-- R118: the pruning of a person's list at the current minute. -/
def State.prune (s : State) (l : List Serving) : List Serving := pruneServings s.minute s.cc.window l

/-! ### Settings (R102, R113 to R116, R122) -/

/-- R113: SET VENUE. -/
def setVenue (v : Nat) (row : VenueRow) (s : State) : State × Reply :=
  if Config.lastVenue < v then s.refuse .range
  else if !row.inUse && s.tabAtVenue v then s.refuse .tabsOpen
  else
    let kept := { row with serviceRate := min row.serviceRate 2500, taxRate := min row.taxRate 2500 }
    ({ s with cc := { s.cc with venues := setD s.cc.venues v coldVenue kept } }, Reply.ok kept.bytes)

/-- R114: the serving cap that a cap code gives. -/
def capOfCode (code : Nat) : Option Nat := if code = 7 then none else some (max code 1)

/-- R114: SET CLASS. -/
def setClass (c rate code : Nat) (s : State) : State × Reply :=
  if Config.lastClass < c ∨ 7 < code then s.refuse .range
  else
    let row : ClassRow := { rate := min rate 5000, cap := capOfCode code }
    ({ s with cc := { s.cc with classes := setD s.cc.classes c ClassRow.cold row } }, Reply.ok row.bytes)

/-- R115: SET TAX STATE. -/
def setTaxState (t : TaxState) (s : State) : State × Reply :=
  ({ s with cc := { s.cc with tax := t } }, Reply.ok (be 1 s.cc.tax.code))

/-- R116: SET CAP. -/
def setCap (capped : BitVec 16) (window : Nat) (s : State) : State × Reply :=
  let w := clamp 10 240 window
  ({ s with cc := { s.cc with capped := capped, window := w } }, Reply.ok (be 4 w))

/-- R102: SET RESTRICTION. -/
def setRestriction (c v : Nat) (barred : BitVec 16) (s : State) : State × Reply :=
  if Config.lastClass < c ∨ Config.lastVenue < v then s.refuse .range
  else ({ s with cc := { s.cc with restrictions := setD s.cc.restrictions (c * 32 + v) 0 barred } }, Reply.ok [])

/-- R122: the settings in their order; sets of venues as four bytes, venue k at bit k (log 12). -/
def settingsBody (s : State) : List Byte :=
  (List.range 32).flatMap (fun v => (s.venue v).bytes) ++ (List.range 8).flatMap (fun c => (s.classRow c).bytes) ++
    be 2 s.cc.capped.toNat ++ be 4 s.cc.window ++ be 1 s.cc.tax.code ++ be 4 s.tu.holds.toNat ++
    (List.range 8).flatMap (fun c => (List.range 32).flatMap fun v => be 2 (s.barred c v).toNat) ++
    be 4 s.nfu.refusalRecord.toNat ++ be 4 s.nfu.refusalNotice.toNat

/-- R122: READ VENUE SETTINGS. -/
def readVenueSettings (s : State) : State × Reply := (s, Reply.ok (settingsBody s))

/-! ### The steps -/

def execSetVenue (tag : Tag) (v : Nat) (row : VenueRow) (s : State) : Host.Outcome State Fault Refusal :=
  s.onCommand (.setVenue tag v row) tag (setVenue v row)
def execSetClass (tag : Tag) (c r k : Nat) (s : State) : Host.Outcome State Fault Refusal :=
  s.onCommand (.setClass tag c r k) tag (setClass c r k)
def execSetTaxState (tag : Tag) (t : TaxState) (s : State) : Host.Outcome State Fault Refusal :=
  s.onCommand (.setTaxState tag t) tag (setTaxState t)
def execSetCap (tag : Tag) (c : BitVec 16) (w : Nat) (s : State) : Host.Outcome State Fault Refusal :=
  s.onCommand (.setCap tag c w) tag (setCap c w)
def execSetRestriction (tag : Tag) (c v : Nat) (b : BitVec 16) (s : State) : Host.Outcome State Fault Refusal :=
  s.onCommand (.setRestriction tag c v b) tag (setRestriction c v b)
def execReadVenueSettings (tag : Tag) (s : State) : Host.Outcome State Fault Refusal :=
  s.onCommand (.readVenueSettings tag) tag readVenueSettings

end Sys2Proof.Machine
end

