-- ==== Sys2Proof/Machine/Clock.lean ====
section
/-! DEFINITION. The ship clock, the supplies, the resets and the MUSTER line: 09_ship_clock_muster_line_and_supplies.md,
with every block's own reset rule (R23, R44, R85, R106, R123, R135, R151, R171, R187). -/

namespace Sys2Proof.Machine

/-! ### Purser commands (R153, R158, R161) -/

/-- R153: SET CLOCK. -/
def setClock (time : Nat) (s : State) : State × Reply :=
  if Config.top32 < time then s.refuse .range
  else
    let s1 : State := { s with sck := { s.sck with clock := time, clockSet := true } }
    let s2 := s1.mapServings (clampServings s1.minute)
    let s3 := if s2.deadlineReached then s2.expireDeadline else s2
    let s4 := if s3.inFlight then s3.setOperation { s3.oe with clockSetSeen := true } else s3
    (s4, Reply.ok (be 4 s.sck.clock ++ be 4 time))

/-- R44: a lane under CLEAR ALL. -/
def Lane.clear (l : Lane) : Lane := { l with permit := none, tallies := Tallies.zero }

/-- R158: the voyage clear, with every block's CLEAR ALL column; the deadline's time stays (log 20). -/
def State.voyageClear (s : State) : State :=
  let s1 : State := { s with
    pt := []
    ci := { entries := [], order := [] }
    ct := mapD Cabin.cold (fun c => { c with occupants := [] }) s.ct
    pu := { s.pu with
      counts := { notEmbarked := 0, aboard := 0, ashore := 0, disputed := 0, disembarked := 0 }
      lanes := mapD Lane.cold Lane.clear s.pu.lanes
      deadline := { s.pu.deadline with armed := false, passed := false }
      evidence := [] }
    tu := { s.tu with
      slots := mapD Slot.cold (fun x => { x with tab := none }) s.tu.slots
      terminals := mapD Terminal.cold (fun x => { x with tabs := [] }) s.tu.terminals }
    pq := { s.pq with records := [] } }
  s1.deriveModes

/-- R158: CLEAR ALL. -/
def clearAll (s : State) : State × Reply :=
  if s.inFlight then s.refuse .busy
  else if s.anyTab then s.refuse .tabsOpen
  else if !s.pq.records.isEmpty then s.refuse .notEmpty
  else (s.voyageClear, Reply.ok [])

/-- R161: READ CLOCK; two-valued states by their position in the spec's list, and the level of the MUSTER line as a flag
byte, 1 for active (log 13). -/
def readClock (s : State) : State × Reply :=
  (s, Reply.ok (be 4 s.sck.clock ++ be 1 s.sck.clockSet.toNat ++ be 6 s.sck.elapsed ++ be 4 s.sck.openDay ++
    be 1 (!s.sck.muster).toNat ++ flagByte s.sck.musterLevel ++ be 1 (!s.sck.supb).toNat ++
    be 1 s.sck.lastReset.code))

/-! ### Resets (R157, R160) -/

/-- R160: the MUSTER line is sampled after a reset; `was` is the muster state before a WARM reset. -/
def State.sampleMuster (s : State) (was : Bool) : State :=
  if s.sck.musterLevel then s.enterMuster was
  else if was then s.leaveMuster
  else s

/-- The COLD reset: every block's COLD column, which State.reset holds; the inputs and the MUSTER line's filter stay as
they are, and the commands waiting in the model's queue stay. -/
def State.coldReset (s : State) : State :=
  ({ State.reset with
      pending := s.pending
      tagCount := s.tagCount
      sck := { State.reset.sck with
        musterLevel := s.sck.musterLevel, musterLine := s.sck.musterLine, musterHold := s.sck.musterHold
        supb := s.sck.supb } } : State).sampleMuster false

/-- R85: a lock record under a WARM reset: one heard from counts anew (log 19). -/
def Lock.warm (k : Lock) : Lock :=
  if k.ackGen.isSome then { k with lastContact := some 0, dozeAtContact := 0 } else k

/-- R85: a segment controller under a WARM reset. -/
def Segment.warm (c : Segment) : Segment :=
  { c with
    roster := mapRecords Lock.warm c.roster
    cursor := 1, unreachable := 0, dozeCount := 0, outstanding := none, lastPoll := none
    measure := { start := 0, limit := none } }

/-- R23: the permit fields of a person are cleared. -/
def Person.clearPermits (r : Person) : Person :=
  { r with permitLane := none, lastLane := none, lastCrossing := none }

/-- R157: every block's WARM column; RESTART is made pending at the completion (R187). -/
def State.warmEffects (s : State) : State :=
  let s1 := s.endPermits
  { s1 with
    pp := { port := .empty, pdo := [] }
    lk := []
    pt := mapRecords Person.clearPermits s1.pt
    pu := { s1.pu with evidence := [] }
    sc := mapD Segment.cold Segment.warm s1.sc
    oe := if s1.inFlight then { s1.oe with state := .idle, result := some .reset } else s1.oe
    nfu := { s1.nfu with pending := setMember 0 Notice.restart.number true, status := 0, first := none }
    sck := { s1.sck with elapsed := 0, muster := false, returned := false, lastReset := .warm } }

/-- R157, R160, R41: the WARM reset: the effects, the sample of the MUSTER line, and the expiry of a deadline reached
meanwhile (log 30). -/
def State.warmReset (s : State) : State :=
  let s1 := (s.warmEffects.deriveModes).sampleMuster s.sck.muster
  if s1.deadlineReached then s1.expireDeadline else s1

/-! ### Supplies (R156) -/

/-- R156: SUPM is lost: the main domain goes with it, and the retention mark too when SUPB is absent (log 17, log 18). -/
def State.loseMain (s : State) : State :=
  { s with
    pp := { port := .empty, pdo := [] }
    lk := []
    sc := mapD Segment.cold (fun c => { c with outstanding := none }) s.sc
    sck := { s.sck with supm := false, returned := false, mark := s.sck.mark && s.sck.supb } }

/-- R156: the reset that a mark decides. -/
def State.markedReset (s : State) : State := if s.sck.mark then s.warmReset else s.coldReset

/-- R156, R157: SUPM returns, with the MUSTER line at a level that its filter holds (log 16); with the RESET line active
the reset waits for its release. -/
def State.regainMain (s : State) (level : Bool) : State :=
  let s1 : State := { s with sck := { s.sck with
    supm := true, musterLevel := level, musterLine := level, musterHold := 0 } }
  if s.sck.resetLine then { s1 with sck := { s1.sck with returned := true } } else s1.markedReset

/-- R157: the RESET line is released: no reset without SUPM (log 34); the reset of a return by its mark; else WARM. -/
def State.releaseReset (s : State) : State :=
  let s1 : State := { s with sck := { s.sck with resetLine := false } }
  if !s.sck.supm then s1
  else if s.sck.returned then s1.markedReset
  else s1.warmReset

/-! ### The MUSTER line (R159) -/

/-- R159: the MUSTER line moves to a level, which its filter begins to measure. -/
def State.setMusterLine (s : State) (level : Bool) : State :=
  if s.sck.musterLine = level then s else { s with sck := { s.sck with musterLine := level, musterHold := 0 } }

/-- R159: a change that the filter has let through is due to be taken: its level is not the muster state's. -/
def State.musterDue (s : State) (level : Bool) : Bool := s.sck.musterLevel = level && s.sck.muster ≠ level

/-- R159: a change of the MUSTER line to a level. Where the filter has let it through, the change is taken; else the row
stands for the line's own move, which the filter then measures (log 16). Without SUPM nothing follows the line. -/
def State.musterChange (s : State) (level : Bool) (taken : State → State) : State :=
  if !s.sck.supm then s
  else if s.takesEvents && s.musterDue level then taken s
  else s.setMusterLine level

/-- R159: a rise of the MUSTER line. -/
def State.musterRise (s : State) : State := s.musterChange true fun s => s.enterMuster false

/-- R159: a fall of the MUSTER line. -/
def State.musterFall (s : State) : State := s.musterChange false State.leaveMuster

/-! ### The steps -/

def execSetClock (tag : Tag) (t : Nat) (s : State) : Host.Outcome State Fault Refusal :=
  s.onCommand (.setClock tag t) tag (setClock t)
def execClearAll (tag : Tag) (s : State) : Host.Outcome State Fault Refusal :=
  s.onCommand (.clearAll tag) tag clearAll
def execReadClock (tag : Tag) (s : State) : Host.Outcome State Fault Refusal :=
  s.onCommand (.readClock tag) tag readClock

/-- R159: MUSTER_ENTRY. -/
def execMusterEntry (s : State) : Host.Outcome State Fault Refusal := .next s.musterRise
/-- R159: MUSTER_EXIT. -/
def execMusterExit (s : State) : Host.Outcome State Fault Refusal := .next s.musterFall
/-- R156: SUPM_LOSS. -/
def execSupmLoss (s : State) : Host.Outcome State Fault Refusal :=
  .next (if s.sck.supm then s.loseMain else s)
/-- R156: SUPM_RETURN, with the level of the MUSTER line as the filter holds it (log 16). -/
def execSupmReturn (level : Bool) (s : State) : Host.Outcome State Fault Refusal :=
  .next (if s.sck.supm then s else s.regainMain level)
/-- R156: SUPB_LOSS (log 18). -/
def execSupbLoss (s : State) : Host.Outcome State Fault Refusal :=
  .next { s with sck := { s.sck with supb := false, mark := s.sck.mark && s.sck.supm } }
/-- R156: SUPB_RETURN. -/
def execSupbReturn (s : State) : Host.Outcome State Fault Refusal :=
  .next { s with sck := { s.sck with supb := true } }
/-- R157: RESET_ASSERT. -/
def execResetAssert (s : State) : Host.Outcome State Fault Refusal :=
  .next { s with sck := { s.sck with resetLine := true } }
/-- R157: RESET_RELEASE. -/
def execResetRelease (s : State) : Host.Outcome State Fault Refusal :=
  .next (if s.sck.resetLine then s.releaseReset else s)

end Sys2Proof.Machine
end

