-- ==== Sys2Proof/Machine/Doors.lean ====
section
/-! DEFINITION. Door access decisions and offline log entries: 03_door_access_decisions.md. -/

namespace Sys2Proof.Machine

/-- R47: what the three card checks find: a refusal, or the card's person. -/
inductive CardCheck where
  | refused (c : Code)
  | passed (person : Nat) (r : Person)
  deriving DecidableEq, Repr

/-- R47: the checks that both kinds of lock take first, in their order. -/
def State.cardChecks (s : State) (serial : Serial) (gen : Nat) : CardCheck :=
  match s.card? serial with
  | none => .refused .unknownCard
  | some e =>
    if e.generation ≠ gen then .refused .unknownCard
    else
      match e.state with
      | .revoked _ => .refused .revoked
      | .active =>
        match s.person? e.person with
        | none => .refused .notEmbarked
        | some r =>
          if r.presence = .notEmbarked ∨ r.presence = .disembarked then .refused .notEmbarked
          else .passed e.person r

/-- R49, R50: the decision at a CABIN lock of a person who passed the card checks. -/
def State.cabinDecision (s : State) (cabin gen : Nat) (bolt : Bool) (r : Person) : Code :=
  if r.cabin = some cabin then
    if gen = (s.cabin cabin).keyGen then .granted else .grantedReissue
  else if r.master then
    if bolt && !s.sck.muster then .privacy else .granted
  else .notOccupant

/-- R51: the decision at an AREA lock. -/
def areaDecision (code : Nat) (r : Person) : Code := if inSet r.areas code then .granted else .area

/-- R47 to R51: the outcome of a presentation. -/
def State.doorDecision (s : State) (kind : LockKind) (serial : Serial) (gen : Nat) (bolt : Bool) : Code :=
  match s.cardChecks serial gen with
  | .refused c => c
  | .passed _ r =>
    match kind with
    | .cabin n => s.cabinDecision n gen bolt r
    | .area code => areaDecision code r

/-- R48, R52: what a decision hands on: evidence of a grant, the posting and notice of a revoked card. -/
def State.handOn (s : State) (g st : Nat) (serial : Serial) (outcome : Code) : State :=
  match s.card? serial with
  | none => s
  | some e =>
    match outcome with
    | .granted => s.sendEvidence ⟨e.person, s.sck.clock, serial, .door g st, false⟩
    | .grantedReissue => s.sendEvidence ⟨e.person, s.sck.clock, serial, .door g st, false⟩
    | .revoked => s.revokedUse e.person serial (.door g st)
    | _ => s

/-- R53: the answer frame of a decision. -/
def doorAnswer (f : Frame) (outcome : Code) : Frame :=
  { station := f.station, kind := 0x11, tag := f.tag, body := be 1 outcome.number }

/-- R67: what a presentation does to the lock's record. -/
def State.contactByCard (s : State) (g st : Nat) (bolt : Bool) : State :=
  s.modLock g st fun k => { k with
    lastContact := some s.sck.elapsed
    dozeAtContact := (s.seg g).dozeCount
    status := { k.status with deadbolt := bolt }
    state := if k.state = .stale then .online else k.state }

/-- R46, R67: SCn takes a presentation: from a station that is not enrolled it is not decided and STATION_UNKNOWN
is recorded; else the lock's record is updated, AU decides, and the answer waits. -/
def State.present (s : State) (g : Nat) (f : Frame) (serial : Serial) (gen : Nat) (bolt : Bool) : State :=
  match s.lock? g f.station with
  | none => s.recordFault (frameFault .stationUnknown (segLink g) f)
  | some k =>
    let outcome := s.doorDecision k.kind serial gen bolt
    ((s.contactByCard g f.station bolt).handOn g f.station serial outcome).queueAnswer (segLink g)
      (doorAnswer f outcome)

/-- R55 to R59: AU handles a fetched offline log entry against the tables as they stand. -/
def State.logEntry (s : State) (g st : Nat) (serial : Serial) (time : Nat) (granted : Bool) : State :=
  if granted then
    let exposure (person : Option Nat) : State :=
      (s.append time person s.sck.openDay (.access .exposure (.door g st) serial true)).raise .exposure
    match s.card? serial with
    | none => exposure none
    | some e =>
      match e.state with
      | .revoked _ => exposure (some e.person)
      | .active => s.sendEvidence ⟨e.person, time, serial, .door g st, true⟩
  else s

/-! ### The steps -/

/-- R46: PRESENTATION. -/
def execPresentation (g st : Nat) (tag : Byte) (serial : Serial) (gen : Nat) (bolt : Bool) (s : State) :
    Host.Outcome State Fault Refusal :=
  s.onFrame (.presentation g st tag serial gen bolt) fun _ f s1 => s1.present g f serial gen bolt

end Sys2Proof.Machine
end

