-- ==== Sys2Proof/Machine/Gangway.lean ====
section
/-! DEFINITION. Presence and the gangway lanes: 02_presence_and_the_gangway_lanes.md. -/

namespace Sys2Proof.Machine

/-! ### Purser commands -/

/-- R28: SET LANE. -/
def setLaneMode (n point : Nat) (mode : LaneMode) (s : State) : State × Reply :=
  if n < 1 ∨ 8 < n ∨ 3 < point then s.refuse .range
  else
    let eff := deriveMode s.closing mode
    let s1 := s.setLane n { s.lane n with point := point, configured := mode, effective := eff }
    let s2 := if eff = .closed then s1.endPermit n else s1
    (s2, Reply.ok (be 1 eff.code))

/-- R28: SET PERMIT WINDOW. -/
def setPermitWindow (seconds : Nat) (s : State) : State × Reply :=
  let w := clamp 3 30 seconds
  ({ s with pu := { s.pu with permitWindow := w } }, Reply.ok (be 4 w))

/-- R39: SET PRESENCE. -/
def setPresence (p : Nat) (new : Presence) (s : State) : State × Reply :=
  if Config.lastPerson < p ∨ new = .disputed then s.refuse .range
  else
    match s.person? p with
    | none => s.refuse .notFound
    | some r =>
      if r.permitLane.isSome then s.refuse .inTransit
      else if (new = .notEmbarked ∨ new = .disembarked) ∧ r.tabs ≠ [] then s.refuse .tabsOpen
      else
        let reply := Reply.ok (be 1 r.presence.code ++ be 1 new.code)
        if r.presence = new then (s, reply)
        else
          let s1 := s.movePresence p new
          (if new = .disembarked then s1.removeAndRevoke p else s1, reply)

/-- R40: ARM DEADLINE. -/
def armDeadline (time : Nat) (s : State) : State × Reply :=
  if !s.sck.clockSet then s.refuse .clockUnset
  else if time ≤ s.sck.clock then s.refuse .past
  else ((s.setDeadline { armed := true, time := time, passed := false }).deriveModes, Reply.ok [])

/-- R40: DISARM DEADLINE. -/
def disarmDeadline (s : State) : State × Reply :=
  if s.pu.deadline.armed then
    ((s.setDeadline { s.pu.deadline with armed := false, passed := false }).deriveModes, Reply.ok [])
  else (s, Reply.ok [])

/-- R43: the figures of READ COUNTS. -/
def countsBody (s : State) : List Byte :=
  let c := s.pu.counts
  be 4 c.notEmbarked ++ be 4 c.aboard ++ be 4 c.ashore ++ be 4 c.disputed ++ be 4 c.disembarked ++
    be 4 s.overdueCount ++ flagByte s.pu.deadline.armed ++ be 4 s.pu.deadline.time ++
    flagByte s.pu.deadline.passed ++ be 4 s.pu.permitWindow ++
    laneNumbers.flatMap (fun n => (s.lane n).bytes s.sck.elapsed) ++ opt Snapshot.bytes s.pu.snapshot

/-- R43: READ COUNTS. -/
def readCounts (s : State) : State × Reply := (s, Reply.ok (countsBody s))

/-! ### Scans (R29 to R31) -/

/-- R29, check 7: the direction a lane gives, or a refusal. -/
def scanDirection (mode : LaneMode) (p : Presence) : Option Direction :=
  match mode with
  | .outbound => some .outward
  | .inbound => some .inward
  | _ =>
    match p with
    | .aboard => some .outward
    | .ashore => some .inward
    | .notEmbarked => some .inward
    | _ => none

/-- R29, check 8: the from-states a direction admits. -/
def fromStateOk (d : Direction) (p : Presence) : Bool :=
  match d with
  | .outward => p = .aboard || p = .disputed
  | .inward => p = .notEmbarked || p = .ashore || p = .disputed

/-- R31: the permit granted. -/
def State.grantPermit (s : State) (n p : Nat) (d : Direction) (r : Person) : State :=
  let l := s.lane n
  (s.setLane n { l with
      permit := some { person := p, direction := d, fromState := r.presence,
                       expiry := s.sck.elapsed + s.pu.permitWindow * 1000 }
      tallies := { l.tallies with granted := tallyUp l.tallies.granted } }).setPerson p
    { r with permitLane := some n }

/-- R29, check 6: a scan at the lane of the last crossing less than 5,000 ms after it. -/
def State.repeats (s : State) (n : Nat) (r : Person) : Bool :=
  r.lastLane = some n && r.lastCrossing.any fun t => s.sck.elapsed < t + Config.repeatMs

/-- R29: a refused scan's answer: the code and, when the card was known, the person (log 24). -/
def scanRefused (c : Code) (person : Option Nat) : List Byte := be 1 c.number ++ optPerson person

/-- R29 to R31: the checks of a scan in their order, with the answer's body. -/
def scanLane (n : Nat) (serial : Serial) (s : State) : State × List Byte :=
  let l := s.lane n
  if n < 1 ∨ 8 < n then (s, scanRefused .range none)
  else if l.effective = .closed then (s, scanRefused .laneClosed none)
  else
    match s.card? serial with
    | none => (s, scanRefused .unknownCard none)
    | some e =>
      let refuse (c : Code) : State × List Byte := (s, scanRefused c (some e.person))
      match e.state with
      | .revoked _ => (s.revokedUse e.person serial (.lane n), scanRefused .revoked (some e.person))
      | .active =>
        if l.permit.isSome then refuse .laneBusy
        else
          match s.person? e.person with
          | none => refuse .wrongDirection
          | some r =>
            if r.permitLane.isSome then refuse .inTransit
            else if s.repeats n r then refuse .repeated
            else
              match scanDirection l.effective r.presence with
              | none =>
                if r.presence = .disputed then refuse .directionUnknown else refuse .wrongDirection
              | some d =>
                if !fromStateOk d r.presence then refuse .wrongDirection
                else if d = .outward ∧ r.holdAboard then refuse .holdAboard
                else (s.grantPermit n e.person d r,
                  be 1 Code.permit.number ++ be 1 d.code ++ be 2 e.person ++ be 4 s.pu.permitWindow)

/-! ### Passages (R33 to R35) -/

/-- R33, R34: a permit of the passage's direction is consumed: the lane's permit and the person's permit lane are
cleared, and the lane's tallies change. -/
def State.consumePermit (s : State) (n : Nat) (p : Permit) (f : Tallies → Tallies) : State :=
  let l := s.lane n
  (s.setLane n { l with permit := none, tallies := f l.tallies }).modPerson p.person
    fun r => { r with permitLane := none }

/-- R33: the crossing commits. -/
def State.commitCrossing (s : State) (n : Nat) (p : Permit) : State :=
  let late := p.fromState = .ashore ∧ s.overdueNow
  let new : Presence := match p.direction with
    | .outward => .ashore
    | .inward => .aboard
  let s1 := s.consumePermit n p fun t =>
    match p.direction with
    | .outward => { t with outward := tallyUp t.outward }
    | .inward => { t with inward := tallyUp t.inward }
  let s2 := (s1.movePresence p.person new).modPerson p.person fun r =>
    { r with lastLane := some n, lastCrossing := some s.sck.elapsed }
  let s3 := s2.appendCrossing (some p.person)
    { lane := n, direction := p.direction, late := late, wasDisputed := p.fromState = .disputed, stale := false,
      unscanned := false, minutesLate := if late then some s.minutesLate else none }
  if late then s3.raise .lateReturn else s3

/-- R34: the passage is stale. -/
def State.stalePassage (s : State) (n : Nat) (p : Permit) : State :=
  let s1 := s.consumePermit n p fun t => { t with stale := tallyUp t.stale }
  (s1.appendCrossing (some p.person)
    { lane := n, direction := p.direction, late := false, wasDisputed := false, stale := true, unscanned := false,
      minutesLate := none }).raise .stalePassage

/-- R35: the passage is unscanned. -/
def State.unscannedPassage (s : State) (n : Nat) (d : Direction) : State :=
  let l := s.lane n
  ((s.setLane n { l with tallies := { l.tallies with passNoScan := tallyUp l.tallies.passNoScan } }).appendCrossing
    none { lane := n, direction := d, late := false, wasDisputed := false, stale := false, unscanned := true,
           minutesLate := none }).raise .tailgate

/-- R33 to R35: a passage; results COMMITTED 0, STALE 1, UNSCANNED 2 (log 13). An unscanned passage answers its absent
person as 0xFFFF before the result, where the other two name theirs (DEDUCED, log 40). The outcome code of a stale or an
unscanned passage is OK, as that of a committed one (DEDUCED, log 46). -/
def passLane (n : Nat) (d : Direction) (s : State) : State × List Byte :=
  if n < 1 ∨ 8 < n then (s, be 1 Code.range.number)
  else
    let unscanned : State × List Byte := (s.unscannedPassage n d, be 1 Code.ok.number ++ optPerson none ++ be 1 2)
    match (s.lane n).permit with
    | none => unscanned
    | some p =>
      if p.direction ≠ d then unscanned
      else if (s.person? p.person).any fun r => r.presence = p.fromState then
        (s.commitCrossing n p, be 1 Code.ok.number ++ optPerson (some p.person) ++ be 1 0)
      else (s.stalePassage n p, be 1 Code.ok.number ++ optPerson (some p.person) ++ be 1 1)

/-- R29, R33: the answer to a lane's frame waits to be sent on GL with the frame's tag. -/
def State.answerLane (s : State) (f : Frame) (body : List Byte) : State :=
  s.queueAnswer glLink { station := f.station, kind := 0x3F, tag := f.tag, body := body }

/-! ### Evidence (R38) -/

/-- R38: PU takes a piece of evidence. -/
def State.takeEvidence (s : State) (e : Evidence) : State :=
  match s.person? e.person with
  | none => s
  | some r =>
    if r.presence = .ashore ∧ r.ashoreSince.all (· ≤ e.time) then
      let s1 := s.movePresence e.person .disputed
      (s1.append s1.sck.clock (some e.person) s1.sck.openDay
        (.access .disputeRaised e.source e.serial e.offline)).raise .dispute
    else s

/-- R38: the oldest piece of evidence is taken. -/
def State.nextEvidence (s : State) : State :=
  match s.pu.evidence with
  | [] => s
  | e :: rest => ({ s with pu := { s.pu with evidence := rest } } : State).takeEvidence e

/-! ### Conditions of PU's own events -/

/-- R32: a lane's permit has reached its expiry. -/
def State.permitDue (s : State) (n : Nat) : Bool :=
  (s.lane n).permit.any fun p => p.expiry ≤ s.sck.elapsed

/-- An answer of a link may be sent: the link is UP and an answer waits (R71, R90). -/
def State.answerReady (s : State) (n : Nat) : Bool := (s.link n).state = .up && !(s.link n).answers.isEmpty

/-- The oldest waiting answer of a link is sent (R53, R90). -/
def State.sendAnswer (s : State) (n : Nat) : State :=
  match (s.link n).answers with
  | [] => s
  | f :: rest => (s.modLink n fun l => { l with answers := rest }).sendFrame n f

/-! ### The steps -/

def execSetLane (tag : Tag) (n point : Nat) (m : LaneMode) (s : State) : Host.Outcome State Fault Refusal :=
  s.onCommand (.setLane tag n point m) tag (setLaneMode n point m)
def execSetPermitWindow (tag : Tag) (n : Nat) (s : State) : Host.Outcome State Fault Refusal :=
  s.onCommand (.setPermitWindow tag n) tag (setPermitWindow n)
def execSetPresence (tag : Tag) (p : Nat) (st : Presence) (s : State) : Host.Outcome State Fault Refusal :=
  s.onCommand (.setPresence tag p st) tag (setPresence p st)
def execArmDeadline (tag : Tag) (t : Nat) (s : State) : Host.Outcome State Fault Refusal :=
  s.onCommand (.armDeadline tag t) tag (armDeadline t)
def execDisarmDeadline (tag : Tag) (s : State) : Host.Outcome State Fault Refusal :=
  s.onCommand (.disarmDeadline tag) tag disarmDeadline
def execReadCounts (tag : Tag) (s : State) : Host.Outcome State Fault Refusal :=
  s.onCommand (.readCounts tag) tag readCounts

/-- R29: SCAN. -/
def execScan (n : Nat) (tag : Byte) (serial : Serial) (s : State) : Host.Outcome State Fault Refusal :=
  s.onFrame (.scan n tag serial) fun _ f s1 =>
    let r := scanLane n serial s1
    r.1.answerLane f r.2

/-- R33: PASSAGE. -/
def execPassage (n : Nat) (tag : Byte) (d : Direction) (s : State) : Host.Outcome State Fault Refusal :=
  s.onFrame (.passage n tag d) fun _ f s1 =>
    let r := passLane n d s1
    r.1.answerLane f r.2

/-- R38: EVIDENCE. -/
def execEvidence (s : State) : Host.Outcome State Fault Refusal := s.onEvent true State.nextEvidence

/-- R32: PERMIT_EXPIRY. -/
def execPermitExpiry (n : Nat) (s : State) : Host.Outcome State Fault Refusal :=
  s.onEvent (laneNumbers.contains n && s.permitDue n) fun s => s.endPermit n

/-- R41: DEADLINE_EXPIRY. -/
def execDeadlineExpiry (s : State) : Host.Outcome State Fault Refusal :=
  s.onEvent s.deadlineReached State.expireDeadline

/-- R29, R90: LANE_ANSWER. -/
def execLaneAnswer (s : State) : Host.Outcome State Fault Refusal :=
  s.onEvent (s.answerReady glLink) fun s => s.sendAnswer glLink

end Sys2Proof.Machine
end

