-- ==== Sys2Proof/Machine/Segments.lean ====
section
/-! DEFINITION. The segment controllers: 04_lock_segments.md. -/

namespace Sys2Proof.Machine

/-- A station number of a lock (R63). -/
def stationOk (st : Nat) : Bool := 1 ≤ st && st ≤ Config.stations

/-! ### Staleness and the window (R78, R82) -/

/-- R78: an ONLINE lock whose contact deadline has been reached. -/
def State.contactDue (s : State) (g st : Nat) : Bool :=
  match s.lock? g st with
  | none => false
  | some k => ((s.seg g).deadline? k).any (· ≤ s.sck.elapsed)

/-- R78: the lock becomes STALE and LOCK_STALE is raised. -/
def State.makeStale (s : State) (g st : Nat) : State :=
  (s.modLock g st fun k => { k with state := .stale }).raise .lockStale

/-- R78, R82: every lock whose deadline is already past becomes STALE (log 23). -/
def State.settleStale (s : State) (g : Nat) : State :=
  ((s.seg g).roster.map (·.1)).foldl (fun s st => if s.contactDue g st then s.makeStale g st else s) s

/-- R82: the contact window in force is derived again, and takes effect at once (R78). -/
def State.deriveWindow (s : State) (g : Nat) : State :=
  (s.modSeg g fun c => { c with window := c.deriveWindow }).settleStale g

/-! ### Purser commands -/

/-- R65: the new record. R65 lists no doze counter at contact; the model writes 0 (DESIGN CHOICE, log 36). -/
def enrolled (kind : LockKind) (wanted : Bool) : Lock :=
  { kind := kind, excluded := false, state := .new, ackGen := none, lastContact := none, dozeAtContact := 0,
    status := ⟨false, false, false, false⟩, release := if wanted then .releasePending else .normal, logCount := 0 }

/-- R65: a cabin number above 2047 or an area code above 63 is out of range. -/
def lockKindOk : LockKind → Bool
  | .cabin n => n ≤ Config.lastCabin
  | .area n => n ≤ 63

/-- The cabin's bound lock written, for a CABIN lock (R65, R66). -/
def State.bindLock (s : State) (kind : LockKind) (l : Option (Nat × Nat)) : State :=
  match kind.cabin? with
  | some c => s.setCabin c { s.cabin c with lock := l }
  | none => s

/-- R65: ENROL LOCK. -/
def enrolLock (g st : Nat) (kind : LockKind) (s : State) : State × Reply :=
  if 3 < g ∨ !stationOk st ∨ !lockKindOk kind then s.refuse .range
  else if (s.lock? g st).isSome then s.refuse .inUse
  else if kind.cabin?.any fun c => !(s.cabin c).inUse then s.refuse .notFound
  else if kind.cabin?.any fun c => (s.cabin c).lock.isSome then s.refuse .inUse
  else
    let s1 := (s.setLock g st (enrolled kind (s.seg g).wanted)).bindLock kind (some (g, st))
    (s1.deriveWindow g, Reply.ok [])

/-- R66: the record, its push entry and its fetch entry leave; an outstanding frame to the station is marked. -/
def Segment.withdraw (c : Segment) (st : Nat) : Segment :=
  { c with
    roster := erase c.roster st
    pushes := c.pushes.filter (· ≠ st)
    fetches := c.fetches.filter (· ≠ st)
    outstanding := c.outstanding.map fun o => if o.frame.station = st then { o with withdrawn := true } else o }

/-- R66: WITHDRAW LOCK. -/
def withdrawLock (g st : Nat) (s : State) : State × Reply :=
  if 3 < g ∨ !stationOk st then s.refuse .range
  else
    match s.lock? g st with
    | none => s.refuse .notFound
    | some k =>
      let s1 := (s.modSeg g fun c => c.withdraw st).bindLock k.kind none
      (s1.deriveWindow g, Reply.ok (opt (be 2) k.ackGen))

/-- R82: the sweep-excluded flag a SET SEGMENT list gives a station; the list names none twice, and what it would
write for one it did is a free value (log 10). -/
def listedFlag (list : List (Nat × Bool)) (st : Nat) : Option Bool :=
  match list.filter fun e => e.1 = st with
  | [] => none
  | [e] => some e.2
  | _ => some (Config.repeatedStationFlag st)

/-- R82: SET SEGMENT. -/
def setSegment (g doze spacing window : Nat) (list : List (Nat × Bool)) (s : State) : State × Reply :=
  if 3 < g ∨ 5 < doze ∨ list.any (fun e => !stationOk e.1) then s.refuse .range
  else if list.any fun e => (s.lock? g e.1).isNone then s.refuse .notFound
  else
    let s1 := s.modSeg g fun c => { c with
      dozeTimer := doze
      spacing := clamp 50 1000 spacing
      windowAsked := clamp 5 120 window
      measure := if doze = 0 then { c.measure with limit := none } else c.measure
      roster := c.roster.map fun e => (e.1, { e.2 with excluded := (listedFlag list e.1).getD e.2.excluded }) }
    let s2 := s1.deriveWindow g
    let s3 := if doze = 0 then s2.wake g else s2
    (s3, Reply.ok (be 4 (s3.seg g).spacing ++ be 4 (s3.seg g).window))

/-- R84: the figures of READ SEGMENT. -/
def segmentBody (s : State) (g first count : Nat) : List Byte :=
  let c := s.seg g
  let l := s.link (segLink g)
  be 1 l.state.code ++ l.history.flatMap (fun x => be 1 x.code) ++ be 1 c.dozeTimer ++ be 4 c.spacing ++
    be 4 c.windowAsked ++ be 4 c.window ++ be 1 c.wanted.toNat ++ be 1 c.due.code ++ be 2 c.cursor ++
    be 4 c.unreachable ++ be 6 c.dozeCount ++ be 4 c.pushes.length ++ be 4 c.fetches.length ++
    listOf (be 2) c.pushes ++ listOf (c.lockBytes s.sck.elapsed) ((List.range count).map (first + ·))

/-- R84: READ SEGMENT. -/
def readSegment (g first count : Nat) (s : State) : State × Reply :=
  if 3 < g ∨ !stationOk first ∨ count = 0 ∨ Config.stations + 1 < first + count then s.refuse .range
  else (s, Reply.ok (segmentBody s g first count))

/-- The segments that ALL RELEASE and ALL RESTORE name: one, or all four for 0xFF (R80, R178). -/
def namedSegments (g : Nat) : Option (List Nat) :=
  if g ≤ 3 then some [g] else if g = 255 then some segmentNumbers else none

/-- R80: the link state and wanted state of each named segment, in order and without a count, as they stand after the
command (DESIGN CHOICE, log 37). -/
def releaseBody (s : State) (gs : List Nat) : List Byte :=
  gs.flatMap fun g => be 1 (s.link (segLink g)).state.code ++ be 1 (s.seg g).wanted.toNat

/-- R80: ALL RELEASE. -/
def allRelease (g : Nat) (s : State) : State × Reply :=
  match namedSegments g with
  | none => s.refuse .range
  | some gs =>
    let s1 := gs.foldl State.releaseSegment s
    (s1, Reply.ok (releaseBody s1 gs))

/-- R80: ALL RESTORE. -/
def allRestore (g : Nat) (s : State) : State × Reply :=
  match namedSegments g with
  | none => s.refuse .range
  | some gs =>
    let s1 := gs.foldl State.restoreSegment s
    (s1, Reply.ok (releaseBody s1 gs))

/-! ### The transmit arbiter (R71) -/

/-- The link of a segment is UP. -/
def State.segUp (s : State) (g : Nat) : Bool := (s.link (segLink g)).state = .up

/-- No answer waits and no broadcast is due: the arbiter has reached the kinds after 1 and 2. -/
def State.pastBroadcast (s : State) (g : Nat) : Bool :=
  s.segUp g && (s.link (segLink g)).answers.isEmpty && (s.seg g).due = .none

/-- The arbiter has reached kind 3: nothing of kinds 1 and 2, and no reply-expecting frame outstanding. -/
def State.pushTurn (s : State) (g : Nat) : Bool := s.pastBroadcast g && (s.seg g).outstanding.isNone

/-- The arbiter has reached kind 4. -/
def State.fetchTurn (s : State) (g : Nat) : Bool :=
  s.pushTurn g && ((s.seg g).oldestServable (s.seg g).pushes).isNone

/-- The arbiter has reached kind 5, with the poll spacing passed (R75). -/
def State.pollTurn (s : State) (g : Nat) : Bool :=
  s.fetchTurn g && ((s.seg g).oldestServable (s.seg g).fetches).isNone &&
    (s.seg g).lastPoll.all fun t => t + (s.seg g).spacing ≤ s.sck.elapsed

/-- A broadcast may go out: one is due and no answer waits. -/
def State.broadcastReady (s : State) (g : Nat) : Bool :=
  s.segUp g && (s.link (segLink g)).answers.isEmpty && (s.seg g).due ≠ .none

/-- A PUSH may go out: the arbiter has reached kind 3 and an entry is servable. -/
def State.pushReady (s : State) (g : Nat) : Bool :=
  s.pushTurn g && ((s.seg g).oldestServable (s.seg g).pushes).isSome

/-- A LOG FETCH may go out. -/
def State.fetchReady (s : State) (g : Nat) : Bool :=
  s.fetchTurn g && ((s.seg g).oldestServable (s.seg g).fetches).isSome

/-- A sweep POLL may go out: a station is eligible. -/
def State.pollReady (s : State) (g : Nat) : Bool := s.pollTurn g && (s.seg g).sweepStation?.isSome

/-- A station frame goes out on a segment link and restarts the doze measure (R79). -/
def State.sendStation (s : State) (g : Nat) (f : Frame) : State := (s.sendFrame (segLink g) f).restartMeasure g

/-- R71: the oldest answer goes out. -/
def State.sendDoorAnswer (s : State) (g : Nat) : State :=
  match (s.link (segLink g)).answers with
  | [] => s
  | f :: rest => (s.modLink (segLink g) fun l => { l with answers := rest }).sendStation g f

/-- R80: the due broadcast goes out, addressed to station 0, and none is due after it. -/
def State.sendBroadcast (s : State) (g : Nat) : State :=
  let body : List Byte := match (s.seg g).due with
    | .allRestore => [1]
    | _ => [0]
  let f : Frame := { station := 0, kind := 0x18, tag := s.nextTag, body := body }
  (s.drawTag.modSeg g fun c => { c with due := .none }).sendStation g f

/-- R71, R73: the first sending of a reply-expecting frame, which becomes outstanding and opens its wait. -/
def State.sendAsked (s : State) (g : Nat) (asked : Asked) (f : Frame) : State :=
  (s.drawTag.sendFrame (segLink g) f).modSeg g fun c => { c with
    outstanding := some { asked := asked, frame := f, sendings := 1,
                          waitEnd := some (s.sck.elapsed + Config.replyWaitMs), withdrawn := false } }

/-- R70: the key generation a PUSH to a station carries: its cabin's, at the moment of sending. -/
def State.pushValue (s : State) (g st : Nat) : Nat :=
  match (s.lock? g st).bind (·.kind.cabin?) with
  | some c => (s.cabin c).keyGen
  | none => 0

/-- R70: a PUSH for the oldest servable push entry. -/
def State.sendPush (s : State) (g : Nat) : State :=
  match (s.seg g).oldestServable (s.seg g).pushes with
  | none => s
  | some st =>
    (s.sendAsked g .push { station := st, kind := 0x12, tag := s.nextTag, body := be 2 (s.pushValue g st) }).restartMeasure g

/-- R77: a LOG FETCH for the oldest servable fetch entry. -/
def State.sendFetch (s : State) (g : Nat) : State :=
  match (s.seg g).oldestServable (s.seg g).fetches with
  | none => s
  | some st => (s.sendAsked g .logFetch { station := st, kind := 0x16, tag := s.nextTag, body := [] }).restartMeasure g

/-- R75: the station after the one polled, wrapping from 600 to 1. -/
def nextCursor (st : Nat) : Nat := if st < Config.stations then st + 1 else 1

/-- R75: a sweep POLL to the next eligible station, carrying the ship time and the wanted release state. It does not
restart the doze measure (R79). -/
def State.sendPoll (s : State) (g : Nat) : State :=
  match (s.seg g).sweepStation? with
  | none => s
  | some st =>
    (s.sendAsked g .poll { station := st, kind := 0x14, tag := s.nextTag,
                           body := be 4 s.sck.clock ++ flagByte (s.seg g).wanted }).modSeg g fun c =>
      { c with cursor := nextCursor st, lastPoll := some s.sck.elapsed }

/-- R73, R71: the outstanding frame is sent again with the same tag, and with the body of its first sending (DEDUCED,
log 38), and its wait opens. -/
def State.resendFrame (s : State) (g : Nat) (o : Outstanding) : State :=
  let s1 := (s.sendFrame (segLink g) o.frame).modSeg g fun c => { c with
    outstanding := some { o with sendings := o.sendings + 1, waitEnd := some (s.sck.elapsed + Config.replyWaitMs) } }
  if o.asked = .poll then s1 else s1.restartMeasure g

/-- R73, R74: the last wait ended: the frame is ended with REPLY_TIMEOUT, the lock becomes UNREACHABLE and the
unreachable count advances; at 4 the link goes to RECOVERY. For a station withdrawn meanwhile the frame is
ended and nothing else (R66). -/
def State.timeOut (s : State) (g : Nat) (o : Outstanding) : State :=
  let s1 := s.modSeg g fun c => { c with outstanding := none }
  if o.withdrawn then s1
  else
    let s2 := s1.recordFault (frameFault .replyTimeout (segLink g) o.frame)
    match s2.lock? g o.frame.station with
    | none => s2
    | some k =>
      if k.state = .unreachable then s2
      else
        let s3 := s2.setLock g o.frame.station { k with state := .unreachable }
        if (s3.seg g).unreachable + 1 < Config.unreachableLimit then
          s3.modSeg g fun c => { c with unreachable := c.unreachable + 1 }
        else (s3.modSeg g fun c => { c with unreachable := 0 }).recoverLink (segLink g)

/-- R73: the wait of the outstanding frame has ended. -/
def State.waitOver (s : State) (g : Nat) : Bool :=
  match (s.seg g).outstanding with
  | some o => o.waitEnd.any (· ≤ s.sck.elapsed)
  | none => false

/-- R73, R71: what the end of a wait does: a resend, at once or held back behind a waiting answer or a due
broadcast, or after the fourth sending the end of the frame. -/
def State.endWait (s : State) (g : Nat) : State :=
  match (s.seg g).outstanding with
  | none => s
  | some o =>
    if o.sendings < Config.sendings then
      if s.pastBroadcast g then s.resendFrame g o
      else s.modSeg g fun c => { c with outstanding := some { o with waitEnd := none } }
    else s.timeOut g o

/-- R71: a held-back resend may go out. -/
def State.resendReady (s : State) (g : Nat) : Bool :=
  s.pastBroadcast g && (s.seg g).outstanding.any (·.waitEnd.isNone)

/-- R71: the held-back resend. -/
def State.sendHeldBack (s : State) (g : Nat) : State :=
  match (s.seg g).outstanding with
  | some o => s.resendFrame g o
  | none => s

/-! ### Replies (R69, R70, R72, R76, R77, R81) -/

/-- R72: a reply is accepted when it comes from the station the outstanding frame addressed, carries its tag and is
of the kind that answers it. -/
def State.accepted? (s : State) (g : Nat) (asked : Asked) (f : Frame) : Option Outstanding :=
  match (s.seg g).outstanding with
  | some o => if o.asked = asked ∧ o.frame.station = f.station ∧ o.frame.tag = f.tag then some o else none
  | none => none

/-- R76: contact: last contact and doze counter at contact; a STALE lock becomes ONLINE. -/
def Lock.contact (k : Lock) (now dozeCount : Nat) : Lock :=
  { k with lastContact := some now, dozeAtContact := dozeCount,
           state := if k.state = .stale then .online else k.state }

/-- R16, R69 step 1: a floor above the key generation replaces it, and reissue due is set for every occupant whose
active card is below the new value. -/
def State.raiseGen (s : State) (c floor : Nat) : State :=
  let r := s.cabin c
  if r.keyGen < floor then (s.setCabin c { r with keyGen := floor }).markBelow r.occupants floor else s

/-- R72 to R77: the frame of a reply: accepted, it ends the outstanding frame and is a good reply (R74), and goes
on to the owner's rule unless the station has been withdrawn (R66); else REPLY_UNEXPECTED. -/
def State.onReply (s : State) (g : Nat) (asked : Asked) (f : Frame) (take : State → State) : State :=
  match s.accepted? g asked f with
  | none => s.recordFault (frameFault .replyUnexpected (segLink g) f)
  | some o =>
    let s1 := s.modSeg g fun c => { c with outstanding := none, unreachable := 0 }
    if o.withdrawn then s1 else take s1

/-- R69 step 3: a lock below its cabin's key generation is placed on the push list unless it is there; a lock at it
leaves the list. -/
def reconcile (pushes : List Nat) (st ack gen : Nat) : List Nat :=
  if ack < gen then (if pushes.contains st then pushes else pushes ++ [st])
  else if ack = gen then pushes.filter (· ≠ st)
  else pushes

/-- R69: the floor a poll reply reports, for a CABIN lock with CT's raise, for an AREA lock recorded alone. -/
def State.takeFloor (s : State) (g st : Nat) (kind : LockKind) (floor : Nat) : State :=
  match kind.cabin? with
  | none => s.modLock g st fun k => { k with ackGen := some floor }
  | some c =>
    let s1 := (s.raiseGen c floor).modLock g st fun k => { k with ackGen := some floor }
    let gen := (s1.cabin c).keyGen
    s1.modSeg g fun sc => { sc with pushes := reconcile sc.pushes st floor gen }

/-- R81: the release state a poll reply settles. -/
def settleRelease (wanted reported : Bool) : ReleaseState :=
  match wanted, reported with
  | true, true => .released
  | false, false => .normal
  | true, false => .releasePending
  | false, true => .restorePending

/-- R76: the fetch list after a reported log count. -/
def settleFetch (fetches : List Nat) (st count : Nat) : List Nat :=
  if count = 0 then fetches.filter (· ≠ st)
  else if fetches.contains st then fetches else fetches ++ [st]

/-- R76: an accepted poll reply from an enrolled lock. -/
def State.takePollReply (s : State) (g st : Nat) (k : Lock) (r : PollReport) : State :=
  let s1 := s.takeFloor g st k.kind r.floor
  let alert := (r.status.battery && !k.status.battery) || (r.status.tamper && !k.status.tamper)
  let s2 := if alert then s1.raise .lockAlert else s1
  let s3 := s2.modLock g st fun l => { l.contact s.sck.elapsed (s.seg g).dozeCount with
    state := .online
    status := r.status
    release := settleRelease (s.seg g).wanted r.released
    logCount := r.logCount }
  s3.modSeg g fun c => { c with fetches := settleFetch c.fetches st r.logCount }

/-- R70: an accepted push acknowledgement from an enrolled lock. -/
def State.takePushAck (s : State) (g st : Nat) (k : Lock) (floor : Nat) : State :=
  let contact := fun (l : Lock) =>
    { l.contact s.sck.elapsed (s.seg g).dozeCount with ackGen := some floor }
  match k.kind.cabin? with
  | none => s.modLock g st contact
  | some c =>
    let s1 := (s.raiseGen c floor).modLock g st contact
    let gen := (s1.cabin c).keyGen
    s1.modSeg g fun sc => { sc with
      pushes := if floor < gen then sc.pushes.filter (· ≠ st) ++ [st] else sc.pushes.filter (· ≠ st) }

/-- R77: an accepted log reply from an enrolled lock: the entry goes to AU, the count is recorded, and the fetch entry
leaves when no entry remains. -/
def State.takeLogReply (s : State) (g st : Nat) (r : LogReport) : State :=
  let s1 := if r.present then s.logEntry g st r.serial r.time r.granted else s
  let s2 := s1.modLock g st fun l =>
    { l.contact s.sck.elapsed (s.seg g).dozeCount with logCount := r.remaining }
  if r.remaining = 0 then s2.modSeg g fun c => { c with fetches := c.fetches.filter (· ≠ st) } else s2

/-- A reply's rule on the lock's record, where the station is enrolled. -/
def State.withLock (s : State) (g st : Nat) (f : Lock → State) : State :=
  match s.lock? g st with
  | some k => f k
  | none => s

/-! ### Doze (R79) -/

/-- R79: the doze measure has reached the doze time it runs against. -/
def State.dozeDue (s : State) (g : Nat) : Bool :=
  s.segUp g && (s.seg g).dozeTimer ≠ 0 &&
    (s.seg g).measure.limit.any fun d => (s.seg g).measure.start + d ≤ s.sck.elapsed

/-- R79: nothing is pending on the segment. -/
def State.quiet (s : State) (g : Nat) : Bool :=
  let c := s.seg g
  c.outstanding.isNone && (s.link (segLink g)).answers.isEmpty && c.due = .none &&
    (c.oldestServable c.pushes).isNone && (c.oldestServable c.fetches).isNone

/-- R79, R166: with nothing pending the link enters DOZE and one DOZE frame is sent; otherwise the measure is spent
until the next station frame restarts it (log 22). -/
def State.endMeasure (s : State) (g : Nat) : State :=
  let s1 := s.modSeg g fun c => { c with measure := { c.measure with limit := none } }
  if s.quiet g then
    (s1.drawTag.changeLink (segLink g) .doze).sendFrame (segLink g)
      { station := 0, kind := 0x04, tag := s.nextTag, body := [] }
  else s1

/-! ### The steps -/

def execEnrolLock (tag : Tag) (g st : Nat) (k : LockKind) (s : State) : Host.Outcome State Fault Refusal :=
  s.onCommand (.enrolLock tag g st k) tag (enrolLock g st k)
def execWithdrawLock (tag : Tag) (g st : Nat) (s : State) : Host.Outcome State Fault Refusal :=
  s.onCommand (.withdrawLock tag g st) tag (withdrawLock g st)
def execSetSegment (tag : Tag) (g d sp w : Nat) (l : List (Nat × Bool)) (s : State) :
    Host.Outcome State Fault Refusal :=
  s.onCommand (.setSegment tag g d sp w l) tag (setSegment g d sp w l)
def execReadSegment (tag : Tag) (g f n : Nat) (s : State) : Host.Outcome State Fault Refusal :=
  s.onCommand (.readSegment tag g f n) tag (readSegment g f n)
def execAllRelease (tag : Tag) (g : Nat) (s : State) : Host.Outcome State Fault Refusal :=
  s.onCommand (.allRelease tag g) tag (allRelease g)
def execAllRestore (tag : Tag) (g : Nat) (s : State) : Host.Outcome State Fault Refusal :=
  s.onCommand (.allRestore tag g) tag (allRestore g)

/-- R70: PUSH_ACK. -/
def execPushAck (g st : Nat) (tag : Byte) (floor : Nat) (s : State) : Host.Outcome State Fault Refusal :=
  s.onFrame (.pushAck g st tag floor) fun _ f s1 =>
    s1.onReply g .push f fun s2 => s2.withLock g st fun k => s2.takePushAck g st k floor

/-- R76: POLL_REPLY. -/
def execPollReply (g st : Nat) (tag : Byte) (r : PollReport) (s : State) : Host.Outcome State Fault Refusal :=
  s.onFrame (.pollReply g st tag r) fun _ f s1 =>
    s1.onReply g .poll f fun s2 => s2.withLock g st fun k => s2.takePollReply g st k r

/-- R77: LOG_REPLY. -/
def execLogReply (g st : Nat) (tag : Byte) (r : LogReport) (s : State) : Host.Outcome State Fault Refusal :=
  s.onFrame (.logReply g st tag r) fun _ f s1 =>
    s1.onReply g .logFetch f fun s2 => s2.withLock g st fun _ => s2.takeLogReply g st r

/-- R53: DOOR_ANSWER. -/
def execDoorAnswer (g : Nat) (s : State) : Host.Outcome State Fault Refusal :=
  s.onEvent (isSegment g && s.answerReady (segLink g)) fun s => s.sendDoorAnswer g

/-- R80: BROADCAST. -/
def execBroadcast (g : Nat) (s : State) : Host.Outcome State Fault Refusal :=
  s.onEvent (isSegment g && s.broadcastReady g) fun s => s.sendBroadcast g

/-- R70: PUSH. -/
def execPush (g : Nat) (s : State) : Host.Outcome State Fault Refusal :=
  s.onEvent (isSegment g && s.pushReady g) fun s => s.sendPush g

/-- R77: LOG_FETCH. -/
def execLogFetch (g : Nat) (s : State) : Host.Outcome State Fault Refusal :=
  s.onEvent (isSegment g && s.fetchReady g) fun s => s.sendFetch g

/-- R75: POLL. -/
def execPoll (g : Nat) (s : State) : Host.Outcome State Fault Refusal :=
  s.onEvent (isSegment g && s.pollReady g) fun s => s.sendPoll g

/-- R73: REPLY_WAIT_EXPIRY. -/
def execReplyWaitExpiry (g : Nat) (s : State) : Host.Outcome State Fault Refusal :=
  s.onEvent (isSegment g && s.waitOver g) fun s => s.endWait g

/-- R71: RESEND. -/
def execResend (g : Nat) (s : State) : Host.Outcome State Fault Refusal :=
  s.onEvent (isSegment g && s.resendReady g) fun s => s.sendHeldBack g

/-- R78: CONTACT_DEADLINE. -/
def execContactDeadline (g st : Nat) (s : State) : Host.Outcome State Fault Refusal :=
  s.onEvent (isSegment g && s.contactDue g st) fun s => s.makeStale g st

/-- R79: DOZE. -/
def execDoze (g : Nat) (s : State) : Host.Outcome State Fault Refusal :=
  s.onEvent (isSegment g && s.dozeDue g) fun s => s.endMeasure g

end Sys2Proof.Machine
end

