-- ==== Sys2Proof/Machine/Links.lean ====
section
/-! DEFINITION. The link layer and its purser commands: 10_links_frames_and_the_purser_port.md, R162 to R170. -/

namespace Sys2Proof.Machine

/-! ### Training, keep-alive, silence (R165, R166) -/

/-- A link number (R162). -/
def linkOk (n : Nat) : Bool := n ≤ 5

/-- R165: a TRAIN frame is due: at the start of the attempt and then every 100 ms, ten in all. -/
def State.trainDue (s : State) (n : Nat) : Bool :=
  let l := s.link n
  l.state = .training && l.trains < Config.trainsPerAttempt && l.attemptStart + Config.trainMs * l.trains ≤ s.sck.elapsed

/-- R165: a TRAIN frame with the link kind expected at the far end. -/
def State.sendTrain (s : State) (n : Nat) : State :=
  (s.drawTag.sendFrame n { station := 0, kind := 0x01, tag := s.nextTag, body := be 1 (linkKind n) }).modLink n
    fun l => { l with trains := l.trains + 1 }

/-- R165: an attempt has lasted 1 s. -/
def State.attemptOver (s : State) (n : Nat) : Bool :=
  (s.link n).state = .training && (s.link n).attemptStart + Config.attemptMs ≤ s.sck.elapsed

/-- R165: the next attempt begins (log 28), or after the third the link enters FAILED with TRAINING_FAILED. -/
def State.endAttempt (s : State) (n : Nat) : State :=
  if (s.link n).attempt < Config.attempts then
    s.modLink n fun l => { l with attempt := l.attempt + 1, attemptStart := s.sck.elapsed, trains := 0 }
  else (s.changeLink n .failed).recordFault (bareFault .trainingFailed n)

/-- R166: in UP no frame has been sent for 1 s. -/
def State.keepAliveDue (s : State) (n : Nat) : Bool :=
  (s.link n).state = .up && (s.link n).lastSend + Config.keepAliveMs ≤ s.sck.elapsed

/-- R166: a KEEPALIVE goes out. -/
def State.sendKeepAlive (s : State) (n : Nat) : State :=
  s.drawTag.sendFrame n { station := 0, kind := 0x03, tag := s.nextTag, body := [] }

/-- R166: in UP 3 s have passed without a good frame. -/
def State.silent (s : State) (n : Nat) : Bool :=
  (s.link n).state = .up && (s.link n).silenceStart + Config.silenceMs ≤ s.sck.elapsed

/-- R166, R184: HUB_SILENT, which is SEVERE and takes the link to RECOVERY. -/
def State.goSilent (s : State) (n : Nat) : State := s.recordFault (bareFault .hubSilent n)

/-! ### Frame arrival (R165, R167, R168) -/

/-- The header of a frame that failed its checks, as far as it was received (R167, R185). -/
def receivedFault (k : FaultKind) (n : Nat) (bs : List Byte) : FaultRecord :=
  { kind := k, port := n
    station := if 2 ≤ bs.length then some (ofBe (bs.take 2)) else none
    frameKind := (bs[2]?).map (·.toNat)
    tag := (bs[3]?).map (·.toNat) }

/-- R167, R168: a station frame that passed its checks joins the intake queue, or is dropped at a full one (log 29). -/
def State.intakeFrame (s : State) (n : Nat) (f : Frame) : State :=
  let s1 := s.stationArrives n f.kind
  if (s1.link n).intake.length < Config.intakeFrames then s1.modLink n fun l => { l with intake := l.intake ++ [f] }
  else s1.recordFault (frameFault .intakeOverrun n f)

/-- R167: a frame that passed its checks on a link in service, by kind. -/
def State.goodArrival (s : State) (n : Nat) (f : Frame) : State :=
  if f.kind = 0x03 ∨ f.kind = 0x02 then s.goodFrame n else s.intakeFrame n f

/-- R165: a frame while training: only a TRAIN REPLY of the expected kind is taken (log 27). -/
def State.trainingArrival (s : State) (n : Nat) (bs : List Byte) : State :=
  match checkFrame n bs with
  | .good f => if f.kind = 0x02 ∧ byteAt f.body 0 = linkKind n then s.enterUp n else s
  | _ => s

/-- R163, R165, R167: a frame arrives on a link. -/
def State.frameArrives (s : State) (n : Nat) (bs : List Byte) : State :=
  match (s.link n).state with
  | .training => s.trainingArrival n bs
  | .up | .doze =>
    match checkFrame n bs with
    | .form => s.recordFault (receivedFault .frameForm n bs)
    | .check => s.recordFault (receivedFault .frameCheck n bs)
    | .good f => s.goodArrival n f
  | _ => s

/-- R165, R167: a TRAIN REPLY that has passed its checks: in TRAINING one of the link's own kind ends training; in UP
and DOZE it is discarded, a good frame all the same. -/
def State.trainReplyArrives (s : State) (n hubKind : Nat) : State :=
  match (s.link n).state with
  | .training => if hubKind = linkKind n then s.enterUp n else s
  | .up | .doze => s.goodFrame n
  | _ => s

/-! ### Link commands (R170, R83) -/

/-- R170: training starts again at the first attempt, without a change of state (R164). -/
def State.restartTraining (s : State) (n : Nat) : State :=
  s.modLink n fun l => { l with attempt := 1, attemptStart := s.sck.elapsed, trains := 0 }

/-- R170: a link is trained again from any state. -/
def State.retrain (s : State) (n : Nat) : State :=
  if (s.link n).state = .training then s.restartTraining n else (s.leaveService n).changeLink n .training

/-- The answer of a link command: the state before it (R170). -/
def stateBefore (s : State) (n : Nat) : Reply := Reply.ok (be 1 (s.link n).state.code)

/-- R170: ENABLE LINK. -/
def enableLink (n : Nat) (s : State) : State × Reply :=
  if !linkOk n then s.refuse .range
  else (if (s.link n).state = .down then s.changeLink n .training else s, stateBefore s n)

/-- R170: DISABLE LINK. -/
def disableLink (n : Nat) (s : State) : State × Reply :=
  if !linkOk n then s.refuse .range
  else (if (s.link n).state = .down then s else (s.leaveService n).changeLink n .down, stateBefore s n)

/-- R170: RETRAIN LINK. -/
def retrainLink (n : Nat) (s : State) : State × Reply :=
  if !linkOk n then s.refuse .range else (s.retrain n, stateBefore s n)

/-- R83, R170: RETRAIN SEGMENT. -/
def retrainSegment (g : Nat) (s : State) : State × Reply :=
  if 3 < g then s.refuse .range else (s.retrain (segLink g), stateBefore s (segLink g))

/-- R170: the milliseconds since the last good frame; free before any has come, and where four bytes do not hold them
(log 9). -/
def State.sinceGood (s : State) (n : Nat) : Nat :=
  match (s.link n).lastGood with
  | some t => if s.sck.elapsed - t < 2 ^ 32 then s.sck.elapsed - t else Config.wideMs (s.sck.elapsed - t)
  | none => Config.unheardMs s.sck.elapsed

/-- R170: READ LINK. -/
def readLink (n : Nat) (s : State) : State × Reply :=
  if !linkOk n then s.refuse .range
  else
    let l := s.link n
    (s, Reply.ok (be 1 l.state.code ++ l.history.flatMap (fun x => be 1 x.code) ++ be 4 l.attempt ++
      be 4 l.intake.length ++ be 4 (s.sinceGood n)))

/-! ### The steps -/

def execEnableLink (tag : Tag) (n : Nat) (s : State) : Host.Outcome State Fault Refusal :=
  s.onCommand (.enableLink tag n) tag (enableLink n)
def execDisableLink (tag : Tag) (n : Nat) (s : State) : Host.Outcome State Fault Refusal :=
  s.onCommand (.disableLink tag n) tag (disableLink n)
def execRetrainLink (tag : Tag) (n : Nat) (s : State) : Host.Outcome State Fault Refusal :=
  s.onCommand (.retrainLink tag n) tag (retrainLink n)
def execReadLink (tag : Tag) (n : Nat) (s : State) : Host.Outcome State Fault Refusal :=
  s.onCommand (.readLink tag n) tag (readLink n)
def execRetrainSegment (tag : Tag) (g : Nat) (s : State) : Host.Outcome State Fault Refusal :=
  s.onCommand (.retrainSegment tag g) tag (retrainSegment g)

/-- R167: LINK_FRAME_ARRIVAL. -/
def execLinkFrameArrival (n : Nat) (bs : List Byte) (s : State) : Host.Outcome State Fault Refusal :=
  s.onEvent (linkOk n) fun s => s.frameArrives n bs

/-- R165: TRAIN_REPLY. -/
def execTrainReply (n hubKind : Nat) (s : State) : Host.Outcome State Fault Refusal :=
  s.onEvent (linkOk n && decide (hubKind ≤ 2)) fun s => s.trainReplyArrives n hubKind

/-- R165: TRAIN. -/
def execTrain (n : Nat) (s : State) : Host.Outcome State Fault Refusal :=
  s.onEvent (linkOk n && s.trainDue n) fun s => s.sendTrain n

/-- R165: TRAINING_ATTEMPT_END. -/
def execTrainingAttemptEnd (n : Nat) (s : State) : Host.Outcome State Fault Refusal :=
  s.onEvent (linkOk n && s.attemptOver n) fun s => s.endAttempt n

/-- R166: KEEPALIVE_SEND. -/
def execKeepaliveSend (n : Nat) (s : State) : Host.Outcome State Fault Refusal :=
  s.onEvent (linkOk n && s.keepAliveDue n) fun s => s.sendKeepAlive n

/-- R166: HUB_SILENT. -/
def execHubSilent (n : Nat) (s : State) : Host.Outcome State Fault Refusal :=
  s.onEvent (linkOk n && s.silent n) fun s => s.goSilent n

end Sys2Proof.Machine
end

