-- ==== Sys2Proof/Machine/Notices.lean ====
section
/-! DEFINITION. The notice and fault unit's purser commands: 11_notices_and_faults.md. -/

namespace Sys2Proof.Machine

/-- A notice set as carried in a frame: three bytes, kind k at bit k (R181). -/
def noticeBytes (set : BitVec 18) : List Byte := be 3 set.toNat
/-- A fault set as carried in a frame: two bytes, kind k at bit k (R184). -/
def faultBytes (set : BitVec 9) : List Byte := be 2 set.toNat

/-- R183: a set of three bytes that names no bit above 17. -/
def noticeSetOk (set : BitVec 24) : Bool := set.toNat < 2 ^ 18

/-- R183: READ NOTICES. -/
def readNotices (s : State) : State × Reply :=
  (s, Reply.ok (noticeBytes s.nfu.pending ++ noticeBytes s.nfu.enables))

/-- R183: CLEAR NOTICES. -/
def clearNotices (kinds : BitVec 24) (s : State) : State × Reply :=
  if !noticeSetOk kinds then s.refuse .range
  else
    let after := s.nfu.pending &&& ~~~(kinds.setWidth 18)
    ({ s with nfu := { s.nfu with pending := after } }, Reply.ok (noticeBytes s.nfu.pending ++ noticeBytes after))

/-- R183: SET ENABLES. -/
def setEnables (kinds : BitVec 24) (s : State) : State × Reply :=
  if !noticeSetOk kinds then s.refuse .range
  else ({ s with nfu := { s.nfu with enables := kinds.setWidth 18 } }, Reply.ok (noticeBytes s.nfu.enables))

/-- The nine fault kinds in their order (R184). -/
def faultKinds : List FaultKind :=
  [.frameCheck, .frameForm, .stationUnknown, .replyUnexpected, .replyTimeout, .hubSilent, .intakeOverrun, .purserForm,
   .trainingFailed]

/-- R186: READ FAULTS: severities MINOR 0 and SEVERE 1 (log 13). -/
def readFaults (s : State) : State × Reply :=
  (s, Reply.ok (faultBytes s.nfu.status ++ faultBytes s.nfu.masks ++
    faultKinds.flatMap (fun k => be 1 (s.nfu.isSevere k).toNat) ++ opt FaultRecord.bytes s.nfu.first))

/-- R186, R185: CLEAR FAULTS, bits above 8 naming no kind (log 34); when the status set is then empty the first-fault
record is emptied. -/
def clearFaults (kinds : BitVec 16) (s : State) : State × Reply :=
  let after := s.nfu.status &&& ~~~(kinds.setWidth 9)
  ({ s with nfu := { s.nfu with status := after, first := if after = 0 then none else s.nfu.first } },
   Reply.ok (faultBytes s.nfu.status ++ opt FaultRecord.bytes s.nfu.first))

/-- R186: SET MASKS: a mask set naming no bit above 8 and a severity set of settable kinds alone. -/
def setMasks (masks severe : BitVec 16) (s : State) : State × Reply :=
  if 2 ^ 9 ≤ masks.toNat ∨ 2 ^ 4 ≤ severe.toNat then s.refuse .range
  else ({ s with nfu := { s.nfu with masks := masks.setWidth 9, severe := severe.setWidth 9 } },
        Reply.ok (faultBytes s.nfu.masks ++ faultBytes s.nfu.severe))

/-! ### The steps -/

def execReadNotices (tag : Tag) (s : State) : Host.Outcome State Fault Refusal :=
  s.onCommand (.readNotices tag) tag readNotices
def execClearNotices (tag : Tag) (k : BitVec 24) (s : State) : Host.Outcome State Fault Refusal :=
  s.onCommand (.clearNotices tag k) tag (clearNotices k)
def execSetEnables (tag : Tag) (k : BitVec 24) (s : State) : Host.Outcome State Fault Refusal :=
  s.onCommand (.setEnables tag k) tag (setEnables k)
def execReadFaults (tag : Tag) (s : State) : Host.Outcome State Fault Refusal :=
  s.onCommand (.readFaults tag) tag readFaults
def execClearFaults (tag : Tag) (k : BitVec 16) (s : State) : Host.Outcome State Fault Refusal :=
  s.onCommand (.clearFaults tag k) tag (clearFaults k)
def execSetMasks (tag : Tag) (m v : BitVec 16) (s : State) : Host.Outcome State Fault Refusal :=
  s.onCommand (.setMasks tag m v) tag (setMasks m v)

end Sys2Proof.Machine
end

