-- ==== Sys2Proof/Machine/Queue.lean ====
section
/-! DEFINITION. The posting queue's purser commands: 07_posting_queue.md. -/

namespace Sys2Proof.Machine

/-- R141: the signal of a removal: an operation in WAITING returns to RUNNING when the charging room is at least 1. -/
def State.signalRemoval (s : State) : State :=
  if s.oe.state = .waiting ∧ 1 ≤ s.room then s.setOperation { s.oe with state := .running } else s

/-- R133: TAKE POSTING. -/
def takePosting (s : State) : State × Reply :=
  match s.pq.records with
  | [] => s.refuse .empty
  | head :: rest =>
    let s1 : State := { s with pq := { s.pq with records := rest } }
    (s1.signalRemoval, Reply.ok (head.bytes ++ be 4 s1.fill))

/-- R134: READ QUEUE STATUS. -/
def readQueueStatus (s : State) : State × Reply :=
  ({ s with pq := { s.pq with unposted := 0 } },
   Reply.ok (be 4 s.fill ++ be 4 s.free ++ be 4 s.room ++ be 4 s.pq.next.toNat ++
     opt (fun p => be 4 p.seq.toNat) s.pq.records.head? ++ be 2 s.pq.unposted))

/-! ### The steps -/

def execTakePosting (tag : Tag) (s : State) : Host.Outcome State Fault Refusal :=
  s.onCommand (.takePosting tag) tag takePosting
def execReadQueueStatus (tag : Tag) (s : State) : Host.Outcome State Fault Refusal :=
  s.onCommand (.readQueueStatus tag) tag readQueueStatus

end Sys2Proof.Machine
end

