-- ==== Sys2Proof/Machine/Operation.lean ====
section
/-! DEFINITION. The operation engine: 08_table_operations.md. -/

namespace Sys2Proof.Machine

/-! ### Starting (R139, R144) -/

/-- R36: the lanes whose tallies are handed over. -/
def State.reconcileLanes (s : State) : List Nat :=
  match laneNumbers.filter fun n => (s.lane n).configured ≠ .closed with
  | [] => [1]
  | ns => ns

/-- R36: a lane's tallies at the start of a new day. -/
def Lane.newDay (l : Lane) : Lane :=
  { l with tallies := { Tallies.zero with granted := if l.permit.isSome then 1 else 0 } }

/-- R155: the open day raised by 1, held at its top. -/
def nextDay (d : Nat) : Nat := if d < Config.top32 then d + 1 else d

/-- R144: the start of DAY CLOSE, with the RECONCILE's sequence number; check 3 of R139 has left it a free entry. The
day being closed is the open day before the command, also at the top, where R155 leaves the open day (DESIGN CHOICE,
log 43). -/
def State.startDayClose (s : State) : State × BitVec 32 :=
  let closed := s.sck.openDay
  let s1 : State := { s with sck := { s.sck with openDay := nextDay closed } }
  let groups := s.reconcileLanes.map fun n => (n, (s.lane n).tallies)
  let s2 := laneNumbers.foldl (fun s n => s.setLane n (s.lane n).newDay) s1
  let s3 := s2.append s.sck.clock none s1.sck.openDay (.reconcile closed groups)
  (s3.mapServings s.prune, s.pq.next)

/-- R139, check 1. -/
def operationRangeOk (k : OpKind) (first last : Nat) : Bool :=
  match k with
  | .dayClose => true
  | .cabinRekey => first ≤ Config.lastCabin && last ≤ Config.lastCabin && first ≤ last
  | .finalDisembark => first ≤ Config.lastPerson && last ≤ Config.lastPerson && first ≤ last

/-- R139: the record an accepted START OPERATION writes. -/
def startedOperation (k : OpKind) (first last : Nat) : Operation :=
  { Operation.cold with
    kind := some k, first := first, last := last, state := .running, cursor := first
    phase := some (if k = .cabinRekey then .cabins else .persons) }

/-- R139: START OPERATION. The day and the number that the answer carries for DAY CLOSE alone follow without a presence
byte (DEDUCED, log 12). -/
def startOperation (code first last : Nat) (s : State) : State × Reply :=
  match OpKind.ofCode code with
  | none => s.refuse .range
  | some k =>
    if !operationRangeOk k first last then s.refuse .range
    else if s.inFlight then s.refuse .busy
    else
      match k with
      | .dayClose =>
        if s.free < 1 then s.refuse .queueFull
        else
          let (s1, seq) := s.startDayClose
          (s1.setOperation (startedOperation k 0 Config.lastPerson),
            Reply.ok (be 1 code ++ be 2 0 ++ be 2 Config.lastPerson ++ be 4 s1.sck.openDay ++ be 4 seq.toNat))
      | _ => (s.setOperation (startedOperation k first last), Reply.ok (be 1 code ++ be 2 first ++ be 2 last))

/-! ### Ending, aborting, reading (R140, R142, R149) -/

/-- R140, R142: the operation ends and OPERATION_DONE is raised. -/
def State.endOperation (s : State) (result : OpResult) : State :=
  (s.setOperation { s.oe with state := .idle, result := some result }).raise .operationDone

/-- R142: the cursor and the counts. -/
def Operation.countBytes (o : Operation) : List Byte :=
  be 4 o.processed ++ be 4 o.reason1 ++ be 4 o.reason2 ++ be 4 o.reason3

/-- R142: ABORT OPERATION. -/
def abortOperation (s : State) : State × Reply :=
  if s.inFlight then (s.endOperation .aborted, Reply.ok (be 4 s.oe.cursor ++ s.oe.countBytes))
  else s.refuse .notFound

/-- R149: every field of the record, and in WAITING the room waited for and the room now, without a presence byte
(DEDUCED, log 12). -/
def operationBody (s : State) : List Byte :=
  let o := s.oe
  be 1 (OpKind.code o.kind) ++ be 2 o.first ++ be 2 o.last ++ be 1 o.state.code ++ be 1 (OpPhase.code o.phase) ++
    be 4 o.cursor ++ be 1 (OpResult.code o.result) ++ o.countBytes ++ flagByte o.musterSeen ++ flagByte o.clockSetSeen ++
    (if o.state = .waiting then be 4 1 ++ be 4 s.room else [])

/-- R149: READ OPERATION. -/
def readOperation (s : State) : State × Reply := (s, Reply.ok (operationBody s))

/-! ### Steps (R140, R145 to R148) -/

/-- The operation is RUNNING in this phase of this kind (R140). -/
def State.stepDue (s : State) (k : OpKind) (ph : OpPhase) : Bool :=
  s.oe.state = .running && s.oe.kind = some k && s.oe.phase = some ph

/-- R141: OE enters WAITING. -/
def State.opWait (s : State) : State := s.setOperation { s.oe with state := .waiting }

/-- R140: the record at the cursor is handled or passed, with the counts that change. -/
def State.opAdvance (s : State) (processed r1 r2 r3 : Nat) : State :=
  s.setOperation { s.oe with
    cursor := s.oe.cursor + 1, processed := s.oe.processed + processed, reason1 := s.oe.reason1 + r1
    reason2 := s.oe.reason2 + r2, reason3 := s.oe.reason3 + r3 }

/-- R145: a DAY CLOSE step in the PERSONS phase. -/
def State.personsStep (s : State) : State :=
  if s.oe.last < s.oe.cursor then s.setOperation { s.oe with phase := some .cards, cursor := 0 }
  else
    match s.person? s.oe.cursor with
    | none => s.opAdvance 0 0 0 0
    | some r =>
      if r.folio.day < s.sck.openDay then
        if r.folio.dailySpend ≠ 0 ∧ s.room < 1 then s.opWait
        else (s.roll s.oe.cursor).opAdvance 1 0 0 0
      else s.opAdvance 0 1 0 0

/-- R146: the head of the revocation order is due to be purged. -/
def State.purgeable (s : State) (serial : Serial) : Bool :=
  match s.card? serial with
  | none => false
  | some e =>
    match e.state with
    | .revoked day => day < s.sck.openDay - 1
    | .active => false

/-- R146: a DAY CLOSE step in the CARDS phase. -/
def State.cardsStep (s : State) : State :=
  match s.ci.order with
  | [] => s.endOperation .done
  | head :: rest =>
    if s.purgeable head then
      ({ s with ci := { entries := erase s.ci.entries head.toNat, order := rest } } : State).opAdvance 1 0 0 0
    else s.endOperation .done

/-- R147: a CABIN REKEY step. -/
def State.cabinsStep (s : State) : State :=
  if s.oe.last < s.oe.cursor then s.endOperation .done
  else
    let r := s.cabin s.oe.cursor
    if !r.inUse then s.opAdvance 0 1 0 0
    else if Config.lastGeneration ≤ r.keyGen then s.opAdvance 0 0 1 0
    else (s.rekey s.oe.cursor).opAdvance 1 0 0 0

/-- R148: a person disembarked. -/
def State.disembark (s : State) (p : Nat) (r : Person) : State :=
  ((s.removeAndRevoke p).movePresence p .disembarked).append s.sck.clock (some p) r.folio.day
    (.folioFinal r.folio.balance)

/-- R148: a FINAL DISEMBARK step. -/
def State.disembarkStep (s : State) : State :=
  if s.oe.last < s.oe.cursor then s.endOperation .done
  else
    match s.person? s.oe.cursor with
    | none => s.opAdvance 0 0 0 0
    | some r =>
      if r.presence ≠ .ashore then s.opAdvance 0 1 0 0
      else if !r.tabs.isEmpty then s.opAdvance 0 0 1 0
      else if r.permitLane.isSome then s.opAdvance 0 0 0 1
      else if s.room < 1 then s.opWait
      else (s.disembark s.oe.cursor r).opAdvance 1 0 0 0

/-! ### The steps -/

def execStartOperation (tag : Tag) (k f l : Nat) (s : State) : Host.Outcome State Fault Refusal :=
  s.onCommand (.startOperation tag k f l) tag (startOperation k f l)
def execAbortOperation (tag : Tag) (s : State) : Host.Outcome State Fault Refusal :=
  s.onCommand (.abortOperation tag) tag abortOperation
def execReadOperation (tag : Tag) (s : State) : Host.Outcome State Fault Refusal :=
  s.onCommand (.readOperation tag) tag readOperation

/-- R145: DAY_CLOSE_PERSONS_STEP. -/
def execDayClosePersonsStep (s : State) : Host.Outcome State Fault Refusal :=
  s.onEvent (s.stepDue .dayClose .persons) State.personsStep
/-- R146: DAY_CLOSE_CARDS_STEP. -/
def execDayCloseCardsStep (s : State) : Host.Outcome State Fault Refusal :=
  s.onEvent (s.stepDue .dayClose .cards) State.cardsStep
/-- R147: CABIN_REKEY_STEP. -/
def execCabinRekeyStep (s : State) : Host.Outcome State Fault Refusal :=
  s.onEvent (s.stepDue .cabinRekey .cabins) State.cabinsStep
/-- R148: FINAL_DISEMBARK_STEP. -/
def execFinalDisembarkStep (s : State) : Host.Outcome State Fault Refusal :=
  s.onEvent (s.stepDue .finalDisembark .persons) State.disembarkStep

end Sys2Proof.Machine
end

