-- ==== Sys2Proof/Machine/Port.lean ====
section
/-! DEFINITION. The purser port's transactions: R171 to R173, R177. -/

namespace Sys2Proof.Machine

/-- The header of a command write as far as it was received (R185): code and tag (log 26). -/
def writeFault (bs : List Byte) : FaultRecord :=
  { kind := .purserForm, port := 6, station := none
    frameKind := (bs[0]?).map (·.toNat)
    tag := if 3 ≤ bs.length then some (numAt bs 1 2) else none }

/-- R172: the tag of a written frame: as received, or 0 when fewer than three bytes followed the select byte. -/
def receivedTag (bs : List Byte) : Tag := if 3 ≤ bs.length then BitVec.ofNat 16 (numAt bs 1 2) else 0

/-- R171, R172: a command frame written to PP. -/
def State.writeCommand (s : State) (bs : List Byte) : State :=
  if s.pp.port.isBusy then s.recordFault (writeFault bs)
  else
    match checkCommand bs with
    | .format => (s.answer (receivedTag bs) (Reply.only .format)).recordFault (writeFault bs)
    | .range => { s with pp := { s.pp with port := .busyUnlisted (receivedTag bs) } }
    | .command i => { s with pp := { s.pp with port := .busy i } }

/-- R177: an answer frame, lead byte first; the check covers the tag to the end of the body (R174). -/
def answerBytes (tag : Tag) (code : Code) (body : List Byte) : List Byte :=
  let covered := be 2 tag.toNat ++ be 1 code.number ++ be 2 body.length ++ body
  0xAA :: (covered ++ crcBytes covered)

/-- R173: the `n` bytes that an answer read clocks out. -/
def readBytes (p : Port) (n : Nat) : List Byte :=
  match p with
  | .empty => List.replicate n 0xF1
  | .busy _ | .busyUnlisted _ => List.replicate n 0xF0
  | .answered tag code body =>
    let a := answerBytes tag code body
    a.take n ++ List.replicate (n - a.length) 0xF1

/-- R173, R157: an answer read of `n` bytes; while the RESET line is active every byte is the not-ready marker. -/
def State.readAnswer (s : State) (n : Nat) : State :=
  { s with pp := { s.pp with
      pdo := if s.sck.resetLine then List.replicate n 0xF0 else readBytes s.pp.port n } }

/-- R171: a transaction of a select byte and the bytes after it. -/
def State.transaction (s : State) (sel : Byte) (rest : List Byte) : State :=
  if sel = 0x01 then s.writeCommand rest else s.recordFault (bareFault .purserForm 6)

/-- R173: the step of an answer read; it is served while the RESET line is active too, and without SUPM nothing is. -/
def State.onRead (s : State) (n : Nat) : Host.Outcome State Fault Refusal :=
  .next (if s.sck.supm then s.readAnswer n else s)

/-! ### The steps -/

/-- R171: COMMAND_WRITE, by its select byte: 0x02 makes it an answer read. One in which no byte is written changes nothing
(DESIGN CHOICE, log 39). -/
def execCommandWrite (bytes : List Byte) (s : State) : Host.Outcome State Fault Refusal :=
  match bytes with
  | [] => .next s
  | sel :: rest => if sel = 0x02 then s.onRead rest.length else s.onEvent true fun s => s.transaction sel rest

/-- R173: ANSWER_READ. -/
def execAnswerRead (n : Nat) (s : State) : Host.Outcome State Fault Refusal := s.onRead n

end Sys2Proof.Machine
end

