-- ==== Sys2Proof/Machine/Venue.lean ====
section
/-! DEFINITION. The tab unit: 05_venue_tabs.md. -/

namespace Sys2Proof.Machine

/-- The venue link's number (R162). -/
def vlLink : Nat := 0

/-! ### Tabs (R88, R89, R98) -/

/-- R88: a tab created in a slot, whose use count rises by 1 from 255 to 0; its reference joins the person's and the
terminal's lists (R94). -/
def State.createTab (s : State) (n terminal venue p : Nat) : State × TabRef :=
  let use := ((s.slot n).use + 1) % 256
  let ref : TabRef := { slot := n, use := use }
  let t : Tab := { terminal := terminal, venue := venue, person := p, opened := s.sck.clock, lines := [], total := 0,
                   voidable := false }
  let row := s.terminal terminal
  (((s.setSlot n { use := use, tab := some t }).setTerminal terminal { row with tabs := row.tabs ++ [ref] }).modPerson p
    (fun r => { r with tabs := r.tabs ++ [ref] }), ref)

/-- R96: a line added to a tab in a slot with its new running total; the held amount follows, and a capped line is
recorded in the serving list (R119). -/
def State.putLine (s : State) (n : Nat) (t : Tab) (line : Line) (total : Nat) : State :=
  let s1 := s.setSlot n { s.slot n with
    tab := some { t with lines := t.lines ++ [line], total := total, voidable := true } }
  s1.modPerson t.person fun r => { r with
    folio := { r.folio with held := r.folio.held + total - t.total }
    servings := if s.isCapped line.category then
        addServing r.servings { stamp := s.minute, slot := n, line := t.lines.length, count := line.quantity }
      else r.servings }

/-- R98: the slot is emptied, its use count kept, and the reference leaves the person's and the terminal's lists. -/
def State.dropTab (s : State) (n : Nat) (t : Tab) : State :=
  let ref : TabRef := { slot := n, use := (s.slot n).use }
  let row := s.terminal t.terminal
  ((s.setSlot n { s.slot n with tab := none }).setTerminal t.terminal
    { row with tabs := row.tabs.filter (· ≠ ref) }).modPerson t.person
      fun r => { r with tabs := r.tabs.filter (· ≠ ref) }

/-- What a close comes to (R98). -/
inductive Closing where
  | empty (s : State)
  | full
  | charged (s : State) (amount tip : Nat) (balance : Int) (seq : BitVec 32)

/-- The CHARGE body of a close (R127). -/
def chargeBody (t : Tab) (ref : TabRef) (c : CloseFigures) (forced quick : Bool) : Charge :=
  { venue := t.venue, terminal := t.terminal, ref := ref, lineCount := t.lines.length,
    subtotal := c.prices.subtotal, discount := c.prices.discount, service := c.prices.service, tax := c.prices.tax,
    tip := c.tip, amount := c.amount, tipClamped := c.tipClamped, tipRequestClamped := c.tipRequestClamped,
    overLimit := c.overLimit, forced := forced, quick := quick, balanceSaturated := c.saturated }

/-- The folio of a tab's person; every open tab's person is OCCUPIED (R89), so the cleared folio is never read. -/
def State.folioOf (s : State) (p : Nat) : Folio :=
  match s.person? p with
  | some r => r.folio
  | none => { balance := 0, creditLimit := 0, held := 0, dailyLimit := none, dailySpend := 0, day := 0 }

/-- R98: a close from its check 2 on. -/
def State.closeTab (s : State) (n : Nat) (t : Tab) (tipRequest : Nat) (forced quick : Bool) : Closing :=
  if lineTotal t.lines = 0 then
    .empty ((s.dropTab n t).modPerson t.person fun r => { r with folio := { r.folio with held := r.folio.held - t.total } })
  else
    let f := s.folioOf t.person
    let c := closeFigures (s.price t.venue (s.classOf t.person) t.lines) f t.total tipRequest
    match s.append? s.sck.clock (some t.person) f.day
        (.charge (chargeBody t { slot := n, use := (s.slot n).use } c forced quick)) with
    | none => .full
    | some (s1, seq) =>
      .charged ((s1.dropTab n t).modPerson t.person fun r => { r with folio := r.folio.charge c t.total })
        c.amount c.tip c.balance seq

/-- R98: the fields a close's answer carries. -/
def chargedBytes (amount tip : Nat) (balance : Int) (seq : BitVec 32) : List Byte :=
  be 4 amount ++ be 4 tip ++ be4Signed balance ++ be 4 seq.toNat

/-- R99: the available credit. -/
def availableCredit (f : Folio) : Nat := ((f.creditLimit : Int) - f.balance - f.held).toNat

/-- R99: the daily remaining; absent without a daily limit. -/
def dailyRemaining (f : Folio) (openDay : Nat) : Option Nat :=
  f.dailyLimit.map fun d => d - f.spendOn openDay - f.held

/-! ### Purser commands -/

/-- R87: BIND TERMINAL. The answer gives unbound as an absent venue (DEDUCED, log 45). -/
def bindTerminal (t : Nat) (v : Option Nat) (s : State) : State × Reply :=
  let row := s.terminal t
  if t < 1 ∨ Config.terminals < t ∨ v.any (Config.lastVenue < ·) then s.refuse .range
  else if v.any fun n => !(s.venue n).inUse then s.refuse .notFound
  else if !row.tabs.isEmpty && row.venue ≠ v then s.refuse .tabsOpen
  else (s.setTerminal t { row with venue := v }, Reply.ok (opt (be 1) row.venue))

/-- R91: SET HOLD. -/
def setHold (v : Nat) (held : Bool) (s : State) : State × Reply :=
  if Config.lastVenue < v then s.refuse .range
  else ({ s with tu := { s.tu with holds := setMember s.tu.holds v held } }, Reply.ok [])

/-- R101: FORCE CLOSE. -/
def forceClose (n : Nat) (s : State) : State × Reply :=
  if Config.tabSlots ≤ n then s.refuse .range
  else
    match (s.slot n).tab with
    | none => s.refuse .notFound
    | some t =>
      let named := be 1 n ++ be 1 (s.slot n).use ++ be 1 t.terminal ++ be 2 t.person
      match s.closeTab n t 0 true false with
      | .empty s1 => (s1, { code := .closedEmpty, body := named })
      | .full => s.refuse .queueFull
      | .charged s1 z g b seq => (s1, Reply.ok (named ++ chargedBytes z g b seq))

/-- R103: SET REFUSAL REPORTING. -/
def setRefusalReporting (v : Nat) (record notice : Bool) (s : State) : State × Reply :=
  if Config.lastVenue < v then s.refuse .range
  else ({ s with nfu := { s.nfu with refusalRecord := setMember s.nfu.refusalRecord v record
                                     refusalNotice := setMember s.nfu.refusalNotice v notice } }, Reply.ok [])

/-- R104: READ TAB. The fields of the tab follow a presence byte (DEDUCED, log 12). -/
def readTab (n : Nat) (s : State) : State × Reply :=
  if Config.tabSlots ≤ n then s.refuse .range
  else (s, Reply.ok (be 1 (s.slot n).use ++ opt Tab.bytes (s.slot n).tab))

/-- R104: READ TERMINAL. Unbound is an absent venue (DEDUCED, log 45). -/
def readTerminal (t : Nat) (s : State) : State × Reply :=
  if t < 1 ∨ Config.terminals < t then s.refuse .range
  else (s, Reply.ok (opt (be 1) (s.terminal t).venue ++ listOf refBytes (s.terminal t).tabs))

/-! ### Requests (R90, R92, R93) -/

/-- What TU does with a request: the state, the answer's code and fields, and the person the card or the tab
identified (R103, log 25). -/
structure Served where
  state : State
  code : Code
  body : List Byte
  person : Option Nat

/-- A refused request, before its reporting. -/
def State.decline (s : State) (c : Code) (person : Option Nat) : Served :=
  { state := s, code := c, body := [], person := person }

/-- The terminal's venue, where it is bound to one in use (R93, R103). -/
def State.boundVenue? (s : State) (terminal : Nat) : Option Nat :=
  match (s.terminal terminal).venue with
  | some v => if (s.venue v).inUse then some v else none
  | none => none

/-- What the checks of a card request find. -/
inductive CardAsk where
  | declined (r : Served)
  | passed (s : State) (venue person : Nat) (r : Person)

/-- R92, R93 checks 1 to 4: the binding, the hold where it is checked, the card and the presence. The presence is the
one the request found; evidence waits for PU. -/
def State.cardAsk (s : State) (f : Frame) (serial : Serial) (checkHold : Bool) : CardAsk :=
  match s.boundVenue? f.station with
  | none => .declined ((s.recordFault (frameFault .stationUnknown vlLink f)).decline .unbound none)
  | some v =>
    if checkHold && s.venueHeld v then .declined (s.decline .held none)
    else
      match s.card? serial with
      | none => .declined (s.decline .unknownCard none)
      | some e =>
        match e.state with
        | .revoked _ =>
          .declined ((s.revokedUse e.person serial (.venue v f.station)).decline .revoked (some e.person))
        | .active =>
          let s1 := s.sendEvidence ⟨e.person, s.sck.clock, serial, .venue v f.station, false⟩
          match s.person? e.person with
          | none => .declined (s1.decline .presence (some e.person))
          | some r =>
            if r.presence = .aboard then .passed s1 v e.person r
            else .declined (s1.decline .presence (some e.person))

/-- R93 checks 5 to 7. -/
def State.openRefusal? (s : State) (terminal : Nat) (r : Person) : Option Code :=
  if Config.personTabs ≤ r.tabs.length then some .personTabs
  else if Config.terminalTabs ≤ (s.terminal terminal).tabs.length then some .terminalTabs
  else if s.emptySlot?.isNone then some .tabStoreFull
  else if s.room < 2 then some .queueFull
  else if r.folio.balance + (r.folio.held : Int) ≥ (r.folio.creditLimit : Int) then some .limit
  else none

/-- R93, R94: OPEN TAB. -/
def openTab (f : Frame) (serial : Serial) (s : State) : Served :=
  match s.cardAsk f serial true with
  | .declined r => r
  | .passed s1 v p r =>
    match s1.openRefusal? f.station r with
    | some c => s1.decline c (some p)
    | none =>
      match s1.emptySlot? with
      | none => s1.decline .tabStoreFull (some p)
      | some n =>
        let (s2, ref) := (s1.roll p).createTab n f.station v p
        { state := s2, code := .ok, body := refBytes ref ++ be 2 p ++ be 4 (availableCredit r.folio), person := some p }

/-- What the checks 4 to 9 of a line find (R95): the outcome, the running total H', and whether the capped check was
made. -/
structure LineCheck where
  code : Code
  total : Nat
  capChecked : Bool
  deriving DecidableEq, Repr

/-- R95: the line that a request asks for. -/
def newLine (category price quantity : Nat) : Line :=
  { category := category, price := price, quantity := quantity, amount := price * quantity, voided := false }

/-- R95 checks 4 to 9, with R118 and R110. -/
def State.checkLine (s : State) (r : Person) (venue : Nat) (lines : List Line) (oldTotal category price quantity : Nat) :
    LineCheck :=
  let total := (s.price venue r.cls (lines ++ [newLine category price quantity])).total
  let capped := s.isCapped category
  if 15 < category ∨ 99999 < price ∨ quantity = 0 ∨ 99 < quantity then ⟨.range, total, false⟩
  else if inSet (s.barred r.cls venue) category then ⟨.barred, total, false⟩
  else if Config.tabLines ≤ lines.length then ⟨.tabLines, total, false⟩
  else if capped && s.overCap r quantity then ⟨.cap, total, true⟩
  else if overCredit r.folio oldTotal total then ⟨.limit, total, capped⟩
  else if overDaily r.folio s.sck.openDay oldTotal total then ⟨.daily, total, capped⟩
  else ⟨.ok, total, capped⟩

/-- R118: the pruning that a capped check makes. -/
def State.pruneIf (s : State) (p : Nat) (made : Bool) : State :=
  if made then s.modPerson p fun r => { r with servings := s.prune r.servings } else s

/-- R95, R96: ADD LINE. -/
def addLine (terminal : Nat) (ref : TabRef) (category price quantity : Nat) (s : State) : Served :=
  match s.findTab terminal ref with
  | none => s.decline .noTab none
  | some t =>
    if s.venueHeld t.venue then s.decline .held (some t.person)
    else
      match s.person? t.person with
      | none => s.decline .presence (some t.person)
      | some r =>
        if r.presence ≠ .aboard then s.decline .presence (some t.person)
        else
          let c := s.checkLine r t.venue t.lines t.total category price quantity
          let s1 := s.pruneIf t.person c.capChecked
          if c.code ≠ .ok then s1.decline c.code (some t.person)
          else
            { state := s1.putLine ref.slot t (newLine category price quantity) c.total, code := .ok,
              body := be 1 t.lines.length ++ be 4 c.total, person := some t.person }

/-- R97: the newest line marked voided. -/
def voidNewest (lines : List Line) : List Line :=
  match lines.reverse with
  | [] => []
  | l :: older => (({ l with voided := true } : Line) :: older).reverse

/-- R97, R121: VOID LAST. -/
def voidLast (terminal : Nat) (ref : TabRef) (s : State) : Served :=
  match s.findTab terminal ref with
  | none => s.decline .noTab none
  | some t =>
    if !t.voidable then s.decline .nothingToVoid (some t.person)
    else
      let lines := voidNewest t.lines
      let total := (s.price t.venue (s.classOf t.person) lines).total
      let s1 := s.setSlot ref.slot { s.slot ref.slot with
        tab := some { t with lines := lines, total := total, voidable := false } }
      { state := s1.modPerson t.person fun r => { r with
          folio := { r.folio with held := r.folio.held + total - t.total }
          servings := removeServing r.servings ref.slot (t.lines.length - 1) }
        code := .ok, body := be 4 total, person := some t.person }

/-- R98: CLOSE TAB. -/
def closeTab (terminal : Nat) (ref : TabRef) (tip : Nat) (s : State) : Served :=
  match s.findTab terminal ref with
  | none => s.decline .noTab none
  | some t =>
    match s.closeTab ref.slot t tip false false with
    | .empty s1 => { state := s1, code := .closedEmpty, body := [], person := some t.person }
    | .full => s.decline .queueFull (some t.person)
    | .charged s1 z g b seq =>
      { state := s1, code := .ok, body := chargedBytes z g b seq, person := some t.person }

/-- R100: the sale of a line that has passed every check: roll, tab, line and close in one update. -/
def State.sellQuick (s : State) (n terminal venue p : Nat) (line : Line) (c : LineCheck) (tip : Nat) : Served :=
  let (s1, ref) := ((s.roll p).pruneIf p c.capChecked).createTab n terminal venue p
  let opened : Tab := { terminal := terminal, venue := venue, person := p, opened := s.sck.clock, lines := [], total := 0,
                        voidable := false }
  let s2 := s1.putLine n opened line c.total
  match s2.closeTab n { opened with lines := [line], total := c.total, voidable := true } tip false true with
  | .empty s3 => { state := s3, code := .closedEmpty, body := [], person := some p }
  | .full => s.decline .queueFull (some p)
  | .charged s3 z g b seq => { state := s3, code := .ok, body := chargedBytes z g b seq ++ refBytes ref, person := some p }

/-- R100: QUICK SALE. -/
def quickSale (f : Frame) (serial : Serial) (category price quantity tip : Nat) (s : State) : Served :=
  match s.cardAsk f serial true with
  | .declined r => r
  | .passed s1 v p r =>
    match s1.openRefusal? f.station r with
    | some c => s1.decline c (some p)
    | none =>
      let c := s1.checkLine r v [] 0 category price quantity
      if c.code ≠ .ok then s1.decline c.code (some p)
      else
        match s1.emptySlot? with
        | none => s1.decline .tabStoreFull (some p)
        | some n => s1.sellQuick n f.station v p (newLine category price quantity) c tip

/-- R99: QUERY BALANCE. -/
def queryBalance (f : Frame) (serial : Serial) (s : State) : Served :=
  match s.cardAsk f serial false with
  | .declined r => r
  | .passed s1 _ p r =>
    { state := s1, code := .ok,
      body := be 4 (availableCredit r.folio) ++ opt (be 4) (dailyRemaining r.folio s.sck.openDay), person := some p }

/-! ### Refusal reporting and answers (R90, R103) -/

/-- R103: an answer that is a venue refusal when a venue can be named for it. -/
def Code.reported (c : Code) : Bool :=
  c ≠ .ok && c ≠ .closedEmpty && c ≠ .queueFull && c ≠ .unbound

/-- R103: the record and the notice of a venue refusal. -/
def State.reportRefusal (s : State) (venue terminal : Nat) (person category : Option Nat) (reason : Code) : State :=
  let s1 := if inSet s.nfu.refusalRecord venue && decide (1 ≤ s.room) then
      s.append s.sck.clock person s.sck.openDay (.refusal venue terminal category reason)
    else s
  if inSet s.nfu.refusalNotice venue then s1.raise .refusal else s1

/-- R103: the category a REFUSAL carries. -/
def reportedCategory (category : Nat) : Option Nat := if category ≤ 15 then some category else none

/-- R90, R103: TU takes a request: a frame from a station out of range is not taken; any other is served, reported
when refused, and answered. The venue of a refusal is that of the tab the request finds, or else the
terminal's (log 33). -/
def State.onVenue (s : State) (f : Frame) (ref : Option TabRef) (category : Option Nat) (serve : State → Served) : State :=
  if f.station < 1 ∨ Config.terminals < f.station then s.recordFault (frameFault .stationUnknown vlLink f)
  else
    let venue := match ref.bind (s.findTab f.station) with
      | some t => some t.venue
      | none => s.boundVenue? f.station
    let r := serve s
    let s1 := match venue with
      | some v => if Code.reported r.code then r.state.reportRefusal v f.station r.person category r.code else r.state
      | none => r.state
    s1.queueAnswer vlLink { station := f.station, kind := 0x2F, tag := f.tag, body := be 1 r.code.number ++ r.body }

/-! ### The steps -/

def execBindTerminal (tag : Tag) (t : Nat) (v : Option Nat) (s : State) : Host.Outcome State Fault Refusal :=
  s.onCommand (.bindTerminal tag t v) tag (bindTerminal t v)
def execSetHold (tag : Tag) (v : Nat) (h : Bool) (s : State) : Host.Outcome State Fault Refusal :=
  s.onCommand (.setHold tag v h) tag (setHold v h)
def execForceClose (tag : Tag) (n : Nat) (s : State) : Host.Outcome State Fault Refusal :=
  s.onCommand (.forceClose tag n) tag (forceClose n)
def execSetRefusalReporting (tag : Tag) (v : Nat) (r n : Bool) (s : State) : Host.Outcome State Fault Refusal :=
  s.onCommand (.setRefusalReporting tag v r n) tag (setRefusalReporting v r n)
def execReadTab (tag : Tag) (n : Nat) (s : State) : Host.Outcome State Fault Refusal :=
  s.onCommand (.readTab tag n) tag (readTab n)
def execReadTerminal (tag : Tag) (t : Nat) (s : State) : Host.Outcome State Fault Refusal :=
  s.onCommand (.readTerminal tag t) tag (readTerminal t)

/-- R93: OPEN_TAB. -/
def execOpenTab (st : Nat) (tag : Byte) (serial : Serial) (s : State) : Host.Outcome State Fault Refusal :=
  s.onFrame (.openTab st tag serial) fun _ f s1 => s1.onVenue f none none (openTab f serial)

/-- R95: ADD_LINE. -/
def execAddLine (st : Nat) (tag : Byte) (ref : TabRef) (c p q : Nat) (s : State) : Host.Outcome State Fault Refusal :=
  s.onFrame (.addLine st tag ref c p q) fun _ f s1 =>
    s1.onVenue f (some ref) (reportedCategory c) (addLine st ref c p q)

/-- R97: VOID_LAST. -/
def execVoidLast (st : Nat) (tag : Byte) (ref : TabRef) (s : State) : Host.Outcome State Fault Refusal :=
  s.onFrame (.voidLast st tag ref) fun _ f s1 => s1.onVenue f (some ref) none (voidLast st ref)

/-- R98: CLOSE_TAB. -/
def execCloseTab (st : Nat) (tag : Byte) (ref : TabRef) (tip : Nat) (s : State) : Host.Outcome State Fault Refusal :=
  s.onFrame (.closeTab st tag ref tip) fun _ f s1 => s1.onVenue f (some ref) none (closeTab st ref tip)

/-- R100: QUICK_SALE. -/
def execQuickSale (st : Nat) (tag : Byte) (serial : Serial) (c p q tip : Nat) (s : State) :
    Host.Outcome State Fault Refusal :=
  s.onFrame (.quickSale st tag serial c p q tip) fun _ f s1 =>
    s1.onVenue f none (reportedCategory c) (quickSale f serial c p q tip)

/-- R99: QUERY_BALANCE. -/
def execQueryBalance (st : Nat) (tag : Byte) (serial : Serial) (s : State) : Host.Outcome State Fault Refusal :=
  s.onFrame (.queryBalance st tag serial) fun _ f s1 => s1.onVenue f none none (queryBalance f serial)

/-- R90: VENUE_ANSWER. -/
def execVenueAnswer (s : State) : Host.Outcome State Fault Refusal :=
  s.onEvent (s.answerReady vlLink) fun s => s.sendAnswer vlLink

end Sys2Proof.Machine
end

