-- ==== Sys2Proof/Machine/Dispatch.lean ====
section
/-! DEFINITION. The one dispatch: each command's meaning. -/

namespace Sys2Proof.Machine

/-- A command's effect on everything but the queue. -/
def exec (i : Instr) (s : State) : Host.Outcome State Fault Refusal :=
  match i with
  | .admitPerson tag a => Sys2Proof.Machine.execAdmitPerson tag a s
  | .amendPerson tag person a => Sys2Proof.Machine.execAmendPerson tag person a s
  | .releasePerson tag person writeOff => Sys2Proof.Machine.execReleasePerson tag person writeOff s
  | .issueCard tag person serial => Sys2Proof.Machine.execIssueCard tag person serial s
  | .revokeCard tag serial => Sys2Proof.Machine.execRevokeCard tag serial s
  | .setCabin tag cabin inUse label => Sys2Proof.Machine.execSetCabin tag cabin inUse label s
  | .rekeyCabin tag cabin => Sys2Proof.Machine.execRekeyCabin tag cabin s
  | .postPayment tag person amount => Sys2Proof.Machine.execPostPayment tag person amount s
  | .readPerson tag person => Sys2Proof.Machine.execReadPerson tag person s
  | .readCard tag serial => Sys2Proof.Machine.execReadCard tag serial s
  | .readCabin tag cabin => Sys2Proof.Machine.execReadCabin tag cabin s
  | .setLane tag lane point mode => Sys2Proof.Machine.execSetLane tag lane point mode s
  | .setPermitWindow tag seconds => Sys2Proof.Machine.execSetPermitWindow tag seconds s
  | .setPresence tag person state => Sys2Proof.Machine.execSetPresence tag person state s
  | .armDeadline tag time => Sys2Proof.Machine.execArmDeadline tag time s
  | .disarmDeadline tag => Sys2Proof.Machine.execDisarmDeadline tag s
  | .readCounts tag => Sys2Proof.Machine.execReadCounts tag s
  | .enrolLock tag segment station kind => Sys2Proof.Machine.execEnrolLock tag segment station kind s
  | .withdrawLock tag segment station => Sys2Proof.Machine.execWithdrawLock tag segment station s
  | .setSegment tag segment doze spacing window list => Sys2Proof.Machine.execSetSegment tag segment doze spacing window list s
  | .retrainSegment tag segment => Sys2Proof.Machine.execRetrainSegment tag segment s
  | .readSegment tag segment first count => Sys2Proof.Machine.execReadSegment tag segment first count s
  | .allRelease tag segment => Sys2Proof.Machine.execAllRelease tag segment s
  | .allRestore tag segment => Sys2Proof.Machine.execAllRestore tag segment s
  | .bindTerminal tag terminal venue => Sys2Proof.Machine.execBindTerminal tag terminal venue s
  | .setHold tag venue held => Sys2Proof.Machine.execSetHold tag venue held s
  | .forceClose tag slot => Sys2Proof.Machine.execForceClose tag slot s
  | .setRestriction tag cls venue barred => Sys2Proof.Machine.execSetRestriction tag cls venue barred s
  | .setRefusalReporting tag venue record notice => Sys2Proof.Machine.execSetRefusalReporting tag venue record notice s
  | .readTab tag slot => Sys2Proof.Machine.execReadTab tag slot s
  | .readTerminal tag terminal => Sys2Proof.Machine.execReadTerminal tag terminal s
  | .setVenue tag venue row => Sys2Proof.Machine.execSetVenue tag venue row s
  | .setClass tag cls rate capCode => Sys2Proof.Machine.execSetClass tag cls rate capCode s
  | .setTaxState tag state => Sys2Proof.Machine.execSetTaxState tag state s
  | .setCap tag capped window => Sys2Proof.Machine.execSetCap tag capped window s
  | .readVenueSettings tag => Sys2Proof.Machine.execReadVenueSettings tag s
  | .takePosting tag => Sys2Proof.Machine.execTakePosting tag s
  | .readQueueStatus tag => Sys2Proof.Machine.execReadQueueStatus tag s
  | .startOperation tag kind first last => Sys2Proof.Machine.execStartOperation tag kind first last s
  | .abortOperation tag => Sys2Proof.Machine.execAbortOperation tag s
  | .readOperation tag => Sys2Proof.Machine.execReadOperation tag s
  | .setClock tag time => Sys2Proof.Machine.execSetClock tag time s
  | .clearAll tag => Sys2Proof.Machine.execClearAll tag s
  | .readClock tag => Sys2Proof.Machine.execReadClock tag s
  | .enableLink tag link => Sys2Proof.Machine.execEnableLink tag link s
  | .disableLink tag link => Sys2Proof.Machine.execDisableLink tag link s
  | .retrainLink tag link => Sys2Proof.Machine.execRetrainLink tag link s
  | .readLink tag link => Sys2Proof.Machine.execReadLink tag link s
  | .readNotices tag => Sys2Proof.Machine.execReadNotices tag s
  | .clearNotices tag kinds => Sys2Proof.Machine.execClearNotices tag kinds s
  | .setEnables tag kinds => Sys2Proof.Machine.execSetEnables tag kinds s
  | .readFaults tag => Sys2Proof.Machine.execReadFaults tag s
  | .clearFaults tag kinds => Sys2Proof.Machine.execClearFaults tag kinds s
  | .setMasks tag masks severe => Sys2Proof.Machine.execSetMasks tag masks severe s
  | .commandWrite bytes => Sys2Proof.Machine.execCommandWrite bytes s
  | .answerRead count => Sys2Proof.Machine.execAnswerRead count s
  | .linkFrameArrival link bytes => Sys2Proof.Machine.execLinkFrameArrival link bytes s
  | .trainReply link hubKind => Sys2Proof.Machine.execTrainReply link hubKind s
  | .presentation segment station tag serial generation deadbolt => Sys2Proof.Machine.execPresentation segment station tag serial generation deadbolt s
  | .pushAck segment station tag floor => Sys2Proof.Machine.execPushAck segment station tag floor s
  | .pollReply segment station tag report => Sys2Proof.Machine.execPollReply segment station tag report s
  | .logReply segment station tag report => Sys2Proof.Machine.execLogReply segment station tag report s
  | .openTab station tag serial => Sys2Proof.Machine.execOpenTab station tag serial s
  | .addLine station tag ref category price quantity => Sys2Proof.Machine.execAddLine station tag ref category price quantity s
  | .voidLast station tag ref => Sys2Proof.Machine.execVoidLast station tag ref s
  | .closeTab station tag ref tip => Sys2Proof.Machine.execCloseTab station tag ref tip s
  | .quickSale station tag serial category price quantity tip => Sys2Proof.Machine.execQuickSale station tag serial category price quantity tip s
  | .queryBalance station tag serial => Sys2Proof.Machine.execQueryBalance station tag serial s
  | .scan lane tag serial => Sys2Proof.Machine.execScan lane tag serial s
  | .passage lane tag direction => Sys2Proof.Machine.execPassage lane tag direction s
  | .evidence => Sys2Proof.Machine.execEvidence s
  | .permitExpiry lane => Sys2Proof.Machine.execPermitExpiry lane s
  | .deadlineExpiry => Sys2Proof.Machine.execDeadlineExpiry s
  | .doorAnswer segment => Sys2Proof.Machine.execDoorAnswer segment s
  | .broadcast segment => Sys2Proof.Machine.execBroadcast segment s
  | .push segment => Sys2Proof.Machine.execPush segment s
  | .logFetch segment => Sys2Proof.Machine.execLogFetch segment s
  | .poll segment => Sys2Proof.Machine.execPoll segment s
  | .venueAnswer => Sys2Proof.Machine.execVenueAnswer s
  | .laneAnswer => Sys2Proof.Machine.execLaneAnswer s
  | .replyWaitExpiry segment => Sys2Proof.Machine.execReplyWaitExpiry segment s
  | .contactDeadline segment station => Sys2Proof.Machine.execContactDeadline segment station s
  | .doze segment => Sys2Proof.Machine.execDoze segment s
  | .train link => Sys2Proof.Machine.execTrain link s
  | .trainingAttemptEnd link => Sys2Proof.Machine.execTrainingAttemptEnd link s
  | .keepaliveSend link => Sys2Proof.Machine.execKeepaliveSend link s
  | .hubSilent link => Sys2Proof.Machine.execHubSilent link s
  | .musterEntry => Sys2Proof.Machine.execMusterEntry s
  | .musterExit => Sys2Proof.Machine.execMusterExit s
  | .supmLoss => Sys2Proof.Machine.execSupmLoss s
  | .supmReturn musterLevel => Sys2Proof.Machine.execSupmReturn musterLevel s
  | .supbLoss => Sys2Proof.Machine.execSupbLoss s
  | .resetAssert => Sys2Proof.Machine.execResetAssert s
  | .resetRelease => Sys2Proof.Machine.execResetRelease s
  | .dayClosePersonsStep => Sys2Proof.Machine.execDayClosePersonsStep s
  | .dayCloseCardsStep => Sys2Proof.Machine.execDayCloseCardsStep s
  | .cabinRekeyStep => Sys2Proof.Machine.execCabinRekeyStep s
  | .finalDisembarkStep => Sys2Proof.Machine.execFinalDisembarkStep s
  | .resend segment => Sys2Proof.Machine.execResend segment s
  | .supbReturn => Sys2Proof.Machine.execSupbReturn s

end Sys2Proof.Machine
end

