-- ==== Sys2Proof/Machine/Step.lean ====
section
/-! DEFINITION. One step: the command at the front of the queue, or, on an empty queue, the part's own next due event,
or a millisecond (log 4, log 5). -/

namespace Sys2Proof.Machine

/-! ### The part's own events -/

/-- The command PP holds, to be taken by its owner (R172). -/
def State.heldCommand? (s : State) : Option Instr :=
  match s.pp.port with
  | .busy i => some i
  | .busyUnlisted _ | .empty | .answered .. => none

/-- The tag of a command PP holds, in whose frame a coded byte names no value of its list; its owner answers RANGE (R172;
log 11, log 44). -/
def State.unlisted? (s : State) : Option Tag :=
  match s.pp.port with
  | .busyUnlisted tag => if s.takesEvents then some tag else none
  | .busy _ | .empty | .answered .. => none

/-- The step that takes the head of a link's intake queue (R168). -/
def State.intakeHead? (s : State) (n : Nat) : Option Instr :=
  match (s.link n).intake with
  | [] => none
  | f :: _ => if (s.link n).inService then decodeStation n f else none

/-- An event that is due. -/
def dueIf (due : Bool) (i : Instr) : Option Instr := if due then some i else none

/-- R78: the lowest-numbered lock of a segment whose contact deadline is reached. -/
def State.staleStation? (s : State) (g : Nat) : Option Nat :=
  ((s.seg g).roster.map (·.1)).find? fun st => s.contactDue g st

/-- The events of the part that can be due, in the order this model takes them (DESIGN CHOICE, log 4): commands and
frames waiting, evidence, a change of the MUSTER line, the expiries, the link layer's ends, what waits to be sent, the
operation's step. -/
def State.dueEvents (s : State) : List (Option Instr) :=
  [s.heldCommand?] ++ linkNumbers.map s.intakeHead? ++
    [dueIf (!s.pu.evidence.isEmpty) .evidence, dueIf (s.musterDue true) .musterEntry,
     dueIf (s.musterDue false) .musterExit, dueIf s.deadlineReached .deadlineExpiry] ++
    laneNumbers.map (fun n => dueIf (s.permitDue n) (.permitExpiry n)) ++
    segmentNumbers.map (fun g => dueIf (s.waitOver g) (.replyWaitExpiry g)) ++
    linkNumbers.map (fun n => dueIf (s.attemptOver n) (.trainingAttemptEnd n)) ++
    linkNumbers.map (fun n => dueIf (s.silent n) (.hubSilent n)) ++
    segmentNumbers.map (fun g => (s.staleStation? g).map fun st => .contactDeadline g st) ++
    segmentNumbers.map (fun g => dueIf (s.answerReady (segLink g)) (.doorAnswer g)) ++
    [dueIf (s.answerReady vlLink) .venueAnswer, dueIf (s.answerReady glLink) .laneAnswer] ++
    segmentNumbers.map (fun g => dueIf (s.broadcastReady g) (.broadcast g)) ++
    segmentNumbers.map (fun g => dueIf (s.resendReady g) (.resend g)) ++
    segmentNumbers.map (fun g => dueIf (s.pushReady g) (.push g)) ++
    segmentNumbers.map (fun g => dueIf (s.fetchReady g) (.logFetch g)) ++
    segmentNumbers.map (fun g => dueIf (s.pollReady g) (.poll g)) ++
    segmentNumbers.map (fun g => dueIf (s.dozeDue g) (.doze g)) ++
    linkNumbers.map (fun n => dueIf (s.trainDue n) (.train n)) ++
    linkNumbers.map (fun n => dueIf (s.keepAliveDue n) (.keepaliveSend n)) ++
    [dueIf (s.stepDue .dayClose .persons) .dayClosePersonsStep,
     dueIf (s.stepDue .dayClose .cards) .dayCloseCardsStep,
     dueIf (s.stepDue .cabinRekey .cabins) .cabinRekeyStep,
     dueIf (s.stepDue .finalDisembark .persons) .finalDisembarkStep]

/-- The event the part takes next on its own; none while it takes no events (R156, R157). -/
def State.nextDue (s : State) : Option Instr :=
  if s.takesEvents then s.dueEvents.findSome? id else none

/-! ### A millisecond (R152, R154, R79) -/

/-- R152: the ship clock runs while any supply is present, and stops at its top; `ms` is its phase (log 6). -/
def ShipClock.run (c : ShipClock) : ShipClock :=
  if c.supm || c.supb then
    if c.ms + 1 < 1000 then { c with ms := c.ms + 1 }
    else { c with ms := 0, clock := if c.clock < Config.top32 then c.clock + 1 else c.clock }
  else c

/-- R154, R79: the next value of a 48-bit count of milliseconds; what follows its top is free (log 34). -/
def nextMs (n : Nat) : Nat := if n < Config.topMs then n + 1 else Config.pastTopMs n % (Config.topMs + 1)

/-- R159: the filter of the MUSTER line measures a level that is not its own, and takes it once it has held for 50 ms. -/
def ShipClock.filter (c : ShipClock) : ShipClock :=
  if c.musterLine = c.musterLevel then { c with musterHold := 0 }
  else if c.musterHold + 1 < Config.filterMs then { c with musterHold := c.musterHold + 1 }
  else { c with musterLevel := c.musterLine, musterHold := 0 }

/-- R79: the doze counter of a segment rises while its link is in DOZE. -/
def State.countDoze (s : State) (g : Nat) : State :=
  if (s.link (segLink g)).state = .doze then s.modSeg g fun c => { c with dozeCount := nextMs c.dozeCount } else s

/-- R154, R159: the elapsed base rises while SUPM is present, and with it the filter of the MUSTER line runs (log 5). -/
def State.tick (s : State) : State :=
  let c := s.sck.run
  if s.sck.supm then
    segmentNumbers.foldl State.countDoze { s with sck := { c.filter with elapsed := nextMs c.elapsed } }
  else { s with sck := c }

/-! ### The step -/

/-- The step of an empty queue: the answer to a command of no row, the next due event, or a millisecond. -/
def State.idle (s : State) : Host.Outcome State Fault Refusal :=
  match s.unlisted? with
  | some tag => .next (s.answer tag (Reply.only .range))
  | none =>
    match s.nextDue with
    | some i => exec i s
    | none => .next s.tick

/-- One step: the command at the front of the queue is run with the queue's rest. -/
def step (s : State) : Host.Outcome State Fault Refusal :=
  match s.pending with
  | c :: rest => exec c { s with pending := rest }
  | [] => s.idle

/-- No row of the table gives bits, so no word spells a command and the state is as it was (log 7). -/
def State.withFetchWord (s : State) (nbits w : Nat) : State :=
  match decodeTableWord nbits w with
  | some c => { s with pending := c :: s.pending }
  | none => s

end Sys2Proof.Machine
end

