-- ==== Sys2Proof/Safety.lean ====
section
/-! DEFINITION. What holds of every state the part can reach: the invariants that the spec states of its tables, and the
words the claims use. -/

namespace Sys2Proof.Machine

/-! ### Words of the claims -/

/-- The state with PP holding an answer (R171). -/
def State.answered (s : State) (tag : Tag) (code : Code) (body : List Byte) : State :=
  { s with pp := { s.pp with port := .answered tag code body } }

/-- A step that comes from a pin, or an answer read, which a transaction of select byte 0x02 is: these alone act while the
part takes no events (R156, R157, R159, R171). -/
def actsWithoutEvents : Instr → Bool
  | .commandWrite (sel :: _) => sel = 0x02
  | .answerRead _ | .musterEntry | .musterExit | .supmLoss | .supmReturn _ | .supbLoss | .supbReturn | .resetAssert
  | .resetRelease => true
  | _ => false

/-- The listed persons in one presence state. -/
def State.personsIn (s : State) (st : Presence) : Nat := countRecords (fun r => r.presence = st) s.pt

/-- R79, R164, R166: a link back in UP from DOZE, its timers started again. -/
def Link.woken (l : Link) (now : Nat) : Link :=
  { l with state := .up, history := (l.state :: l.history).take 3, attempt := 0, trains := 0
           silenceStart := now, lastSend := now }

/-- R14: the lock that a rekey of a cabin hands over for a push: none at the highest key generation. -/
def State.rekeyLock (s : State) (cabin : Option Nat) : Option (Nat × Nat) :=
  cabin.bind fun c => if (s.cabin c).keyGen < 65535 then (s.cabin c).lock else none

/-- R79: a lock handed over for a push wakes its segment from DOZE when it may be sent a PUSH. -/
def State.wakesFor (s : State) (lock : Option (Nat × Nat)) (g : Nat) : Bool :=
  (s.link (segLink g)).state = .doze && lock.any fun l => l.1 = g && (s.seg g).servable l.2

/-- R14, R79: in `t` a lock's push entry stands at the tail, or in the place it had, and where the lock may be sent a
PUSH its segment is woken from DOZE; no other segment or link differs. -/
def State.handedPush (s t : State) (lock : Option (Nat × Nat)) : Prop :=
  (∀ g, t.seg g = { s.seg g with
    pushes := (s.seg g).pushes ++ ((lock.filter fun l => l.1 = g && !(s.seg g).pushes.contains l.2).map (·.2)).toList
    measure := if s.wakesFor lock g then { start := s.sck.elapsed, limit := dozeMs (s.seg g).dozeTimer }
      else (s.seg g).measure }) ∧
  ∀ n, t.link n = if 2 ≤ n ∧ s.wakesFor lock (n - 2) then (s.link n).woken s.sck.elapsed else s.link n

/-- R164: the notices after a lock is handed over for a push: LINK_CHANGE where its segment is woken. -/
def State.pushNotices (s : State) (lock : Option (Nat × Nat)) : NoticeUnit :=
  if lock.any (fun l => s.wakesFor lock l.1) then (s.raise .linkChange).nfu else s.nfu

/-- R17, R14: a cabin after a person has left it, with the rekey that goes with the leaving. -/
def Cabin.left (c : Cabin) (p : Nat) : Cabin :=
  { c with occupants := c.occupants.filter (· ≠ p), keyGen := if c.keyGen < 65535 then c.keyGen + 1 else c.keyGen }

/-- The cabin after a rekey (R14). -/
def Cabin.rekeyed (c : Cabin) : Cabin := { c with keyGen := if c.keyGen < 65535 then c.keyGen + 1 else c.keyGen }

/-- R13: in `t` a card, if any, has become REVOKED with the open day and joined the revocation order; no other entry
differs. -/
def State.cardRevoked (s t : State) (card : Option Serial) : Prop :=
  (∀ k, t.card? k = if card = some k then (s.card? k).map fun e => { e with state := .revoked s.sck.openDay }
    else s.card? k) ∧ t.ci.order = s.ci.order ++ card.toList

/-- R14: in `t` every person but `p` is as in `s`, but that the rekey of a cabin, if any, has set reissue due for each
occupant whose active card is below the generation after it. -/
def State.othersMarked (s t : State) (p : Nat) (cabin : Option Nat) : Prop :=
  ∀ q, q ≠ p → t.person? q = (s.person? q).map fun r => { r with
    reissueDue := r.reissueDue || cabin.any fun c => decide (q ∈ (s.cabin c).occupants) &&
      (s.activeGen? r).any fun g => g < min 65535 ((s.cabin c).keyGen + 1) }

/-- R37: in `t` the permits that `which` names are withdrawn: each lane's permit and its person's permit lane cleared
and scan-no-pass counted; no other lane or person differs. -/
def State.permitsWithdrawn (s t : State) (which : Permit → Bool) : Prop :=
  (∀ n, t.lane n = if n ∈ laneNumbers ∧ (s.lane n).permit.any which then
    { s.lane n with permit := none
                    tallies := { (s.lane n).tallies with scanNoPass := min 65535 ((s.lane n).tallies.scanNoPass + 1) } }
    else s.lane n) ∧
  ∀ q, t.person? q = (s.person? q).map fun r =>
    if laneNumbers.any fun m => (s.lane m).permit.any fun k => which k && decide (k.person = q) then
      { r with permitLane := none } else r

/-- R169, R83, R37: in `t` what a link's leaving UP or DOZE ends beside its own queues: the outstanding frame and the
doze measure of its segment, and on GL every permit. -/
def State.serviceEnded (s t : State) (n : Nat) : Prop :=
  (∀ g, t.seg g = if (s.link n).inService ∧ n = segLink g then { s.seg g with
    outstanding := none, measure := { (s.seg g).measure with limit := none } } else s.seg g) ∧
  s.permitsWithdrawn t (fun _ => (s.link n).inService && n = 1)

/-- R165, R74, R75: in `t` a link has entered UP from TRAINING: the state pushed, the silence timer started, its
segment's unreachable count, cursor and doze measure started again, LINK_CHANGE raised. -/
def State.enteredUp (s t : State) (n : Nat) : Prop :=
  let l := s.link n
  (∀ m, t.link m = if m = n then { l with
    state := .up, history := (l.state :: l.history).take 3, attempt := 0, trains := 0
    silenceStart := s.sck.elapsed, lastGood := some s.sck.elapsed } else s.link m) ∧
  (∀ g, t.seg g = if n = segLink g then { s.seg g with
    unreachable := 0, cursor := 1, measure := { start := s.sck.elapsed, limit := dozeMs (s.seg g).dozeTimer } }
    else s.seg g) ∧
  t = { s with lk := t.lk, sc := t.sc, nfu := (s.raise .linkChange).nfu }

/-- R79, R166: in `t` a good station frame has come on a link: the silence timer started again, a segment in DOZE woken,
and the doze measure started again unless the frame is a poll reply that wakes nothing. -/
def State.arrived (s t : State) (n : Nat) (kind : Byte) : Prop :=
  let wakes : Bool := 2 ≤ n && n ≤ 5 && (s.link n).state = .doze
  (∀ m, t.link m = if m = n then { (if wakes then (s.link n).woken s.sck.elapsed else s.link n) with
    silenceStart := s.sck.elapsed, lastGood := some s.sck.elapsed } else s.link m) ∧
  (∀ g, t.seg g = if n = segLink g ∧ n ≤ 5 ∧ (wakes ∨ kind ≠ 0x15) then { s.seg g with
    measure := { start := s.sck.elapsed, limit := dozeMs (s.seg g).dozeTimer } } else s.seg g) ∧
  t = { s with lk := t.lk, sc := t.sc, nfu := if wakes then (s.raise .linkChange).nfu else s.nfu }

/-- R47 to R51: the outcome of a presentation. -/
def State.doorOutcome (s : State) (kind : LockKind) (serial : Serial) (gen : Nat) (bolt : Bool) : Code :=
  match s.card? serial with
  | none => .unknownCard
  | some e =>
    if e.generation ≠ gen then .unknownCard
    else if e.state ≠ .active then .revoked
    else
      match s.person? e.person with
      | none => .notEmbarked
      | some r =>
        if r.presence = .notEmbarked ∨ r.presence = .disembarked then .notEmbarked
        else
          match kind with
          | .cabin n =>
            if r.cabin = some n then (if (s.cabin n).keyGen = gen then .granted else .grantedReissue)
            else if r.master = false then .notOccupant
            else if bolt = true ∧ s.sck.muster = false then .privacy
            else .granted
          | .area a => if r.areas.getLsbD a then .granted else .area

/-- R29 checks 4 to 9: the code of a scan of an ACTIVE card of this person, in a direction, at an open lane. -/
def State.scanOutcome (s : State) (n : Nat) (r : Person) (out : Bool) : Code :=
  if (s.lane n).permit ≠ none then .laneBusy
  else if r.permitLane ≠ none then .inTransit
  else if r.lastLane = some n ∧ (∃ t, r.lastCrossing = some t ∧ s.sck.elapsed < t + 5000) then .repeated
  else if (s.lane n).effective = .both ∧ r.presence = .disputed then .directionUnknown
  else if r.presence ≠ .disputed ∧
      (if out then r.presence ≠ .aboard else r.presence ≠ .notEmbarked ∧ r.presence ≠ .ashore) then .wrongDirection
  else if out = true ∧ r.holdAboard = true then .holdAboard
  else .permit

/-- R82: the sweep time of a segment rounded up to a whole minute. -/
def Segment.sweepMinutes (c : Segment) : Nat :=
  ((c.roster.filter fun e => !e.2.excluded).length * c.spacing + 59999) / 60000

/-- R78, R82: a lock's record once the contact window of its segment has been settled: STALE where its deadline is
past (log 23). -/
def Segment.settled (c : Segment) (now : Nat) (k : Lock) : Lock :=
  if (c.deadline? k).any (· ≤ now) then { k with state := .stale } else k

/-- R90, R29, R71: in `t` an answer to a frame waits on a link in UP, after those that waited; decided in DOZE it is
abandoned; no other link differs. -/
def State.answerWaits (s t : State) (n : Nat) (f : Frame) (kind : Byte) (body : List Byte) : Prop :=
  ∀ m, t.link m = if m = n ∧ (s.link n).state = .up then { s.link n with
    answers := (s.link n).answers ++ [{ station := f.station, kind := kind, tag := f.tag, body := body }] } else s.link m

/-- R93 checks 1 to 4: the card of a request names a person ABOARD, at a terminal bound to a venue in use. -/
def State.cardServes (s : State) (terminal : Nat) (serial : Serial) (v p : Nat) (r : Person) : Prop :=
  1 ≤ terminal ∧ terminal ≤ 64 ∧ (s.terminal terminal).venue = some v ∧ (s.venue v).inUse = true ∧
    (∃ e, s.card? serial = some e ∧ e.state = .active ∧ e.person = p) ∧ s.person? p = some r ∧ r.presence = .aboard

/-- R93 checks 2 and 5 to 7: the venue is not held, the lists and the store have room (slot `n` the lowest empty one),
the queue has charging room, and the person has credit. -/
def State.tabOpens (s : State) (terminal v n : Nat) (r : Person) : Prop :=
  s.venueHeld v = false ∧ r.tabs.length < 2 ∧ (s.terminal terminal).tabs.length < 8 ∧ n ≤ 255 ∧
    (s.slot n).tab = none ∧ (∀ k, k < n → (s.slot k).tab ≠ none) ∧ 2 ≤ s.room ∧
    r.folio.balance + (r.folio.held : Int) < (r.folio.creditLimit : Int)

/-- R94 step 1: the folio after the lazy roll. -/
def Folio.rolled (f : Folio) (openDay : Nat) : Folio :=
  if f.day < openDay then { f with dailySpend := 0, day := openDay } else f

/-- R94 step 1: the queue and the notices after the lazy roll: a DAY_TOTAL of a nonzero spend. -/
def State.rollPosted (s : State) (p : Nat) (f : Folio) : State :=
  if f.day < s.sck.openDay ∧ f.dailySpend ≠ 0 then
    s.append s.sck.clock (some p) s.sck.openDay (.dayTotal f.day f.dailySpend)
  else s

/-- R95 checks 4 to 9 pass for a line on a tab with these lines and stored H, the new running total given. -/
def State.lineOk (s : State) (r : Person) (v : Nat) (lines : List Line) (old total category price quantity : Nat) : Prop :=
  category ≤ 15 ∧ price ≤ 99999 ∧ 1 ≤ quantity ∧ quantity ≤ 99 ∧ (s.barred r.cls v).getLsbD category = false ∧
    lines.length < 16 ∧
    (s.cc.capped.getLsbD category = true → ∀ k, (s.classRow r.cls).cap = some k →
      ((r.servings.filter fun e => s.minute - e.stamp < s.cc.window).map (·.count)).sum + quantity ≤ k) ∧
    r.folio.balance + r.folio.held - old + total ≤ (r.folio.creditLimit : Int) ∧
    ∀ d, r.folio.dailyLimit = some d →
      (if r.folio.day < s.sck.openDay then 0 else (r.folio.dailySpend : Int)) + r.folio.held - old + total ≤ (d : Int)

/-- R95 checks 4 to 9: the outcome of a line on a tab with these lines and stored H. -/
def State.lineOutcome (s : State) (r : Person) (v : Nat) (lines : List Line) (old category price quantity : Nat) : Code :=
  let line : Line := { category := category, price := price, quantity := quantity, amount := price * quantity
                       voided := false }
  let open_ : Int := r.folio.held - old + (s.price v r.cls (lines ++ [line])).total
  let served := ((r.servings.filter fun e => s.minute - e.stamp < s.cc.window).map (·.count)).sum
  let spend : Nat := if r.folio.day < s.sck.openDay then 0 else r.folio.dailySpend
  if 15 < category ∨ 99999 < price ∨ quantity < 1 ∨ 99 < quantity then .range
  else if (s.barred r.cls v).getLsbD category then .barred
  else if 16 ≤ lines.length then .tabLines
  else if s.cc.capped.getLsbD category && (s.classRow r.cls).cap.any (· < served + quantity) then .cap
  else if (r.folio.creditLimit : Int) < r.folio.balance + open_ then .limit
  else if r.folio.dailyLimit.any fun d => decide ((d : Int) < spend + open_) then .daily
  else .ok

/-- R103: the record and the notice of a refusal at a venue, as the venue's two sets say; the record needs charging
room. -/
def State.refusalReported (s : State) (v terminal : Nat) (person category : Option Nat) (c : Code) : State :=
  let posted := if s.nfu.refusalRecord.getLsbD v = true ∧ s.pq.records.length < 3840 then
      s.append s.sck.clock person s.sck.openDay (.refusal v terminal category c)
    else s
  if s.nfu.refusalNotice.getLsbD v then posted.raise .refusal else posted

/-- R90: in `t` the answer to a refused venue request waits on VL, and nothing else differs. -/
def State.declines (s t : State) (f : Frame) (c : Code) : Prop :=
  s.answerWaits t 0 f 0x2F (be 1 c.number) ∧ t = { s with lk := t.lk }

/-- R118: the state after the pruning that a capped check makes of a person's serving list. -/
def State.capPruned (s : State) (p : Nat) (r : Person) : State :=
  { s with pt := insert s.pt p { r with servings := r.servings.filter fun e => s.minute - e.stamp < s.cc.window } }

/-- R118, R119: a serving list after a line: for a capped line pruned, its oldest entry gone where six remain, and the
new entry at the tail. -/
def State.served (s : State) (l : List Serving) (category : Nat) (e : Serving) : List Serving :=
  if s.cc.capped.getLsbD category then
    let kept := l.filter fun e => s.minute - e.stamp < s.cc.window
    (if kept.length < 6 then kept else kept.drop 1) ++ [e]
  else l

/-- The figures of a close (R111). -/
structure Bill where
  tip : Nat
  amount : Nat
  balance : Int

/-- R111, R112: the tip, the charge and the balance of a close at these prices, with the tab's stored H. -/
def billOf (p : Prices) (f : Folio) (old tipRequest : Nat) : Bill :=
  let room : Int := f.creditLimit - f.balance - f.held + old - p.total
  let tip := min (min tipRequest 999999) (min p.net room.toNat)
  { tip := tip, amount := p.total + tip, balance := max (-999999999) (min 999999999 (f.balance + (p.total + tip : Nat))) }

/-- R127, R111: the CHARGE of a close. -/
def chargeOf (x : Tab) (ref : TabRef) (p : Prices) (f : Folio) (tipRequest : Nat) (forced quick : Bool) : Charge :=
  let b := billOf p f x.total tipRequest
  { venue := x.venue, terminal := x.terminal, ref := ref, lineCount := x.lines.length, subtotal := p.subtotal
    discount := p.discount, service := p.service, tax := p.tax, tip := b.tip, amount := b.amount
    tipClamped := b.tip < min tipRequest 999999, tipRequestClamped := 999999 < tipRequest
    overLimit := (f.creditLimit : Int) < f.balance + b.amount, forced := forced, quick := quick
    balanceSaturated := f.balance + (b.amount : Int) ≠ b.balance }

/-- R98: the fields that the answer to a close carries. -/
def billBytes (b : Bill) (seq : BitVec 32) : List Byte :=
  be 4 b.amount ++ be 4 b.tip ++ be4Signed b.balance ++ be 4 seq.toNat

/-- R98: in `t` the tab in a slot is gone, with its reference in the person's and the terminal's lists; the slot keeps
its use count. -/
def State.tabGone (s t : State) (n : Nat) (x : Tab) (r : Person) (f : Folio) : Prop :=
  let ref : TabRef := { slot := n, use := (s.slot n).use }
  (∀ m, t.slot m = if m = n then { use := (s.slot n).use, tab := none } else s.slot m) ∧
  (∀ m, t.terminal m = if m = x.terminal then
    { s.terminal m with tabs := (s.terminal m).tabs.filter (· ≠ ref) } else s.terminal m) ∧
  ∀ q, t.person? q = if q = x.person then some { r with tabs := r.tabs.filter (· ≠ ref), folio := f } else s.person? q

/-! ### Invariants -/

/-- R25: each presence count is the number of OCCUPIED persons in its state. -/
def State.countsHold (s : State) : Prop := rising s.pt = true ∧ ∀ st, s.pu.counts.of st = s.personsIn st

/-- R125: at most 4,096 records, each record's number as many below the next number as its place from the tail. -/
def State.queueHolds (s : State) : Prop :=
  s.pq.records.length ≤ Config.queueRecords ∧
    ∀ k p, s.pq.records[k]? = some p → p.seq + BitVec.ofNat 32 (s.pq.records.length - k) = s.pq.next

/-- R155, R146: no person's day number and no revoked day exceeds the open day. -/
def State.daysHold (s : State) : Prop :=
  (∀ p r, s.person? p = some r → r.folio.day ≤ s.sck.openDay) ∧
    ∀ n e d, find? s.ci.entries n = some e → e.state = .revoked d → d ≤ s.sck.openDay

/-- R27: every lane's effective mode is the one derived from its configured mode. -/
def State.modesHold (s : State) : Prop :=
  canonical Lane.cold s.pu.lanes = true ∧ ∀ n, (s.lane n).effective = deriveMode s.closing (s.lane n).configured

/-- R3, R112: the folio's amounts lie in their ranges. -/
def Folio.inRange (f : Folio) : Prop :=
  -(Config.topAmount : Int) ≤ f.balance ∧ f.balance ≤ Config.topAmount ∧ f.creditLimit ≤ Config.topAmount ∧
    (∀ d, f.dailyLimit = some d → d ≤ Config.topAmount) ∧ f.dailySpend ≤ Config.topAmount

/-- R3, R112. -/
def State.foliosHold (s : State) : Prop := ∀ p r, s.person? p = some r → r.folio.inRange

/-- R117: a serving list has at most six entries, their stamps never decrease, and none is later than the minute. -/
def servingsOk (minute : Nat) (l : List Serving) : Prop :=
  l.length ≤ Config.servingEntries ∧ l.Pairwise (fun a b => a.stamp ≤ b.stamp) ∧ ∀ e ∈ l, e.stamp ≤ minute

/-- R117. -/
def State.servingsHold (s : State) : Prop := ∀ p r, s.person? p = some r → servingsOk s.minute r.servings

/-- R163 to R169: what holds of a link between two steps. -/
def Link.wf (l : Link) : Prop :=
  l.state ≠ .recovery ∧ l.history.length = 3 ∧ l.intake.length ≤ Config.intakeFrames ∧
    (l.inService = false → l.intake = [] ∧ l.answers = []) ∧
    (if l.state = .training then 1 ≤ l.attempt ∧ l.attempt ≤ Config.attempts else l.attempt = 0)

/-- R163 to R169, with DOZE on the lock segments alone. -/
def State.linksHold (s : State) : Prop := ∀ n, (s.link n).wf ∧ (n < 2 → (s.link n).state ≠ .doze)

/-- R74, R75, R79, R82: the ranges of a segment controller's figures. -/
def Segment.wf (c : Segment) : Prop :=
  1 ≤ c.cursor ∧ c.cursor ≤ Config.stations ∧ c.unreachable < Config.unreachableLimit ∧ c.dozeTimer ≤ 5 ∧
    50 ≤ c.spacing ∧ c.spacing ≤ 1000 ∧ 5 ≤ c.windowAsked ∧ c.windowAsked ≤ 120 ∧ c.windowAsked ≤ c.window ∧
    c.dozeCount < 2 ^ 48

/-- R74, R75, R79, R82. -/
def State.segmentsHold (s : State) : Prop := canonical Segment.cold s.sc = true ∧ ∀ g, (s.seg g).wf

/-- R5, R11 to R13: a person's active card is an ACTIVE entry that names the person and every ACTIVE entry is its
person's active card; the revocation order names each REVOKED entry once; the index holds at most 12,288 entries. -/
def State.cardsHold (s : State) : Prop :=
  rising s.ci.entries = true ∧ s.ci.entries.length ≤ Config.cardEntries ∧ (∀ e ∈ s.ci.entries, e.1 < 2 ^ 48) ∧
  (∀ p r serial, s.person? p = some r → r.card = some serial →
    ∃ e, s.card? serial = some e ∧ e.person = p ∧ e.state = .active) ∧
  (∀ serial e, s.card? serial = some e → e.state = .active → (s.person? e.person).bind (·.card) = some serial) ∧
  s.ci.order.Nodup ∧ ∀ serial, serial ∈ s.ci.order ↔ ∃ e day, s.card? serial = some e ∧ e.state = .revoked day

/-- R6, R10, R17: a cabin's occupants are the persons whose cabin it is, each once and at most six, and a cabin with
occupants is in use. -/
def State.cabinsHold (s : State) : Prop :=
  canonical Cabin.cold s.ct = true ∧
  (∀ c, (s.cabin c).occupants.Nodup ∧ (s.cabin c).occupants.length ≤ Config.cabinOccupants ∧
    ((s.cabin c).occupants ≠ [] → (s.cabin c).inUse = true)) ∧
  ∀ c p, p ∈ (s.cabin c).occupants ↔ (s.person? p).bind (·.cabin) = some c

/-- R28, R113, R114, R116: the settings lie in their ranges. -/
def State.settingsHold (s : State) : Prop :=
  3 ≤ s.pu.permitWindow ∧ s.pu.permitWindow ≤ 30 ∧ 10 ≤ s.cc.window ∧ s.cc.window ≤ 240 ∧
    (∀ v, (s.venue v).serviceRate ≤ 2500 ∧ (s.venue v).taxRate ≤ 2500) ∧
    ∀ c, (s.classRow c).rate ≤ 5000 ∧ ∀ k, (s.classRow c).cap = some k → 1 ≤ k ∧ k ≤ 6

/-- R152, R154, R159: the ship clock is a 32-bit count of seconds, the elapsed base a 48-bit count of milliseconds, and
the filter of the MUSTER line measures less than 50 ms. -/
def State.clocksHold (s : State) : Prop :=
  s.sck.clock < 2 ^ 32 ∧ s.sck.elapsed < 2 ^ 48 ∧ s.sck.ms < 1000 ∧ s.sck.musterHold < 50

/-- R36: the permits that have ended. -/
def Tallies.ended (t : Tallies) : Nat := t.outward + t.inward + t.stale + t.scanNoPass

/-- R36, R29: a permit's person names its lane, its from-state admits its direction, a permit lane names a permit, and
while permits granted has not saturated it exceeds the ended permits by 1 with a permit held and by 0 without. -/
def State.permitsHold (s : State) : Prop :=
  canonical Lane.cold s.pu.lanes = true ∧
  (∀ n k, (s.lane n).permit = some k → n ∈ laneNumbers ∧ (s.person? k.person).bind (·.permitLane) = some n ∧
    fromStateOk k.direction k.fromState = true) ∧
    (∀ p r n, s.person? p = some r → r.permitLane = some n → ((s.lane n).permit.map (·.person)) = some p) ∧
    ∀ n, (s.lane n).tallies.granted < Config.topTally →
      (s.lane n).tallies.granted = (s.lane n).tallies.ended + (if (s.lane n).permit.isSome then 1 else 0)

/-- R65, R66, R68: a cabin's bound lock is the enrolled CABIN lock that names the cabin; a push list names a lock once; and
a CABIN lock heard from has acknowledged no more than its cabin's key generation, with an entry exactly while less. -/
def State.pushesHold (s : State) : Prop :=
  (∀ c g st, (s.cabin c).lock = some (g, st) ↔ ∃ k, s.lock? g st = some k ∧ k.kind = .cabin c) ∧
  (∀ g, (s.seg g).pushes.Nodup) ∧
  ∀ g st k c a, s.lock? g st = some k → k.kind = .cabin c → k.ackGen = some a →
    a ≤ (s.cabin c).keyGen ∧ (st ∈ (s.seg g).pushes ↔ a < (s.cabin c).keyGen)

/-- R89: the running total of the tab a reference names. -/
def State.totalOf (s : State) (ref : TabRef) : Nat := ((s.slot ref.slot).tab.map (·.total)).getD 0

/-- R4, R87, R88: a list of tab references names open tabs, each once. -/
def State.refsOpen (s : State) (refs : List TabRef) (owns : Tab → Prop) : Prop :=
  refs.Nodup ∧ ∀ ref ∈ refs, ∃ x, s.slot ref.slot = { use := ref.use, tab := some x } ∧ owns x

/-- R4, R87 to R89: the tab store agrees with the lists of the persons and the terminals, the held amounts with the
running totals, and the limits hold. -/
def State.tabsHold (s : State) : Prop :=
  (∀ n x, (s.slot n).tab = some x → n < Config.tabSlots ∧ x.lines.length ≤ Config.tabLines ∧
    (s.terminal x.terminal).venue = some x.venue ∧
    { slot := n, use := (s.slot n).use } ∈ (s.terminal x.terminal).tabs ∧
    ∃ r, s.person? x.person = some r ∧ { slot := n, use := (s.slot n).use } ∈ r.tabs) ∧
  (∀ p r, s.person? p = some r → s.refsOpen r.tabs (fun x => x.person = p) ∧ r.tabs.length ≤ Config.personTabs ∧
    r.folio.held = (r.tabs.map s.totalOf).sum ∧
    (r.tabs ≠ [] → r.presence ≠ .notEmbarked ∧ r.presence ≠ .disembarked)) ∧
  ∀ m, s.refsOpen (s.terminal m).tabs (fun x => x.terminal = m) ∧ (s.terminal m).tabs.length ≤ Config.terminalTabs

/-- The invariants together. -/
def State.allHold (s : State) : Prop :=
  s.countsHold ∧ s.queueHolds ∧ s.daysHold ∧ s.modesHold ∧ s.foliosHold ∧ s.servingsHold ∧ s.linksHold ∧
    s.segmentsHold ∧ s.settingsHold ∧ s.clocksHold ∧ s.permitsHold ∧ s.cardsHold ∧ s.cabinsHold ∧ s.pushesHold ∧ s.tabsHold

/-- The canonical form of every table: numbers strictly rising, and no record listed that reads as the cleared one. -/
def State.tablesCanonical (s : State) : Bool :=
  canonical Link.cold s.lk && rising s.pt && rising s.ci.entries && canonical Cabin.cold s.ct &&
    canonical Lane.cold s.pu.lanes && canonical Segment.cold s.sc && (s.sc.all fun e => rising e.2.roster) &&
    canonical Slot.cold s.tu.slots && canonical Terminal.cold s.tu.terminals &&
    canonical coldVenue s.cc.venues && canonical ClassRow.cold s.cc.classes && canonical 0#16 s.cc.restrictions

end Sys2Proof.Machine
end

