-- ==== Sys2Proof/Certificates/Slice0/Obligations.lean ====
section
/-! DEFINITION. The statements for the provers. `accepts` says that PP can hand a purser command to its owner (R171, R172;
log 1), `takeFrame` that an owner can take a frame, with the state it then meets (R168; log 2), and `takesEvents` that
SUPM is present and the RESET line inactive (R156, R157). -/

open Sys2Proof Sys2Proof.Machine

/-! ### The machine -/

/-- A step with a command at the front of the queue is that command on the state with the queue's rest. -/
def Obligations.StepRunsFront : Prop :=
  ∀ (c : Instr) (rest : List Instr) (s : State), step { s with pending := c :: rest } = exec c { s with pending := rest }

/-- Every command and event answers a next state, with the queue as it was. R156, R157: while SUPM is absent or the RESET
line is active only the pins act, and answer reads. Log 3: an event that is not taken leaves the state as it was. -/
def Obligations.ExecAnswersNext : Prop :=
  (∀ (i : Instr) (s : State), ∃ t, exec i s = .next t ∧ t.pending = s.pending) ∧
    ∀ (i : Instr) (s : State), s.takesEvents = false → actsWithoutEvents i = false → exec i s = .next s

/-- The model's choice, logs 4 to 6: with nothing waiting, no command of log 44 to be answered and no event of its own due
the part lets one millisecond pass. R152: the ship clock gains a second with every thousandth while any supply is present, and stops at its top.
R154: the elapsed base gains one while SUPM is present; what follows the top of its 48 bits is open, log 34. R79: the
doze counter of a segment in DOZE does too. R159: while SUPM is present the filter of the MUSTER line measures a level
that is not its own, and takes it at 50 ms. -/
def Obligations.IdleMillisecond : Prop :=
  ∀ s : State, s.pending = [] → s.unlisted? = none → s.nextDue = none → ∃ t, step s = .next t ∧
    let moves : Bool := s.sck.supm && s.sck.musterLine ≠ s.sck.musterLevel
    (s.sck.supm = false → t.sck.elapsed = s.sck.elapsed) ∧
    (s.sck.supm = true → s.sck.elapsed < 281474976710655 → t.sck.elapsed = s.sck.elapsed + 1) ∧
    t.sck.clock = (if (s.sck.supm || s.sck.supb) ∧ 999 ≤ s.sck.ms ∧ s.sck.clock < 4294967295 then s.sck.clock + 1
      else s.sck.clock) ∧
    t.sck.ms = (if s.sck.supm || s.sck.supb then (if s.sck.ms < 999 then s.sck.ms + 1 else 0) else s.sck.ms) ∧
    t.sck.musterLevel = (if moves ∧ 49 ≤ s.sck.musterHold then s.sck.musterLine else s.sck.musterLevel) ∧
    t.sck.musterHold = (if moves ∧ s.sck.musterHold < 49 then s.sck.musterHold + 1
      else if s.sck.supm then 0 else s.sck.musterHold) ∧
    (∀ g, t.seg g = { s.seg g with dozeCount := (t.seg g).dozeCount } ∧
      let dozes : Prop := s.sck.supm = true ∧ g ≤ 3 ∧ (s.link (segLink g)).state = .doze
      (¬dozes → (t.seg g).dozeCount = (s.seg g).dozeCount) ∧
      (dozes → (s.seg g).dozeCount < 281474976710655 → (t.seg g).dozeCount = (s.seg g).dozeCount + 1)) ∧
    t = { s with sc := t.sc, sck := { s.sck with
      elapsed := t.sck.elapsed, clock := t.sck.clock, ms := t.sck.ms, musterLevel := t.sck.musterLevel
      musterHold := t.sck.musterHold } }

/-! ### Frames -/

/-- R167, R174 to R176: a frame laid out with its check, of a kind, length and coded fields that a hub sends on the link,
passes every check and is read back whole; and the step that takes a station frame is read back from its frame, which
has such a kind, length and coded fields. -/
def Obligations.FrameRoundTrip : Prop :=
  (∀ (n : Nat) (f : Frame), f.station < 65536 → hubBodyLength n f.kind = some f.body.length →
    codedFieldsOk f.kind f.body = true → checkFrame n f.bytes = .good f) ∧
  ∀ (i : Instr) (n : Nat) (f : Frame), i.wf = true → i.stationFrame = some (n, f) →
    decodeStation n f = some i ∧ hubBodyLength n f.kind = some f.body.length ∧ codedFieldsOk f.kind f.body = true

/-- R172, R174, R177, R178, R180: a well-formed purser command laid out as its command frame passes every check and is
read back with every field. The layout of an unbound BIND TERMINAL is the model's reading, log 45. -/
def Obligations.CommandRoundTrip : Prop :=
  ∀ (i : Instr) (code : Nat) (tag : Tag) (body : List Byte), i.wf = true → i.command = some (code, tag, body) →
    body.length < 65536 → checkCommand (commandBytes code tag body) = .command i

/-! ### Invariants that every step keeps -/

/-- R25: each presence count stays the number of OCCUPIED persons in its state. -/
def Obligations.StepKeepsCounts : Prop := ∀ s t : State, s.countsHold → step s = .next t → t.countsHold

/-- R125: the posting queue stays within 4,096 records numbered one after another up to the next number. -/
def Obligations.StepKeepsQueue : Prop := ∀ s t : State, s.queueHolds → step s = .next t → t.queueHolds

/-- R155: no person's day number exceeds the open day; nor does a revoked day (R146). -/
def Obligations.StepKeepsDays : Prop := ∀ s t : State, s.daysHold → step s = .next t → t.daysHold

/-- R3, R112, R117: the folio's amounts stay in their ranges, and serving lists within six entries, in order of stamps,
none later than the current minute. -/
def Obligations.StepKeepsFolios : Prop :=
  ∀ s t : State, s.foliosHold → s.servingsHold → step s = .next t → t.foliosHold ∧ t.servingsHold

/-- R27, R36: every lane's effective mode stays the one derived from its configured mode; permits granted stays in balance
with the permits ended and held, and lanes and persons name each other. -/
def Obligations.StepKeepsLanes : Prop :=
  ∀ s t : State, s.modesHold → s.permitsHold → step s = .next t → t.modesHold ∧ t.permitsHold

/-- R28, R74, R75, R79, R82, R113, R114, R116: a segment's cursor, unreachable count, doze counter and settings, and the
windows, rates and caps of the other settings, stay in their ranges. R152, R154, R159: so do the ship clock, the elapsed
base and the measure of the MUSTER line's filter. -/
def Obligations.StepKeepsRanges : Prop :=
  ∀ s t : State, s.segmentsHold → s.settingsHold → s.clocksHold → step s = .next t →
    t.segmentsHold ∧ t.settingsHold ∧ t.clocksHold

/-- R163 to R169: links keep three previous states, at most 16 queued frames, no frame or answer outside UP and DOZE,
an attempt of 1 to 3 in TRAINING and 0 outside it, and DOZE on the lock segments alone. -/
def Obligations.StepKeepsLinks : Prop := ∀ s t : State, s.linksHold → step s = .next t → t.linksHold

/-- R5, R11 to R13: persons' active cards and ACTIVE entries stay in pairs, and the revocation order names each REVOKED
entry once. -/
def Obligations.StepKeepsCards : Prop := ∀ s t : State, s.cardsHold → step s = .next t → t.cardsHold

/-- R6, R10, R17: a cabin's occupants stay the persons whose cabin it is, each once, at most six, the cabin in use. -/
def Obligations.StepKeepsCabins : Prop := ∀ s t : State, s.cabinsHold → step s = .next t → t.cabinsHold

/-- R68, R65, R66: an enrolled CABIN lock heard from never acknowledges above its cabin's key generation and is on its
segment's push list, once, exactly while it is below it; cabins and enrolled locks name each other. -/
def Obligations.StepKeepsPushes : Prop :=
  ∀ s t : State, s.tablesCanonical = true → s.pushesHold → step s = .next t → t.pushesHold

/-- R4, R87 to R89: every open tab is in its person's and its terminal's list and those lists name open tabs alone; each
person's held amount is the sum of the running totals of the person's tabs, and the person is on the ship's books as
ABOARD, ASHORE or DISPUTED; the lists and the tabs stay within their limits. -/
def Obligations.StepKeepsTabs : Prop :=
  ∀ s t : State, s.tablesCanonical = true → s.tabsHold → step s = .next t → t.tabsHold

/-- Every table stays in its canonical form, so equal tables are equal data. -/
def Obligations.StepKeepsTables : Prop :=
  ∀ s t : State, s.tablesCanonical = true → step s = .next t → t.tablesCanonical = true

/-- The state after reset meets every invariant. -/
def Obligations.ResetHolds : Prop := State.reset.allHold ∧ State.reset.tablesCanonical = true

/-- R23, R44, R85, R106, R123, R135, R151, R157, R164, R165, R171, R187: what a COLD reset leaves at every block. The
MUSTER line is taken as inactive, log 15. -/
def Obligations.ResetValues : Prop :=
  let s := State.reset
  (∀ p, s.person? p = none) ∧ (∀ serial, s.card? serial = none) ∧ s.ci.order = [] ∧
    (∀ c, s.cabin c = { inUse := false, label := 0, occupants := [], keyGen := 0, lock := none }) ∧
    s.pu.counts = { notEmbarked := 0, aboard := 0, ashore := 0, disputed := 0, disembarked := 0 } ∧
    (∀ n, s.lane n = { point := 0, configured := .closed, effective := .closed, permit := none,
                       tallies := ⟨0, 0, 0, 0, 0, 0⟩ }) ∧
    s.pu.permitWindow = 10 ∧ s.pu.deadline.armed = false ∧ s.pu.deadline.passed = false ∧ s.pu.snapshot = none ∧
    s.pu.evidence = [] ∧
    (∀ g, (s.seg g).roster = [] ∧ (s.seg g).pushes = [] ∧ (s.seg g).fetches = [] ∧ (s.seg g).cursor = 1 ∧
      (s.seg g).unreachable = 0 ∧ (s.seg g).dozeCount = 0 ∧ (s.seg g).dozeTimer = 0 ∧ (s.seg g).spacing = 200 ∧
      (s.seg g).windowAsked = 15 ∧ (s.seg g).window = 15 ∧ (s.seg g).wanted = false ∧ (s.seg g).due = .none ∧
      (s.seg g).outstanding = none) ∧
    (∀ n, s.slot n = { use := 0, tab := none }) ∧ (∀ n, s.terminal n = { venue := none, tabs := [] }) ∧
    s.tu.holds = 0 ∧
    (∀ v, s.venue v = { inUse := false, serviceRate := 0, serviceApplies := false, taxRate := 0, taxable := false,
                        classDiscount := false }) ∧
    (∀ c, s.classRow c = { rate := 0, cap := none }) ∧ s.cc.capped = 0 ∧ s.cc.window = 60 ∧ s.cc.tax = .sea ∧
    (∀ c v, s.barred c v = 0) ∧ s.pq.records = [] ∧ s.pq.next = 1 ∧ s.pq.unposted = 0 ∧
    s.oe = { kind := none, first := 0, last := 0, state := .idle, phase := none, cursor := 0, result := none,
             processed := 0, reason1 := 0, reason2 := 0, reason3 := 0, musterSeen := false, clockSetSeen := false } ∧
    (∀ k, s.nfu.pending.getLsbD k = decide (k = 0)) ∧ s.nfu.enables = 0 ∧ s.nfu.status = 0 ∧ s.nfu.first = none ∧
    s.nfu.masks = 0 ∧ s.nfu.severe = 0 ∧ s.nfu.refusalRecord = 0 ∧ s.nfu.refusalNotice = 0 ∧ s.attnLow = false ∧
    s.pp.port = .empty ∧
    (∀ n, (s.link n).state = .training ∧ (s.link n).history = [.down, .down, .down] ∧ (s.link n).attempt = 1 ∧
      (s.link n).intake = [] ∧ (s.link n).answers = []) ∧
    s.sck.clock = 0 ∧ s.sck.clockSet = false ∧ s.sck.elapsed = 0 ∧ s.sck.openDay = 1 ∧ s.sck.muster = false ∧
    s.sck.mark = true ∧ s.sck.lastReset = .cold

/-! ### Persons, cards and cabins -/

/-- R7: SET CABIN and its three refusals: the flag and the label alone change. -/
def Obligations.SetCabinWrites : Prop :=
  ∀ (tag : Tag) (c : Nat) (inUse : Bool) (label : Nat) (s : State), s.accepts (.setCabin tag c inUse label) = true →
    exec (.setCabin tag c inUse label) s = .next (
      if 2047 < c then s.answered tag .range []
      else if inUse = false ∧ (s.cabin c).occupants ≠ [] then s.answered tag .notEmpty []
      else if inUse = false ∧ (s.cabin c).lock ≠ none then s.answered tag .inUse []
      else { s with ct := setD s.ct c Cabin.cold { s.cabin c with inUse := inUse, label := label } }.answered tag .ok [])

/-- R8: ADMIT PERSON: its refusals in their order, and the new record of a FREE number with every field in range and room
in an in-use cabin, at the tail of its cabin's occupants, counted NOT_EMBARKED. -/
def Obligations.AdmitPersonCreates : Prop :=
  ∀ (tag : Tag) (a : Admission) (s : State), s.accepts (.admitPerson tag a) = true →
    let run := exec (.admitPerson tag a) s
    let inRange : Prop := a.person ≤ 8191 ∧ a.cls ≤ 7 ∧ (∀ c, a.cabin = some c → c ≤ 2047) ∧
      a.creditLimit ≤ 999999999 ∧ ∀ d, a.dailyLimit = some d → d ≤ 999999999
    (¬inRange → run = .next (s.answered tag .range [])) ∧
    (inRange → s.person? a.person ≠ none → run = .next (s.answered tag .inUse [])) ∧
    (∀ c, a.cabin = some c → inRange → s.person? a.person = none →
      ((s.cabin c).inUse = false → run = .next (s.answered tag .notFound [])) ∧
      ((s.cabin c).inUse = true → 6 ≤ (s.cabin c).occupants.length →
        run = .next (s.answered tag .occupantsFull []))) ∧
    (inRange → s.person? a.person = none →
      (∀ c, a.cabin = some c → (s.cabin c).inUse = true ∧ (s.cabin c).occupants.length < 6) → ∃ t, run = .next t ∧
        t.person? a.person = some {
          cls := a.cls, cabin := a.cabin, master := a.master, holdAboard := a.holdAboard, reissueDue := false
          areas := a.areas, card := none
          folio := { balance := 0, creditLimit := a.creditLimit, held := 0, dailyLimit := a.dailyLimit, dailySpend := 0
                     day := s.sck.openDay }
          tabs := [], servings := [], presence := .notEmbarked, ashoreSince := none, permitLane := none
          lastLane := none, lastCrossing := none } ∧
        (∀ q, q ≠ a.person → t.person? q = s.person? q) ∧
        (∀ c, t.cabin c = if a.cabin = some c then { s.cabin c with occupants := (s.cabin c).occupants ++ [a.person] }
          else s.cabin c) ∧
        t = { s with
          pt := t.pt, ct := t.ct
          pu := { s.pu with counts := { s.pu.counts with notEmbarked := s.pu.counts.notEmbarked + 1 } }
          pp := { s.pp with port := .answered tag .ok [] } })

/-- R9, R10, R14, R17: AMEND PERSON: its refusals in their order; one that names no cabin, or the cabin the person has,
changes the named fields alone; one that names another cabin, or absent, writes them and takes the person out of the old
occupants list, whose cabin is rekeyed, and onto the tail of the new one, which is not. Reissue due is set when the active
card carries another generation than the new cabin's, and for the occupants of the old one whom its rekey leaves
behind. -/
def Obligations.AmendPersonWrites : Prop :=
  ∀ (tag : Tag) (p : Nat) (a : Amendment) (s : State), s.accepts (.amendPerson tag p a) = true →
    let run := exec (.amendPerson tag p a) s
    let inRange : Prop := p ≤ 8191 ∧ (∀ c, a.cls = some c → c ≤ 7) ∧ (∀ c, a.cabin = some (some c) → c ≤ 2047) ∧
      (∀ n, a.creditLimit = some n → n ≤ 999999999) ∧ ∀ n, a.dailyLimit = some (some n) → n ≤ 999999999
    (¬inRange → run = .next (s.answered tag .range [])) ∧
    (inRange → s.person? p = none → run = .next (s.answered tag .notFound [])) ∧
    ∀ r, s.person? p = some r → inRange →
      let named : Person := { r with
        cls := a.cls.getD r.cls
        master := a.master.getD r.master
        holdAboard := a.holdAboard.getD r.holdAboard
        areas := a.areas.getD r.areas
        folio := { r.folio with
          creditLimit := a.creditLimit.getD r.folio.creditLimit
          dailyLimit := a.dailyLimit.getD r.folio.dailyLimit } }
      let barred : Prop := r.presence = .disembarked ∧ ∃ c, a.cabin = some (some c)
      (barred → run = .next (s.answered tag .presence [])) ∧
      (∀ c, a.cabin = some (some c) → r.presence ≠ .disembarked → r.cabin ≠ some c →
        ((s.cabin c).inUse = false → run = .next (s.answered tag .notFound [])) ∧
        ((s.cabin c).inUse = true → 6 ≤ (s.cabin c).occupants.length →
          run = .next (s.answered tag .occupantsFull []))) ∧
      ((a.cabin = none ∨ a.cabin = some r.cabin) → ¬barred →
        run = .next ({ s with pt := insert s.pt p named }.answered tag .ok [])) ∧
      ∀ new, a.cabin = some new → new ≠ r.cabin → ¬barred →
        (∀ c, new = some c → (s.cabin c).inUse = true ∧ (s.cabin c).occupants.length < 6) → ∃ t, run = .next t ∧
          t.person? p = some { named with
            cabin := new
            reissueDue := r.reissueDue || new.any fun c => (s.activeGen? r).any fun g => g ≠ (s.cabin c).keyGen } ∧
          (∀ o, t.cabin o = if new = some o then { s.cabin o with occupants := (s.cabin o).occupants ++ [p] }
            else if r.cabin = some o then (s.cabin o).left p else s.cabin o) ∧
          s.othersMarked t p r.cabin ∧ s.handedPush t (s.rekeyLock r.cabin) ∧
          t = { s with pt := t.pt, ct := t.ct, sc := t.sc, lk := t.lk, nfu := s.pushNotices (s.rekeyLock r.cabin)
                       pp := { s.pp with port := .answered tag .ok [] } }

/-- R11 to R14: ISSUE CARD: its refusals in their order. Without an active card the new ACTIVE entry carries the person,
the cabin's key generation and the ship time. One that replaces an ACTIVE card has the old card REVOKED with the open day
and joined to the revocation order, the cabin rekeyed with reissue due set for its cabinmates, and carries the generation
after the rekey. In a full index the entry that was the oldest REVOKED one before the command gives way. -/
def Obligations.IssueCardIssues : Prop :=
  ∀ (tag : Tag) (p : Nat) (serial : Serial) (s : State), s.accepts (.issueCard tag p serial) = true →
    let run := exec (.issueCard tag p serial) s
    (8191 < p → run = .next (s.answered tag .range [])) ∧
    (p ≤ 8191 → s.person? p = none → run = .next (s.answered tag .notFound [])) ∧
    ∀ r, p ≤ 8191 → s.person? p = some r →
      (r.presence = .disembarked → run = .next (s.answered tag .presence [])) ∧
      (r.presence ≠ .disembarked → s.card? serial ≠ none → run = .next (s.answered tag .inUse [])) ∧
      (r.presence ≠ .disembarked → s.card? serial = none → 12288 ≤ s.ci.entries.length → s.ci.order = [] →
        run = .next (s.answered tag .full [])) ∧
      ∀ oldest rest, r.presence ≠ .disembarked → s.card? serial = none →
        (s.ci.entries.length < 12288 ∨ s.ci.order = oldest :: rest) →
        let full : Prop := 12288 ≤ s.ci.entries.length
        (r.card = none →
          let gen := match r.cabin with
            | some c => (s.cabin c).keyGen
            | none => 0
          let entry : Card := { person := p, generation := gen, state := .active, issueTime := s.sck.clock }
          let kept : CardIndex := if full then { entries := erase s.ci.entries oldest.toNat, order := rest } else s.ci
          run = .next ({ s with
            ci := { kept with entries := insert kept.entries serial.toNat entry }
            pt := insert s.pt p { r with card := some serial, reissueDue := false } }.answered tag .ok
              (be 2 gen ++ opt (be 2) r.cabin ++ [0]))) ∧
        ∀ old e, r.card = some old → s.card? old = some e → e.person = p → rising s.ci.entries = true →
          let gen := match r.cabin with
            | some c => (s.cabin c).rekeyed.keyGen
            | none => 0
          let lock := s.rekeyLock r.cabin
          let body := be 2 gen ++ opt (be 2) r.cabin ++ 1 :: serialBytes old
          ∃ t, run = .next t ∧
            (∀ k, t.card? k =
              if k = serial then
                some { person := p, generation := gen, state := .active, issueTime := s.sck.clock }
              else if full ∧ k = oldest then none
              else if k = old then some { e with state := .revoked s.sck.openDay }
              else s.card? k) ∧
            t.ci.order = (if full then rest else s.ci.order) ++ [old] ∧
            t.person? p = some { r with card := some serial, reissueDue := false } ∧ s.othersMarked t p r.cabin ∧
            (∀ c, t.cabin c = if r.cabin = some c then (s.cabin c).rekeyed else s.cabin c) ∧ s.handedPush t lock ∧
            t = { s with pt := t.pt, ci := t.ci, ct := t.ct, sc := t.sc, lk := t.lk, nfu := s.pushNotices lock
                         pp := { s.pp with port := .answered tag .ok body } }

/-- R13, R14: REVOKE CARD of an ACTIVE serial: the entry becomes REVOKED with the open day, joins the revocation order and
leaves its person, whose cabin is rekeyed with reissue due set for the cabinmates; the answer carries the person, the
cabin and its key generation. An unknown serial is refused NOT_FOUND and a REVOKED one REVOKED. That the cabin and its
key generation have a presence byte each in the answer is the model's reading, log 12. -/
def Obligations.RevokeCardRevokes : Prop :=
  ∀ (tag : Tag) (serial : Serial) (s : State), s.accepts (.revokeCard tag serial) = true →
    (s.card? serial = none → exec (.revokeCard tag serial) s = .next (s.answered tag .notFound [])) ∧
    (∀ e day, s.card? serial = some e → e.state = .revoked day →
      exec (.revokeCard tag serial) s = .next (s.answered tag .revoked [])) ∧
    ∀ e r, s.card? serial = some e → e.state = .active → s.person? e.person = some r →
      let lock := s.rekeyLock r.cabin
      let body := be 2 e.person ++ opt (be 2) r.cabin ++ opt (fun c => be 2 (s.cabin c).rekeyed.keyGen) r.cabin
      ∃ t, exec (.revokeCard tag serial) s = .next t ∧ s.cardRevoked t (some serial) ∧
        t.person? e.person = some { r with card := none } ∧ s.othersMarked t e.person r.cabin ∧
        (∀ c, t.cabin c = if r.cabin = some c then (s.cabin c).rekeyed else s.cabin c) ∧ s.handedPush t lock ∧
        t = { s with pt := t.pt, ci := t.ci, ct := t.ct, sc := t.sc, lk := t.lk, nfu := s.pushNotices lock
                     pp := { s.pp with port := .answered tag .ok body } }

/-- R14, R15: REKEY CABIN: its refusals in their order; at an in-use cabin below 65,535 the key generation rises by 1; a
bound lock has its push entry, an entry already there keeping its place; every occupant whose active card is below the new
generation has reissue due set, and nobody else. The answer carries the generation and whether a lock is bound. -/
def Obligations.RekeyCabinRekeys : Prop :=
  ∀ (tag : Tag) (c : Nat) (s : State), s.accepts (.rekeyCabin tag c) = true →
    let run := exec (.rekeyCabin tag c) s
    (2047 < c → run = .next (s.answered tag .range [])) ∧
    (c ≤ 2047 → (s.cabin c).inUse = false → run = .next (s.answered tag .notFound [])) ∧
    (c ≤ 2047 → (s.cabin c).inUse = true → 65535 ≤ (s.cabin c).keyGen →
      run = .next (s.answered tag .genLimit [])) ∧
    (c ≤ 2047 → (s.cabin c).inUse = true → (s.cabin c).keyGen < 65535 →
      let body := be 2 ((s.cabin c).keyGen + 1) ++ flagByte (s.cabin c).lock.isSome
      ∃ t, run = .next t ∧
        (∀ o, t.cabin o = if o = c then { s.cabin c with keyGen := (s.cabin c).keyGen + 1 } else s.cabin o) ∧
        s.handedPush t (s.cabin c).lock ∧
        (∀ q, t.person? q = (s.person? q).map fun r => { r with
          reissueDue := r.reissueDue || (decide (q ∈ (s.cabin c).occupants) &&
            (s.activeGen? r).any fun g => g < (s.cabin c).keyGen + 1) }) ∧
        t = { s with pt := t.pt, ct := t.ct, sc := t.sc, lk := t.lk, nfu := s.pushNotices (s.cabin c).lock
                     pp := { s.pp with port := .answered tag .ok body } })

/-- R18, R19, R14, R22, R31, R89: RELEASE PERSON: its refusals, and the release of a NOT_EMBARKED or DISEMBARKED person without tabs or
permit, whose balance is 0 or is written off with charging room: the record becomes FREE, leaves its count and its cabin,
its card is revoked, the cabin is rekeyed once, its evidence is dropped, and a written-off balance is appended as a
FOLIO_FINAL, with the notices of the append and of a woken segment. That a person with an open tab or a permit is refused
TABS_OPEN (R22, R89) or IN_TRANSIT (R31) whatever the presence, which R18 lists before them, is the model's choice, log
35. -/
def Obligations.ReleasePersonFrees : Prop :=
  ∀ (tag : Tag) (p : Nat) (writeOff : Bool) (s : State), s.accepts (.releasePerson tag p writeOff) = true →
    let run := exec (.releasePerson tag p writeOff) s
    (8191 < p → run = .next (s.answered tag .range [])) ∧
    (p ≤ 8191 → s.person? p = none → run = .next (s.answered tag .notFound [])) ∧
    ∀ r, p ≤ 8191 → s.person? p = some r →
      let off : Prop := r.presence = .notEmbarked ∨ r.presence = .disembarked
      (r.tabs ≠ [] → run = .next (s.answered tag .tabsOpen [])) ∧
      (r.tabs = [] → r.permitLane ≠ none → run = .next (s.answered tag .inTransit [])) ∧
      (r.tabs = [] → r.permitLane = none → ¬off → run = .next (s.answered tag .presence [])) ∧
      (off → r.tabs = [] → r.permitLane = none → r.folio.balance ≠ 0 →
        (writeOff = false → run = .next (s.answered tag .balanceOpen [])) ∧
        (writeOff = true → s.room < 1 → run = .next (s.answered tag .queueFull []))) ∧
      (off → r.tabs = [] → r.permitLane = none → (r.folio.balance = 0 ∨ writeOff = true ∧ 1 ≤ s.room) →
        (∀ serial, r.card = some serial → ∃ e, s.card? serial = some e ∧ e.person = p) →
        let lock := s.rekeyLock r.cabin
        let queued : State := if r.folio.balance = 0 then s
          else s.append s.sck.clock (some p) r.folio.day (.folioFinal r.folio.balance)
        ∃ t, run = .next t ∧ t.person? p = none ∧
          s.othersMarked t p r.cabin ∧ s.cardRevoked t r.card ∧ s.handedPush t lock ∧
          t.pu.counts = s.pu.counts.put (s.pu.counts.of r.presence - 1) r.presence ∧
          t.pu.evidence = s.pu.evidence.filter (fun e => e.person ≠ p) ∧
          (∀ c, t.cabin c = if r.cabin = some c then (s.cabin c).left p else s.cabin c) ∧
          t = { queued with pt := t.pt, ct := t.ct, ci := t.ci, sc := t.sc, lk := t.lk, nfu := queued.pushNotices lock
                            pu := { s.pu with counts := t.pu.counts, evidence := t.pu.evidence }
                            pp := { s.pp with port := .answered tag .ok (be4Signed r.folio.balance) } })

/-- R20, R112: POST PAYMENT of an amount in range to an OCCUPIED person: the balance changes by the amount, held within
plus and minus 999,999,999; the answer carries it and whether it saturated. -/
def Obligations.PostPaymentAdds : Prop :=
  ∀ (tag : Tag) (p : Nat) (amount : Int) (s : State), s.accepts (.postPayment tag p amount) = true →
    ((8191 < p ∨ amount < -999999999 ∨ 999999999 < amount) →
      exec (.postPayment tag p amount) s = .next (s.answered tag .range [])) ∧
    (p ≤ 8191 → -999999999 ≤ amount → amount ≤ 999999999 → s.person? p = none →
      exec (.postPayment tag p amount) s = .next (s.answered tag .notFound [])) ∧
    ∀ r, p ≤ 8191 → -999999999 ≤ amount → amount ≤ 999999999 → s.person? p = some r →
      let sum := r.folio.balance + amount
      let balance := max (-999999999) (min 999999999 sum)
      exec (.postPayment tag p amount) s = .next ({ s with
        pt := insert s.pt p { r with folio := { r.folio with balance := balance } } }.answered tag .ok
          (be4Signed balance ++ flagByte (sum ≠ balance)))

/-! ### Reading -/

/-- R21, R43, R84, R104, R122, R149, R161, R170, R183, R186: the reading commands change nothing but PP's answer, and
carry the figures their rules list, or the refusal of a number out of range or an unknown serial. The byte forms of the
answers are those of R174 and R178 as logs 12 and 13 read them; what a record that holds no lock reads as is log 36, and
the time left to an end that is past is log 41, and unbound as an absent venue log 45; the milliseconds of READ LINK before a good frame has come, or beyond its
four bytes, are free values, log 9. -/
def Obligations.ReadsChangeNothing : Prop :=
  ∀ (tag : Tag) (s : State),
    (∀ p, 8191 < p → s.accepts (.readPerson tag p) = true →
      exec (.readPerson tag p) s = .next (s.answered tag .range [])) ∧
    (∀ serial, s.card? serial = none → s.accepts (.readCard tag serial) = true →
      exec (.readCard tag serial) s = .next (s.answered tag .notFound [])) ∧
    (∀ c, 2047 < c → s.accepts (.readCabin tag c) = true →
      exec (.readCabin tag c) s = .next (s.answered tag .range [])) ∧
    (∀ g first count, (3 < g ∨ first < 1 ∨ count < 1 ∨ 601 < first + count) →
      s.accepts (.readSegment tag g first count) = true →
      exec (.readSegment tag g first count) s = .next (s.answered tag .range [])) ∧
    (∀ n, 255 < n → s.accepts (.readTab tag n) = true →
      exec (.readTab tag n) s = .next (s.answered tag .range [])) ∧
    (∀ n, (n < 1 ∨ 64 < n) → s.accepts (.readTerminal tag n) = true →
      exec (.readTerminal tag n) s = .next (s.answered tag .range [])) ∧
    (∀ n, 5 < n → s.accepts (.readLink tag n) = true →
      exec (.readLink tag n) s = .next (s.answered tag .range [])) ∧
    (∀ p, p ≤ 8191 → s.accepts (.readPerson tag p) = true → exec (.readPerson tag p) s = .next (s.answered tag .ok
      (match s.person? p with
        | none => [0]
        | some r => 1 :: r.bytes))) ∧
    (∀ serial e, s.card? serial = some e → s.accepts (.readCard tag serial) = true →
      exec (.readCard tag serial) s = .next (s.answered tag .ok (cardBytes serial e))) ∧
    (∀ c, c ≤ 2047 → s.accepts (.readCabin tag c) = true → exec (.readCabin tag c) s = .next (s.answered tag .ok
      (flagByte (s.cabin c).inUse ++ be 2 (s.cabin c).label ++ listOf (be 2) (s.cabin c).occupants ++
        be 2 (s.cabin c).keyGen ++ lockBytes (s.cabin c).lock))) ∧
    (s.accepts (.readCounts tag) = true → exec (.readCounts tag) s = .next (s.answered tag .ok
      (let c := s.pu.counts
       let d := s.pu.deadline
       let overdue := if d.armed && d.passed then c.ashore else 0
       be 4 c.notEmbarked ++ be 4 c.aboard ++ be 4 c.ashore ++ be 4 c.disputed ++ be 4 c.disembarked ++ be 4 overdue ++
         flagByte d.armed ++ be 4 d.time ++ flagByte d.passed ++ be 4 s.pu.permitWindow ++
         [1, 2, 3, 4, 5, 6, 7, 8].flatMap (fun n =>
           let l := s.lane n
           be 1 l.point ++ be 1 l.configured.code ++ be 1 l.effective.code ++
             opt (fun k => be 2 k.person ++ be 1 k.direction.code ++ be 1 k.fromState.code ++
               be 6 (k.expiry - s.sck.elapsed)) l.permit ++
             be 2 l.tallies.granted ++ be 2 l.tallies.outward ++ be 2 l.tallies.inward ++ be 2 l.tallies.stale ++
             be 2 l.tallies.scanNoPass ++ be 2 l.tallies.passNoScan) ++
         opt (fun n => be 4 n.time ++ be 4 n.aboard ++ be 4 n.disputed ++ be 4 n.ashore ++ be 4 n.notEmbarked)
           s.pu.snapshot))) ∧
    (∀ g first count, g ≤ 3 → 1 ≤ first → 1 ≤ count → first + count ≤ 601 →
      s.accepts (.readSegment tag g first count) = true →
      exec (.readSegment tag g first count) s = .next (s.answered tag .ok
        (let c := s.seg g
         let l := s.link (segLink g)
         let record (st : Nat) : List Byte :=
           let k := (s.lock? g st).getD Lock.cleared
           flagByte (s.lock? g st).isSome ++ k.kind.bytes ++ flagByte k.excluded ++ be 1 k.state.code ++
             opt (be 2) k.ackGen ++ opt (be 6) k.lastContact ++ be 6 k.dozeAtContact ++
             flagsByte [k.status.battery, k.status.tamper, k.status.ajar, k.status.deadbolt] ++ be 1 k.release.code ++
             be 1 k.logCount ++ opt (fun d => be 6 (d - s.sck.elapsed)) (c.deadline? k)
         be 1 l.state.code ++ l.history.flatMap (fun x => be 1 x.code) ++ be 1 c.dozeTimer ++ be 4 c.spacing ++
           be 4 c.windowAsked ++ be 4 c.window ++ flagByte c.wanted ++ be 1 c.due.code ++ be 2 c.cursor ++
           be 4 c.unreachable ++ be 6 c.dozeCount ++ be 4 c.pushes.length ++ be 4 c.fetches.length ++
           be 2 c.pushes.length ++ c.pushes.flatMap (be 2) ++ be 2 count ++
           (List.range count).flatMap fun k => record (first + k)))) ∧
    (∀ n, n ≤ 255 → s.accepts (.readTab tag n) = true → exec (.readTab tag n) s = .next (s.answered tag .ok
      (be 1 (s.slot n).use ++ opt Tab.bytes (s.slot n).tab))) ∧
    (∀ n, 1 ≤ n → n ≤ 64 → s.accepts (.readTerminal tag n) = true → exec (.readTerminal tag n) s = .next (
      s.answered tag .ok (opt (be 1) (s.terminal n).venue ++ listOf refBytes (s.terminal n).tabs))) ∧
    (s.accepts (.readVenueSettings tag) = true →
      exec (.readVenueSettings tag) s = .next (s.answered tag .ok
        ((List.range 32).flatMap (fun v =>
            let x := s.venue v
            flagByte x.inUse ++ be 4 x.serviceRate ++ flagByte x.serviceApplies ++ be 4 x.taxRate ++
              flagByte x.taxable ++ flagByte x.classDiscount) ++
          (List.range 8).flatMap (fun c => be 4 (s.classRow c).rate ++ be 1 ((s.classRow c).cap.getD 7)) ++
          be 2 s.cc.capped.toNat ++ be 4 s.cc.window ++ be 1 s.cc.tax.code ++ be 4 s.tu.holds.toNat ++
          (List.range 8).flatMap (fun c => (List.range 32).flatMap fun v => be 2 (s.barred c v).toNat) ++
          be 4 s.nfu.refusalRecord.toNat ++ be 4 s.nfu.refusalNotice.toNat))) ∧
    (s.accepts (.readOperation tag) = true →
      exec (.readOperation tag) s = .next (s.answered tag .ok
        (let o := s.oe
         be 1 (OpKind.code o.kind) ++ be 2 o.first ++ be 2 o.last ++ be 1 o.state.code ++ be 1 (OpPhase.code o.phase) ++
           be 4 o.cursor ++ be 1 (OpResult.code o.result) ++ be 4 o.processed ++ be 4 o.reason1 ++ be 4 o.reason2 ++
           be 4 o.reason3 ++ flagByte o.musterSeen ++ flagByte o.clockSetSeen ++
           (if o.state = .waiting then be 4 1 ++ be 4 s.room else [])))) ∧
    (s.accepts (.readClock tag) = true → exec (.readClock tag) s = .next (s.answered tag .ok
      (be 4 s.sck.clock ++ flagByte s.sck.clockSet ++ be 6 s.sck.elapsed ++ be 4 s.sck.openDay ++
        flagByte (!s.sck.muster) ++ flagByte s.sck.musterLevel ++ flagByte (!s.sck.supb) ++
        be 1 (ResetKind.code s.sck.lastReset)))) ∧
    (∀ n, n ≤ 5 → s.accepts (.readLink tag n) = true → exec (.readLink tag n) s = .next (s.answered tag .ok
      (be 1 (s.link n).state.code ++ (s.link n).history.flatMap (fun x => be 1 x.code) ++ be 4 (s.link n).attempt ++
        be 4 (s.link n).intake.length ++ be 4 (match (s.link n).lastGood with
          | none => Config.unheardMs s.sck.elapsed
          | some t => if s.sck.elapsed - t < 4294967296 then s.sck.elapsed - t
              else Config.wideMs (s.sck.elapsed - t))))) ∧
    (s.accepts (.readNotices tag) = true → exec (.readNotices tag) s = .next (s.answered tag .ok
      (be 3 s.nfu.pending.toNat ++ be 3 s.nfu.enables.toNat))) ∧
    (s.accepts (.readFaults tag) = true → exec (.readFaults tag) s = .next (s.answered tag .ok
      (be 2 s.nfu.status.toNat ++ be 2 s.nfu.masks.toNat ++ faultKinds.flatMap (fun k => flagByte (s.nfu.isSevere k)) ++
        opt FaultRecord.bytes s.nfu.first)))

/-! ### Presence and the gangway lanes -/

/-- R28, R27, R37: SET LANE writes the point and the configured mode, derives the effective mode, and withdraws a held
permit when that is CLOSED; SET PERMIT WINDOW writes the window within 3 to 30 and touches no held permit. -/
def Obligations.GangwaySettings : Prop :=
  (∀ (tag : Tag) (n point : Nat) (mode : LaneMode) (s : State), s.accepts (.setLane tag n point mode) = true →
    ((n < 1 ∨ 8 < n ∨ 3 < point) → exec (.setLane tag n point mode) s = .next (s.answered tag .range [])) ∧
    (1 ≤ n → n ≤ 8 → point ≤ 3 →
      let eff := deriveMode (s.pu.deadline.passed || s.sck.muster) mode
      let ends : Bool := eff = .closed && (s.lane n).permit.isSome
      let counted := min 65535 ((s.lane n).tallies.scanNoPass + 1)
      ∃ t, exec (.setLane tag n point mode) s = .next t ∧
        t.lane n = { point := point, configured := mode, effective := eff
                     permit := if ends then none else (s.lane n).permit
                     tallies := if ends then { (s.lane n).tallies with scanNoPass := counted }
                       else (s.lane n).tallies } ∧
        (∀ k, k ≠ n → t.lane k = s.lane k) ∧
        (∀ q, t.person? q = (s.person? q).map fun r =>
          if ends && (s.lane n).permit.any (fun k => decide (k.person = q)) then { r with permitLane := none } else r) ∧
        t = { s with pt := t.pt, pu := { s.pu with lanes := t.pu.lanes }
                     pp := { s.pp with port := .answered tag .ok (be 1 eff.code) } })) ∧
  ∀ (tag : Tag) (seconds : Nat) (s : State), s.accepts (.setPermitWindow tag seconds) = true →
    let w := max 3 (min 30 seconds)
    exec (.setPermitWindow tag seconds) s =
      .next ({ s with pu := { s.pu with permitWindow := w } }.answered tag .ok (be 4 w))

/-- R39: SET PRESENCE, its refusals in their order, a state named again, and the change: the state and ashore-since
written, 1 moved between the counts, and on DISEMBARKED the removal from the cabin, the revocation and their one
rekey, which sets reissue due for the cabinmates (R14). -/
def Obligations.SetPresenceRecords : Prop :=
  ∀ (tag : Tag) (p : Nat) (new : Presence) (s : State), s.accepts (.setPresence tag p new) = true →
    ((8191 < p ∨ new = .disputed) → exec (.setPresence tag p new) s = .next (s.answered tag .range [])) ∧
    (p ≤ 8191 → new ≠ .disputed → s.person? p = none →
      exec (.setPresence tag p new) s = .next (s.answered tag .notFound [])) ∧
    ∀ r, p ≤ 8191 → new ≠ .disputed → s.person? p = some r →
      (r.permitLane ≠ none → exec (.setPresence tag p new) s = .next (s.answered tag .inTransit [])) ∧
      (r.permitLane = none → (new = .notEmbarked ∨ new = .disembarked) → r.tabs ≠ [] →
        exec (.setPresence tag p new) s = .next (s.answered tag .tabsOpen [])) ∧
      (r.permitLane = none → ((new = .notEmbarked ∨ new = .disembarked) → r.tabs = []) → r.presence = new →
        exec (.setPresence tag p new) s = .next (s.answered tag .ok (be 1 new.code ++ be 1 new.code))) ∧
      (r.permitLane = none → ((new = .notEmbarked ∨ new = .disembarked) → r.tabs = []) → r.presence ≠ new →
        (∀ serial, r.card = some serial → ∃ e, s.card? serial = some e ∧ e.person = p) →
        let cabin := if new = .disembarked then r.cabin else none
        let card := if new = .disembarked then r.card else none
        let lock := s.rekeyLock cabin
        ∃ t, exec (.setPresence tag p new) s = .next t ∧
          t.person? p = some { r with
            presence := new, ashoreSince := if new = .ashore then some s.sck.clock else none
            cabin := if new = .disembarked then none else r.cabin
            card := if new = .disembarked then none else r.card } ∧
          (∀ st, t.pu.counts.of st = if st = new then s.pu.counts.of st + 1
            else if st = r.presence then s.pu.counts.of st - 1 else s.pu.counts.of st) ∧
          s.othersMarked t p cabin ∧ s.cardRevoked t card ∧
          (∀ c, t.cabin c = if cabin = some c then (s.cabin c).left p else s.cabin c) ∧ s.handedPush t lock ∧
          t = { s with pt := t.pt, ci := t.ci, ct := t.ct, sc := t.sc, lk := t.lk, nfu := s.pushNotices lock
                       pu := { s.pu with counts := t.pu.counts }
                       pp := { s.pp with port := .answered tag .ok (be 1 r.presence.code ++ be 1 new.code) } })

/-- R40, R41, R27: ARM DEADLINE and its two refusals, DISARM DEADLINE, and the expiry when the ship clock has reached
the armed time: the deadline is written, every lane's effective mode derived again, and no permit touched. A DISARM keeps
the deadline's time: the model's choice, log 20. -/
def Obligations.DeadlineMoves : Prop :=
  ∀ (tag : Tag) (s : State), rising s.pu.lanes = true →
    let written (t : State) (d : Deadline) : Prop := t.pu.deadline = d ∧
      ∀ n, t.lane n = { s.lane n with effective := deriveMode (d.passed || s.sck.muster) (s.lane n).configured }
    (∀ time, s.accepts (.armDeadline tag time) = true →
      (s.sck.clockSet = false → exec (.armDeadline tag time) s = .next (s.answered tag .clockUnset [])) ∧
      (s.sck.clockSet = true → time ≤ s.sck.clock → exec (.armDeadline tag time) s = .next (s.answered tag .past [])) ∧
      (s.sck.clockSet = true → s.sck.clock < time → ∃ t, exec (.armDeadline tag time) s = .next t ∧
        written t { armed := true, time := time, passed := false } ∧
        t = { s with pu := { s.pu with deadline := t.pu.deadline, lanes := t.pu.lanes }
                     pp := { s.pp with port := .answered tag .ok [] } })) ∧
    (s.accepts (.disarmDeadline tag) = true →
      (s.pu.deadline.armed = false → exec (.disarmDeadline tag) s = .next (s.answered tag .ok [])) ∧
      (s.pu.deadline.armed = true → ∃ t, exec (.disarmDeadline tag) s = .next t ∧
        written t { s.pu.deadline with armed := false, passed := false } ∧
        t = { s with pu := { s.pu with deadline := t.pu.deadline, lanes := t.pu.lanes }
                     pp := { s.pp with port := .answered tag .ok [] } })) ∧
    (s.takesEvents = true → s.pu.deadline.armed = true → s.pu.deadline.passed = false →
      s.pu.deadline.time ≤ s.sck.clock → ∃ t, exec .deadlineExpiry s = .next t ∧
        written t { s.pu.deadline with passed := true } ∧
        t = { s with pu := { s.pu with deadline := t.pu.deadline, lanes := t.pu.lanes }
                     nfu := (s.raise .deadlinePassed).nfu })

/-- R38: the oldest piece of evidence is taken. Against a person ASHORE since a ship time no later than the evidence it
makes the person DISPUTED, appends an ACCESS record and raises DISPUTE; against any other it is dropped. -/
def Obligations.EvidenceSettles : Prop :=
  ∀ (s : State) (e : Evidence) (rest : List Evidence), s.takesEvents = true → s.pu.evidence = e :: rest →
    ((∀ r, s.person? e.person = some r → r.presence = .ashore → ∃ t, r.ashoreSince = some t ∧ e.time < t) →
      exec .evidence s = .next { s with pu := { s.pu with evidence := rest } }) ∧
    ∀ r, s.person? e.person = some r → r.presence = .ashore → (∀ t, r.ashoreSince = some t → t ≤ e.time) →
      let counts := { s.pu.counts with ashore := s.pu.counts.ashore - 1, disputed := s.pu.counts.disputed + 1 }
      let s1 : State := { s with pt := insert s.pt e.person { r with presence := .disputed, ashoreSince := none }
                                 pu := { s.pu with evidence := rest, counts := counts } }
      exec .evidence s = .next ((s1.append s.sck.clock (some e.person) s.sck.openDay
        (.access .disputeRaised e.source e.serial e.offline)).raise .dispute)

/-! ### Lock segments -/

/-- R65, R66, R82: ENROL LOCK and WITHDRAW LOCK: their refusals in their order. ENROL LOCK writes the new record and binds
its cabin; WITHDRAW LOCK removes the record with its push and fetch entries, marks an outstanding frame and unbinds the
cabin; both derive the contact window again. The locks that the new window makes STALE become so in the same step, with
LOCK_STALE: the model's reading of R78, log 23. The doze counter of a new record is log 36. -/
def Obligations.RosterCommands : Prop :=
  (∀ (tag : Tag) (g st : Nat) (kind : LockKind) (s : State),
    let named : Prop := g ≤ 3 ∧ 1 ≤ st ∧ st ≤ 600
    let inRange : Prop := named ∧ (∀ c, kind = .cabin c → c ≤ 2047) ∧ ∀ a, kind = .area a → a ≤ 63
    (s.accepts (.enrolLock tag g st kind) = true →
      let run := exec (.enrolLock tag g st kind) s
      (¬inRange → run = .next (s.answered tag .range [])) ∧
      (inRange → s.lock? g st ≠ none → run = .next (s.answered tag .inUse [])) ∧
      ∀ c, kind = .cabin c → inRange → s.lock? g st = none →
        ((s.cabin c).inUse = false → run = .next (s.answered tag .notFound [])) ∧
        ((s.cabin c).inUse = true → (s.cabin c).lock ≠ none → run = .next (s.answered tag .inUse []))) ∧
    (s.accepts (.withdrawLock tag g st) = true →
      let run := exec (.withdrawLock tag g st) s
      (¬named → run = .next (s.answered tag .range [])) ∧
      (named → s.lock? g st = none → run = .next (s.answered tag .notFound [])))) ∧
  ∀ (tag : Tag) (g st : Nat) (s : State), g ≤ 3 → 1 ≤ st → st ≤ 600 → rising (s.seg g).roster = true →
    let stales (t : State) : Bool := (s.seg g).roster.any fun e =>
      e.1 ≠ st && ((t.seg g).deadline? e.2).any (· ≤ s.sck.elapsed)
    (∀ kind, s.accepts (.enrolLock tag g st kind) = true → s.lock? g st = none →
      (∀ c, kind = .cabin c → c ≤ 2047 ∧ (s.cabin c).inUse = true ∧ (s.cabin c).lock = none) →
      (∀ a, kind = .area a → a ≤ 63) →
      ∃ t, exec (.enrolLock tag g st kind) s = .next t ∧
        t.lock? g st = some { kind := kind, excluded := false, state := .new, ackGen := none, lastContact := none
                              dozeAtContact := 0, status := ⟨false, false, false, false⟩
                              release := if (s.seg g).wanted then .releasePending else .normal, logCount := 0 } ∧
        (∀ k, k ≠ st → t.lock? g k = (s.lock? g k).map ((t.seg g).settled s.sck.elapsed)) ∧
        t.seg g = { s.seg g with roster := (t.seg g).roster
                                 window := max (s.seg g).windowAsked (t.seg g).sweepMinutes } ∧
        (∀ h, h ≠ g → t.seg h = s.seg h) ∧
        (∀ c, t.cabin c = if kind = .cabin c then { s.cabin c with lock := some (g, st) } else s.cabin c) ∧
        t.nfu = (if stales t then (s.raise .lockStale).nfu else s.nfu) ∧
        t = { s with sc := t.sc, ct := t.ct, nfu := t.nfu, pp := { s.pp with port := .answered tag .ok [] } }) ∧
    ∀ k, s.accepts (.withdrawLock tag g st) = true → s.lock? g st = some k →
      ∃ t, exec (.withdrawLock tag g st) s = .next t ∧ t.lock? g st = none ∧
        (∀ j, j ≠ st → t.lock? g j = (s.lock? g j).map ((t.seg g).settled s.sck.elapsed)) ∧
        t.seg g = { s.seg g with
          roster := (t.seg g).roster, window := max (s.seg g).windowAsked (t.seg g).sweepMinutes
          pushes := (s.seg g).pushes.filter (· ≠ st), fetches := (s.seg g).fetches.filter (· ≠ st)
          outstanding := (s.seg g).outstanding.map fun o =>
            { o with withdrawn := o.withdrawn || decide (o.frame.station = st) } } ∧
        (∀ h, h ≠ g → t.seg h = s.seg h) ∧
        (∀ c, t.cabin c = if k.kind = .cabin c then { s.cabin c with lock := none } else s.cabin c) ∧
        t.nfu = (if stales t then (s.raise .lockStale).nfu else s.nfu) ∧
        t = { s with sc := t.sc, ct := t.ct, nfu := t.nfu
                     pp := { s.pp with port := .answered tag .ok (opt (be 2) k.ackGen) } }

/-- R82, R79: SET SEGMENT: its refusals in their order, and, with every listed station enrolled and named once, the
settings within their ranges, the listed flags, the window in force; OFF returns a link in DOZE to UP. The locks that the
new window makes STALE become so in the same step, and OFF ends the doze measure: the model's reading of R78 and R79,
logs 22 and 23. -/
def Obligations.SetSegmentWrites : Prop :=
  ∀ (tag : Tag) (g doze spacing window : Nat) (list : List (Nat × Bool)) (s : State),
    s.accepts (.setSegment tag g doze spacing window list) = true →
    let inRange : Prop := g ≤ 3 ∧ doze ≤ 5 ∧ ∀ e ∈ list, 1 ≤ e.1 ∧ e.1 ≤ 600
    let enrolled : Prop := ∀ e ∈ list, s.lock? g e.1 ≠ none
    let run := exec (.setSegment tag g doze spacing window list) s
    (¬inRange → run = .next (s.answered tag .range [])) ∧
    (inRange → ¬enrolled → run = .next (s.answered tag .notFound [])) ∧
    (inRange → enrolled → (list.map (·.1)).Nodup → rising (s.seg g).roster = true →
      let c := s.seg g
      let wakes : Bool := doze = 0 && (s.link (segLink g)).state = .doze
      let flagged (k : Nat) (l : Lock) : Lock :=
        { l with excluded := ((list.find? fun e => e.1 = k).map (·.2)).getD l.excluded }
      ∃ t, run = .next t ∧
        (∀ k, t.lock? g k = (s.lock? g k).map fun l => (t.seg g).settled s.sck.elapsed (flagged k l)) ∧
        t.seg g = { c with
          roster := (t.seg g).roster, dozeTimer := doze, spacing := max 50 (min 1000 spacing)
          windowAsked := max 5 (min 120 window), window := max (max 5 (min 120 window)) (t.seg g).sweepMinutes
          measure := if wakes then { start := s.sck.elapsed, limit := none }
            else if doze = 0 then { c.measure with limit := none } else c.measure } ∧
        (∀ h, h ≠ g → t.seg h = s.seg h) ∧
        (∀ n, t.link n = if n = segLink g ∧ wakes then (s.link n).woken s.sck.elapsed else s.link n) ∧
        (let woken := if wakes then s.raise .linkChange else s
         let stales := c.roster.any fun e => ((t.seg g).deadline? (flagged e.1 e.2)).any (· ≤ s.sck.elapsed)
         t.nfu = if stales then (woken.raise .lockStale).nfu else woken.nfu) ∧
        t = { s with sc := t.sc, lk := t.lk, nfu := t.nfu
                     pp := { s.pp with port := .answered tag .ok (be 4 (t.seg g).spacing ++ be 4 (t.seg g).window) } })

/-- R80, R79: ALL RELEASE and ALL RESTORE of one segment, or of all four by the code 255: the wanted state, the due
broadcast and the locks' release states; a segment in DOZE returns to UP. That the answer carries the link state after
the command, and no count of its pairs, is log 37. -/
def Obligations.ReleaseAndRestore : Prop :=
  ∀ (tag : Tag) (g : Nat) (rel : Bool) (i : Instr) (s : State), s.accepts i = true →
    (i = .allRelease tag g ∧ rel = true ∨ i = .allRestore tag g ∧ rel = false) →
    (3 < g → g ≠ 255 → exec i s = .next (s.answered tag .range [])) ∧
    ∀ gs, (g ≤ 3 ∧ gs = [g] ∨ g = 255 ∧ gs = [0, 1, 2, 3]) →
      let wakes (h : Nat) : Bool := gs.contains h && (s.link (segLink h)).state = .doze
      let moved (r : ReleaseState) : ReleaseState :=
        if rel then (if r = .normal ∨ r = .restorePending then .releasePending else r)
        else if r = .released ∨ r = .releasePending then .restorePending else r
      ∃ t, exec i s = .next t ∧
        (∀ h, t.seg h = if h ∈ gs then { s.seg h with
          wanted := rel, due := if rel then .allRelease else .allRestore
          roster := (s.seg h).roster.map fun e => (e.1, { e.2 with release := moved e.2.release })
          measure := if wakes h then { start := s.sck.elapsed, limit := dozeMs (s.seg h).dozeTimer }
            else (s.seg h).measure } else s.seg h) ∧
        (∀ n, t.link n = if 2 ≤ n ∧ wakes (n - 2) then (s.link n).woken s.sck.elapsed else s.link n) ∧
        t.nfu = (if gs.any wakes then (s.raise .linkChange).nfu else s.nfu) ∧
        t.pp.port = .answered tag .ok (gs.flatMap fun h => be 1 (t.link (segLink h)).state.code ++ flagByte rel) ∧
        t = { s with sc := t.sc, lk := t.lk, nfu := t.nfu, pp := { s.pp with port := t.pp.port } }

/-! ### Links -/

/-- R170, R83, R164, R165, R169, R37: ENABLE, DISABLE and RETRAIN LINK and RETRAIN SEGMENT where they change the
link's state, where RETRAIN starts the attempts again, and where nothing changes; the answer carries the state before. A
number out of range is refused RANGE. What becomes of the doze measure is log 22. -/
def Obligations.LinkCommands : Prop :=
  (∀ (tag : Tag) (n : Nat) (i : Instr) (s : State), s.accepts i = true →
    (5 < n ∧ (i = .enableLink tag n ∨ i = .disableLink tag n ∨ i = .retrainLink tag n) ∨
      3 < n ∧ i = .retrainSegment tag n) → exec i s = .next (s.answered tag .range [])) ∧
  ∀ (tag : Tag) (n : Nat) (i : Instr) (s : State), n ≤ 5 → s.accepts i = true →
    let l := s.link n
    let serves := l.inService
    let retrains : Prop := i = .retrainLink tag n ∨ 2 ≤ n ∧ i = .retrainSegment tag (n - 2)
    (∀ new, (i = .enableLink tag n ∧ l.state = .down ∧ new = .training ∨
        i = .disableLink tag n ∧ l.state ≠ .down ∧ new = .down ∨
        retrains ∧ l.state ≠ .training ∧ new = .training) →
      ∃ t, exec i s = .next t ∧
        t.link n = { l with
          state := new, history := (l.state :: l.history).take 3, trains := 0
          attempt := if new = .training then 1 else 0
          attemptStart := if new = .training then s.sck.elapsed else l.attemptStart
          intake := if serves then [] else l.intake, answers := if serves then [] else l.answers } ∧
        (∀ m, m ≠ n → t.link m = s.link m) ∧
        s.serviceEnded t n ∧
        t = { s with lk := t.lk, sc := t.sc, pt := t.pt, pu := { s.pu with lanes := t.pu.lanes }
                     pp := { s.pp with port := .answered tag .ok (be 1 l.state.code) } }) ∧
    (retrains → l.state = .training → ∃ t, exec i s = .next t ∧
      t.link n = { l with attempt := 1, attemptStart := s.sck.elapsed, trains := 0 } ∧
      (∀ m, m ≠ n → t.link m = s.link m) ∧
      t = { s with lk := t.lk, pp := { s.pp with port := .answered tag .ok (be 1 l.state.code) } }) ∧
    ((i = .enableLink tag n ∧ l.state ≠ .down ∨ i = .disableLink tag n ∧ l.state = .down) →
      exec i s = .next (s.answered tag .ok (be 1 l.state.code)))

/-! ### Venue settings -/

/-- R87, R91, R102, R103, R113 to R116: the settings of the tab unit and the charge calculator: each with its refusals in
their order, the values taken into their ranges, and nothing else changed. That the answer of SET CLASS gives K as one
byte with 7 for UNLIMITED, and that of BIND TERMINAL unbound as an absent venue, are the model's readings, logs 12 and
45. -/
def Obligations.VenueSettings : Prop :=
  ∀ (tag : Tag) (s : State),
    (∀ t v, s.accepts (.bindTerminal tag t v) = true → exec (.bindTerminal tag t v) s = .next (
      if t < 1 ∨ 64 < t ∨ (∃ n, v = some n ∧ 31 < n) then s.answered tag .range []
      else if ∃ n, v = some n ∧ (s.venue n).inUse = false then s.answered tag .notFound []
      else if (s.terminal t).tabs ≠ [] ∧ (s.terminal t).venue ≠ v then s.answered tag .tabsOpen []
      else { s with tu := { s.tu with
        terminals := setD s.tu.terminals t Terminal.cold { s.terminal t with venue := v } } }.answered tag .ok
          (opt (be 1) (s.terminal t).venue))) ∧
    (∀ v held, s.accepts (.setHold tag v held) = true → 31 < v →
      exec (.setHold tag v held) s = .next (s.answered tag .range [])) ∧
    (∀ v held, s.accepts (.setHold tag v held) = true → v ≤ 31 → ∃ t, exec (.setHold tag v held) s = .next t ∧
      (∀ k, t.tu.holds.getLsbD k = if k = v then held else s.tu.holds.getLsbD k) ∧
      t = { s with tu := { s.tu with holds := t.tu.holds }, pp := { s.pp with port := .answered tag .ok [] } }) ∧
    (∀ v r n, s.accepts (.setRefusalReporting tag v r n) = true → 31 < v →
      exec (.setRefusalReporting tag v r n) s = .next (s.answered tag .range [])) ∧
    (∀ v r n, s.accepts (.setRefusalReporting tag v r n) = true → v ≤ 31 →
      ∃ t, exec (.setRefusalReporting tag v r n) s = .next t ∧
        (∀ k, t.nfu.refusalRecord.getLsbD k = if k = v then r else s.nfu.refusalRecord.getLsbD k) ∧
        (∀ k, t.nfu.refusalNotice.getLsbD k = if k = v then n else s.nfu.refusalNotice.getLsbD k) ∧
        t = { s with
          nfu := { s.nfu with refusalRecord := t.nfu.refusalRecord, refusalNotice := t.nfu.refusalNotice }
          pp := { s.pp with port := .answered tag .ok [] } }) ∧
    (∀ c v barred, s.accepts (.setRestriction tag c v barred) = true → (7 < c ∨ 31 < v) →
      exec (.setRestriction tag c v barred) s = .next (s.answered tag .range [])) ∧
    (∀ c v barred, s.accepts (.setRestriction tag c v barred) = true → c ≤ 7 → v ≤ 31 →
      ∃ t, exec (.setRestriction tag c v barred) s = .next t ∧ t.barred c v = barred ∧
        (∀ d w, w ≤ 31 → (d, w) ≠ (c, v) → t.barred d w = s.barred d w) ∧
        t = { s with cc := { s.cc with restrictions := t.cc.restrictions }
                     pp := { s.pp with port := .answered tag .ok [] } }) ∧
    (∀ v row, s.accepts (.setVenue tag v row) = true → exec (.setVenue tag v row) s = .next (
      let kept := { row with serviceRate := min row.serviceRate 2500, taxRate := min row.taxRate 2500 }
      if 31 < v then s.answered tag .range []
      else if row.inUse = false ∧ (∃ e ∈ s.tu.slots, ∃ x, e.2.tab = some x ∧ x.venue = v) then s.answered tag .tabsOpen []
      else { s with cc := { s.cc with venues := setD s.cc.venues v coldVenue kept } }.answered tag .ok kept.bytes)) ∧
    (∀ c rate code, s.accepts (.setClass tag c rate code) = true → exec (.setClass tag c rate code) s = .next (
      let row : ClassRow := { rate := min rate 5000, cap := if code = 7 then none else some (max 1 code) }
      if 7 < c ∨ 7 < code then s.answered tag .range []
      else { s with cc := { s.cc with classes := setD s.cc.classes c ClassRow.cold row } }.answered tag .ok
        (be 4 (min rate 5000) ++ be 1 (if code = 0 then 1 else code)))) ∧
    (∀ x, s.accepts (.setTaxState tag x) = true → exec (.setTaxState tag x) s = .next (
      { s with cc := { s.cc with tax := x } }.answered tag .ok (be 1 s.cc.tax.code))) ∧
    ∀ capped w, s.accepts (.setCap tag capped w) = true → exec (.setCap tag capped w) s = .next (
      let window := max 10 (min 240 w)
      { s with cc := { s.cc with capped := capped, window := window } }.answered tag .ok (be 4 window))

/-! ### Charge arithmetic and tabs -/

/-- R108, R109, R115: the figures of a pricing at the rates in force, each rate step rounded half up; and, for at most 16
lines at the highest price and quantity and rates in their ranges, R109's bounds. -/
def Obligations.PricingFigures : Prop :=
  ∀ (s : State) (v cls : Nat) (lines : List Line),
    let p := s.price v cls lines
    let d := if (s.venue v).classDiscount then (s.classRow cls).rate else 0
    let c := if (s.venue v).serviceApplies then (s.venue v).serviceRate else 0
    let t := if (s.venue v).taxable ∧ s.cc.tax = .port then (s.venue v).taxRate else 0
    p.subtotal = ((lines.filter fun l => !l.voided).map (·.amount)).sum ∧
      p.discount = (p.subtotal * d + 5000) / 10000 ∧ p.net = p.subtotal - p.discount ∧
      p.service = (p.net * c + 5000) / 10000 ∧ p.tax = ((p.net + p.service) * t + 5000) / 10000 ∧
      p.total = p.net + p.service + p.tax ∧
      (s.settingsHold → lines.length ≤ 16 → (∀ l ∈ lines, l.amount ≤ 9899901) →
        p.subtotal ≤ 158398416 ∧ p.discount ≤ 79199208 ∧ p.discount ≤ p.subtotal ∧ p.net ≤ 158398416 ∧
          p.service ≤ 39599604 ∧ p.tax ≤ 49499505 ∧ p.total ≤ 247497525)

/-- R93, R94, R99, R38: OPEN TAB and QUERY BALANCE that pass every check. Both send the card's evidence; OPEN TAB
rolls the person, creates the tab in the lowest empty slot and lists it; QUERY BALANCE answers the two figures. How a
frame comes to its owner is the model's choice, log 2. -/
def Obligations.TabRequests : Prop :=
  ∀ (st : Nat) (tag : Byte) (serial : Serial) (s0 s : State) (v p : Nat) (r : Person),
    s.cardServes st serial v p r →
    let sent : Evidence := { person := p, time := s.sck.clock, serial := serial, source := .venue v st, offline := false }
    let credit := ((r.folio.creditLimit : Int) - r.folio.balance - r.folio.held).toNat
    (∀ f n, f = { station := st, kind := 0x20, tag := tag, body := serialBytes serial } → s0.takeFrame 0 f = some s →
      s.tabOpens st v n r →
      let ref : TabRef := { slot := n, use := ((s.slot n).use + 1) % 256 }
      ∃ t, exec (.openTab st tag serial) s0 = .next t ∧
        (∀ m, t.slot m = if m = n then { use := ref.use, tab := some {
          terminal := st, venue := v, person := p, opened := s.sck.clock, lines := [], total := 0, voidable := false } }
          else s.slot m) ∧
        (∀ m, t.terminal m = if m = st then { s.terminal m with tabs := (s.terminal m).tabs ++ [ref] }
          else s.terminal m) ∧
        (∀ q, t.person? q = if q = p then some { r with
          tabs := r.tabs ++ [ref], folio := r.folio.rolled s.sck.openDay } else s.person? q) ∧
        s.answerWaits t 0 f 0x2F (be 1 0 ++ refBytes ref ++ be 2 p ++ be 4 credit) ∧
        t = { s.rollPosted p r.folio with
          pt := t.pt, lk := t.lk, tu := { s.tu with slots := t.tu.slots, terminals := t.tu.terminals }
          pu := { s.pu with evidence := s.pu.evidence ++ [sent] } }) ∧
    ∀ f, f = { station := st, kind := 0x25, tag := tag, body := serialBytes serial } → s0.takeFrame 0 f = some s →
      let spend := if r.folio.day < s.sck.openDay then 0 else r.folio.dailySpend
      ∃ t, exec (.queryBalance st tag serial) s0 = .next t ∧
        s.answerWaits t 0 f 0x2F (be 1 0 ++ be 4 credit ++
          opt (fun d => be 4 ((d : Int) - spend - r.folio.held).toNat) r.folio.dailyLimit) ∧
        t = { s with lk := t.lk, pu := { s.pu with evidence := s.pu.evidence ++ [sent] } }

/-- R90, R92, R93, R95, R97, R99, R100, R103: venue requests that are refused. A terminal out of range is not answered and
an unbound one is answered UNBOUND, each with STATION_UNKNOWN; any other refusal is the first check that applies, in the
order of its rule. A revoked card appends its ACCESS record and raises REVOKED_USE; a request that reaches the presence
check sends its evidence; a capped check of ADD LINE prunes the serving list; the refusal is recorded and raised as the
venue's two sets say. How a frame comes to its owner, the person and the venue of a refusal are the model's readings, logs
2, 25 and 33. -/
def Obligations.VenueRequestsRefused : Prop :=
  ∀ (i : Instr) (st : Nat) (kind tag : Byte) (body : List Byte) (s0 s : State) (f : Frame),
    f = { station := st, kind := kind, tag := tag, body := body } → i.stationFrame = some (0, f) →
    s0.takeFrame 0 f = some s →
    let answered (c : Code) (u : State) : Prop := ∃ t, exec i s0 = .next t ∧ u.declines t f c
    let unknown : State := s.recordFault { kind := .stationUnknown, port := 0, station := some st
                                           frameKind := some kind.toNat, tag := some tag.toNat }
    ((st < 1 ∨ 64 < st) → exec i s0 = .next unknown) ∧
    (1 ≤ st → st ≤ 64 →
      (∀ (serial : Serial) (tests : Bool) (sale : Option (Nat × Nat × Nat)),
        (i = .openTab st tag serial ∧ tests = true ∧ sale = none ∨
          i = .queryBalance st tag serial ∧ tests = false ∧ sale = none ∨
          ∃ c p q tip, i = .quickSale st tag serial c p q tip ∧ tests = true ∧ sale = some (c, p, q)) →
        ((∀ v, (s.terminal st).venue = some v → (s.venue v).inUse = false) → answered .unbound unknown) ∧
        ∀ v, (s.terminal st).venue = some v → (s.venue v).inUse = true →
          let category := (sale.map (·.1)).filter (· ≤ 15)
          let refused (c : Code) (u : State) (p : Option Nat) : Prop := answered c (u.refusalReported v st p category c)
          (tests = true → s.venueHeld v = true → refused .held s none) ∧
          ((tests = true → s.venueHeld v = false) →
            (s.card? serial = none → refused .unknownCard s none) ∧
            (∀ e day, s.card? serial = some e → e.state = .revoked day →
              refused .revoked ((s.append s.sck.clock (some e.person) s.sck.openDay
                (.access .revokedUse (.venue v st) serial false)).raise .revokedUse) (some e.person)) ∧
            ∀ e r, s.card? serial = some e → e.state = .active → s.person? e.person = some r →
              let u : State := { s with pu := { s.pu with evidence := s.pu.evidence ++
                [{ person := e.person, time := s.sck.clock, serial := serial, source := .venue v st, offline := false }] } }
              let lists : Prop := r.tabs.length < 2 ∧ (s.terminal st).tabs.length < 8
              let store : Prop := ∃ k, k ≤ 255 ∧ (s.slot k).tab = none
              let credit : Prop := r.folio.balance + (r.folio.held : Int) < (r.folio.creditLimit : Int)
              (r.presence ≠ .aboard → refused .presence u (some e.person)) ∧
              (r.presence = .aboard → tests = true →
                (2 ≤ r.tabs.length → refused .personTabs u (some e.person)) ∧
                (r.tabs.length < 2 → 8 ≤ (s.terminal st).tabs.length → refused .terminalTabs u (some e.person)) ∧
                (lists → ¬store → refused .tabStoreFull u (some e.person)) ∧
                (lists → store → s.room < 2 → answered .queueFull u) ∧
                (lists → store → 2 ≤ s.room → ¬credit → refused .limit u (some e.person)) ∧
                ∀ c p q, sale = some (c, p, q) → lists → store → 2 ≤ s.room → credit →
                  s.lineOutcome r v [] 0 c p q ≠ .ok → refused (s.lineOutcome r v [] 0 c p q) u (some e.person)))) ∧
      ∀ (ref : TabRef) (category : Option Nat),
        (i = .voidLast st tag ref ∧ category = none ∨ (∃ tip, i = .closeTab st tag ref tip) ∧ category = none ∨
          ∃ c p q, i = .addLine st tag ref c p q ∧ category = if c ≤ 15 then some c else none) →
        ((∀ x, s.slot ref.slot = { use := ref.use, tab := some x } → x.terminal ≠ st) →
          ((∀ v, (s.terminal st).venue = some v → (s.venue v).inUse = false) → answered .noTab s) ∧
          ∀ v, (s.terminal st).venue = some v → (s.venue v).inUse = true →
            answered .noTab (s.refusalReported v st none category .noTab)) ∧
        ∀ x, s.slot ref.slot = { use := ref.use, tab := some x } → x.terminal = st →
          let refused (c : Code) (u : State) : Prop :=
            answered c (u.refusalReported x.venue st (some x.person) category c)
          (i = .voidLast st tag ref → x.voidable = false → refused .nothingToVoid s) ∧
          ∀ c p q, i = .addLine st tag ref c p q →
            (s.venueHeld x.venue = true → refused .held s) ∧
            ∀ r, s.venueHeld x.venue = false → s.person? x.person = some r →
              (r.presence ≠ .aboard → refused .presence s) ∧
              (r.presence = .aboard →
                let code := s.lineOutcome r x.venue x.lines x.total c p q
                let capChecked : Bool := s.cc.capped.getLsbD c && decide (code = .cap ∨ code = .limit ∨ code = .daily)
                code ≠ .ok → refused code (if capChecked then s.capPruned x.person r else s)))

/-- R95 to R97, R109, R110, R118, R119, R121: ADD LINE that passes every check, and VOID LAST of a voidable line: the
tab's lines, running total and flag, the person's held amount and serving list; nothing else. How a frame comes to its
owner, and that the newest entry of the voided line's slot and index leaves whatever tab made it, are the model's choices,
logs 2 and 42. -/
def Obligations.LineRequests : Prop :=
  ∀ (st : Nat) (tag : Byte) (ref : TabRef) (s0 s : State) (x : Tab) (r : Person),
    1 ≤ st → st ≤ 64 → s.slot ref.slot = { use := ref.use, tab := some x } → x.terminal = st →
    s.person? x.person = some r →
    let kept (t : State) (y : Tab) (q : Person) : Prop :=
      (∀ m, t.slot m = if m = ref.slot then { use := ref.use, tab := some y } else s.slot m) ∧
      (∀ k, t.person? k = if k = x.person then some q else s.person? k) ∧
      t = { s with pt := t.pt, lk := t.lk, tu := { s.tu with slots := t.tu.slots } }
    (∀ f category price quantity,
      f = { station := st, kind := 0x21, tag := tag,
            body := refBytes ref ++ be 1 category ++ be 4 price ++ be 1 quantity } → s0.takeFrame 0 f = some s →
      let line : Line := { category := category, price := price, quantity := quantity, amount := price * quantity
                           voided := false }
      let total := (s.price x.venue r.cls (x.lines ++ [line])).total
      s.venueHeld x.venue = false → r.presence = .aboard →
      s.lineOk r x.venue x.lines x.total total category price quantity →
      ∃ t, exec (.addLine st tag ref category price quantity) s0 = .next t ∧
        kept t { x with lines := x.lines ++ [line], total := total, voidable := true } { r with
          folio := { r.folio with held := r.folio.held + total - x.total }
          servings := s.served r.servings category {
            stamp := s.sck.clock / 60, slot := ref.slot, line := x.lines.length, count := quantity } } ∧
        s.answerWaits t 0 f 0x2F (be 1 0 ++ be 1 x.lines.length ++ be 4 total)) ∧
    ∀ f older last, f = { station := st, kind := 0x22, tag := tag, body := refBytes ref } → s0.takeFrame 0 f = some s →
      x.voidable = true → x.lines = older ++ [last] →
      let lines := older ++ [{ last with voided := true }]
      let total := (s.price x.venue r.cls lines).total
      ∃ t servings, exec (.voidLast st tag ref) s0 = .next t ∧
        ((∀ e ∈ r.servings, ¬(e.slot = ref.slot ∧ e.line = older.length)) → servings = r.servings) ∧
        (∀ before e after, r.servings = before ++ e :: after → e.slot = ref.slot → e.line = older.length →
          (∀ y ∈ after, ¬(y.slot = ref.slot ∧ y.line = older.length)) → servings = before ++ after) ∧
        kept t { x with lines := lines, total := total, voidable := false } { r with
          folio := { r.folio with held := r.folio.held + total - x.total }, servings := servings } ∧
        s.answerWaits t 0 f 0x2F (be 1 0 ++ be 4 total)

/-- R98, R101, R111, R112, R126, R127: CLOSE TAB and FORCE CLOSE. FORCE CLOSE of a slot out of range is refused RANGE and
of an empty slot NOT_FOUND. A tab whose non-voided lines sum to 0 closes empty; a full queue refuses; any other close
charges the folio, appends its CHARGE and takes the tab out of the store. How a frame comes to its owner is the model's
choice, log 2. -/
def Obligations.CloseCharges : Prop :=
  (∀ (tag : Tag) (n : Nat) (s : State), s.accepts (.forceClose tag n) = true →
    (255 < n → exec (.forceClose tag n) s = .next (s.answered tag .range [])) ∧
    (n ≤ 255 → (s.slot n).tab = none → exec (.forceClose tag n) s = .next (s.answered tag .notFound []))) ∧
  ∀ (n use : Nat) (s : State) (x : Tab) (r : Person), n ≤ 255 → s.slot n = { use := use, tab := some x } →
    s.person? x.person = some r →
    let ref : TabRef := { slot := n, use := use }
    let empty := (s.price x.venue r.cls x.lines).subtotal = 0
    let named := be 1 n ++ be 1 use ++ be 1 x.terminal ++ be 2 x.person
    let released : Folio := { r.folio with held := r.folio.held - x.total }
    let p := s.price x.venue r.cls x.lines
    let bill (tip : Nat) := billOf p r.folio x.total tip
    let charged (tip : Nat) : Folio := { r.folio with
      balance := (bill tip).balance, held := r.folio.held - x.total
      dailySpend := min 999999999 (r.folio.dailySpend + (bill tip).amount) }
    let posted (tip : Nat) (forced : Bool) : State := s.append s.sck.clock (some x.person) r.folio.day
      (.charge (chargeOf x ref p r.folio tip forced false))
    (∀ tag, s.accepts (.forceClose tag n) = true →
      (empty → ∃ t, exec (.forceClose tag n) s = .next t ∧ s.tabGone t n x r released ∧
        t = { s with pt := t.pt, tu := { s.tu with slots := t.tu.slots, terminals := t.tu.terminals }
                     pp := { s.pp with port := .answered tag .closedEmpty named } }) ∧
      (¬empty → s.free = 0 → exec (.forceClose tag n) s = .next (s.answered tag .queueFull [])) ∧
      (¬empty → 1 ≤ s.free → ∃ t, exec (.forceClose tag n) s = .next t ∧ s.tabGone t n x r (charged 0) ∧
        t = { posted 0 true with
          pt := t.pt, tu := { s.tu with slots := t.tu.slots, terminals := t.tu.terminals }
          pp := { s.pp with port := .answered tag .ok (named ++ billBytes (bill 0) s.pq.next) } })) ∧
    ∀ tag tip s0 f, 1 ≤ x.terminal → x.terminal ≤ 64 →
      f = { station := x.terminal, kind := 0x23, tag := tag, body := refBytes ref ++ be 4 tip } →
      s0.takeFrame 0 f = some s →
      (empty → ∃ t, exec (.closeTab x.terminal tag ref tip) s0 = .next t ∧ s.tabGone t n x r released ∧
        s.answerWaits t 0 f 0x2F (be 1 30) ∧
        t = { s with pt := t.pt, lk := t.lk
                     tu := { s.tu with slots := t.tu.slots, terminals := t.tu.terminals } }) ∧
      (¬empty → s.free = 0 → ∃ t, exec (.closeTab x.terminal tag ref tip) s0 = .next t ∧
        s.answerWaits t 0 f 0x2F (be 1 29) ∧ t = { s with lk := t.lk }) ∧
      (¬empty → 1 ≤ s.free → ∃ t, exec (.closeTab x.terminal tag ref tip) s0 = .next t ∧
        s.tabGone t n x r (charged tip) ∧ s.answerWaits t 0 f 0x2F (be 1 0 ++ billBytes (bill tip) s.pq.next) ∧
        t = { posted tip false with
          pt := t.pt, lk := t.lk, tu := { s.tu with slots := t.tu.slots, terminals := t.tu.terminals } })

/-- R100: QUICK SALE that passes every check: the roll, a tab, the line and the close as one: the serving entry recorded
and the slot's use count raised; of a line with an amount the folio charged and the CHARGE appended with QUICK; of a line
of amount 0 the tab closed empty and nothing charged or appended. How a frame comes to its owner is the model's choice,
log 2. -/
def Obligations.QuickSaleCharges : Prop :=
  ∀ (st : Nat) (tag : Byte) (serial : Serial) (category price quantity tip n v person : Nat) (r : Person)
    (s0 s : State) (f : Frame),
    f = { station := st, kind := 0x24, tag := tag,
          body := serialBytes serial ++ be 1 category ++ be 4 price ++ be 1 quantity ++ be 4 tip } →
    s0.takeFrame 0 f = some s → s.cardServes st serial v person r → s.tabOpens st v n r →
    let line : Line := { category := category, price := price, quantity := quantity, amount := price * quantity
                         voided := false }
    let p := s.price v r.cls [line]
    s.lineOk r v [] 0 p.total category price quantity →
    let ref : TabRef := { slot := n, use := ((s.slot n).use + 1) % 256 }
    let x : Tab := { terminal := st, venue := v, person := person, opened := s.sck.clock, lines := [line], total := 0
                     voidable := true }
    let rolled := r.folio.rolled s.sck.openDay
    let b := billOf p rolled 0 tip
    let s1 := s.rollPosted person r.folio
    let s2 := s1.append s.sck.clock (some person) rolled.day (.charge (chargeOf x ref p rolled tip false true))
    let after : State := if price = 0 then s1 else s2
    ∃ t, exec (.quickSale st tag serial category price quantity tip) s0 = .next t ∧
      (∀ m, t.slot m = if m = n then { use := ref.use, tab := none } else s.slot m) ∧
      (∀ m, t.terminal m = if m = st then { s.terminal m with tabs := (s.terminal m).tabs.filter (· ≠ ref) }
        else s.terminal m) ∧
      (∀ q, t.person? q = if q = person then some { r with
        tabs := r.tabs.filter (· ≠ ref)
        folio := if price = 0 then rolled
          else { rolled with balance := b.balance, dailySpend := min 999999999 (rolled.dailySpend + b.amount) }
        servings := s.served r.servings category {
          stamp := s.sck.clock / 60, slot := n, line := 0, count := quantity } } else s.person? q) ∧
      s.answerWaits t 0 f 0x2F
        (if price = 0 then be 1 30 else be 1 0 ++ billBytes b s1.pq.next ++ refBytes ref) ∧
      t = { after with
        pt := t.pt, lk := t.lk, tu := { s.tu with slots := t.tu.slots, terminals := t.tu.terminals }
        pu := { s.pu with evidence := s.pu.evidence ++
          [{ person := person, time := s.sck.clock, serial := serial, source := .venue v st, offline := false }] } }

/-! ### Posting queue and operations -/

/-- R134, R129: READ QUEUE STATUS answers the fill, the free count, the charging room, the next number, the head's number
and the unposted count as it stood, and sets that count to 0. -/
def Obligations.ReadQueueStatusReports : Prop :=
  ∀ (tag : Tag) (s : State), s.accepts (.readQueueStatus tag) = true →
    let fill := s.pq.records.length
    exec (.readQueueStatus tag) s = .next ({ s with pq := { s.pq with unposted := 0 } }.answered tag .ok
      (be 4 fill ++ be 4 (4096 - fill) ++ be 4 (4096 - fill - 256) ++ be 4 s.pq.next.toNat ++
        opt (fun (p : Posting) => be 4 p.seq.toNat) s.pq.records.head? ++ be 2 s.pq.unposted))

/-- R125, R129, R131, R132, R133, R141: an append takes the tail and the next number while an entry is free, raising
POSTINGS_HIGH at 3,584 and CHARGING_STOPPED at 3,839; a CROSSING at a full queue is counted and raises UNPOSTED; TAKE
POSTING removes and answers the head, and resumes a waiting operation when the room is at least 1. -/
def Obligations.PostingQueueMoves : Prop :=
  (∀ (s : State) (time day : Nat) (person : Option Nat) (body : PostingBody),
    let fill := s.pq.records.length
    let t := s.append time person day body
    (4096 ≤ fill → t = s ∧ ∀ c, body = .crossing c → s.appendCrossing person c =
      ({ s with pq := { s.pq with unposted := min 65535 (s.pq.unposted + 1) } } : State).raise .unposted) ∧
    (fill < 4096 →
      t.pq = { s.pq with
        records := s.pq.records ++ [{ seq := s.pq.next, time := time, person := person, day := day, body := body }]
        next := s.pq.next + 1 } ∧
      (∀ k, t.nfu.pending.getLsbD k = (s.nfu.pending.getLsbD k || decide (fill = 3583 ∧ k = 1) ||
        decide (fill = 3838 ∧ k = 2))) ∧
      t = { s with pq := t.pq, nfu := { s.nfu with pending := t.nfu.pending } } ∧
      ∀ c, body = .crossing c → time = s.sck.clock → day = s.sck.openDay → s.appendCrossing person c = t)) ∧
  ∀ (tag : Tag) (s : State), s.accepts (.takePosting tag) = true →
    (s.pq.records = [] → exec (.takePosting tag) s = .next (s.answered tag .empty [])) ∧
    ∀ head rest, s.pq.records = head :: rest →
      let oe : Operation := if s.oe.state = .waiting ∧ rest.length ≤ 3839 then { s.oe with state := .running } else s.oe
      let t : State := { s with pq := { s.pq with records := rest }, oe := oe }
      exec (.takePosting tag) s = .next (t.answered tag .ok (head.bytes ++ be 4 rest.length))

/-- R139, R142, R144, R36, R120, R155: START OPERATION: its refusals in their order, the record it writes, and for DAY
CLOSE the new open day, the RECONCILE of the lanes' tallies, the tallies zeroed and the serving lists pruned; ABORT
OPERATION ends an operation at its cursor with ABORTED and OPERATION_DONE, and in IDLE is refused NOT_FOUND. The four
bytes of the cursor and the counts, and the day and number without a presence byte, are the model's reading, log 12; the
day closed while the open day stays at its top is log 43. -/
def Obligations.OperationCommandsAct : Prop :=
  (∀ (tag : Tag) (code first last : Nat) (s : State), s.accepts (.startOperation tag code first last) = true →
    let ok : Prop := code = 0 ∨ code = 1 ∧ first ≤ last ∧ last ≤ 2047 ∨ code = 2 ∧ first ≤ last ∧ last ≤ 8191
    let started (k : OpKind) (ph : OpPhase) (a b : Nat) : Operation :=
      { kind := some k, first := a, last := b, state := .running, phase := some ph, cursor := a, result := none
        processed := 0, reason1 := 0, reason2 := 0, reason3 := 0, musterSeen := false, clockSetSeen := false }
    let run := exec (.startOperation tag code first last) s
    let body := be 1 code ++ be 2 first ++ be 2 last
    (¬ok → run = .next (s.answered tag .range [])) ∧
    (ok → s.oe.state ≠ .idle → run = .next (s.answered tag .busy [])) ∧
    (code = 0 → s.oe.state = .idle → 4096 ≤ s.pq.records.length → run = .next (s.answered tag .queueFull [])) ∧
    (ok → code = 1 → s.oe.state = .idle →
      run = .next ({ s with oe := started .cabinRekey .cabins first last }.answered tag .ok body)) ∧
    (ok → code = 2 → s.oe.state = .idle →
      run = .next ({ s with oe := started .finalDisembark .persons first last }.answered tag .ok body)) ∧
    (code = 0 → s.oe.state = .idle → s.pq.records.length < 4096 →
      let day := min 4294967295 (s.sck.openDay + 1)
      let lanes := match laneNumbers.filter fun n => (s.lane n).configured ≠ .closed with
        | [] => [1]
        | ns => ns
      let body := be 1 0 ++ be 2 0 ++ be 2 8191 ++ be 4 day ++ be 4 s.pq.next.toNat
      s.sck.openDay ≤ 4294967295 → ∃ t, run = .next t ∧
        (∀ n, t.lane n = if n ∈ laneNumbers then { s.lane n with
          tallies := { Tallies.zero with granted := if (s.lane n).permit = none then 0 else 1 } } else s.lane n) ∧
        (∀ q, t.person? q = (s.person? q).map fun r => { r with
          servings := r.servings.filter fun e => s.sck.clock / 60 - e.stamp < s.cc.window }) ∧
        t = { s.append s.sck.clock none day (.reconcile s.sck.openDay (lanes.map fun n => (n, (s.lane n).tallies))) with
          sck := { s.sck with openDay := day }, pt := t.pt, pu := { s.pu with lanes := t.pu.lanes }
          oe := started .dayClose .persons 0 8191, pp := { s.pp with port := .answered tag .ok body } })) ∧
  ∀ (tag : Tag) (s : State), s.accepts (.abortOperation tag) = true →
    (s.oe.state = .idle → exec (.abortOperation tag) s = .next (s.answered tag .notFound [])) ∧
    (s.oe.state ≠ .idle → exec (.abortOperation tag) s = .next (
      { s with oe := { s.oe with state := .idle, result := some .aborted }, nfu := (s.raise .operationDone).nfu }.answered
        tag .ok (be 4 s.oe.cursor ++ be 4 s.oe.processed ++ be 4 s.oe.reason1 ++ be 4 s.oe.reason2 ++
          be 4 s.oe.reason3)))

/-- R140, R141, R145 to R148: a step of each operation: the record at the cursor handled or passed with its count, the wait
for charging room, the change of phase and the end. -/
def Obligations.OperationSteps : Prop :=
  ∀ (s : State), s.takesEvents = true → s.oe.state = .running →
    let o := s.oe
    let counted (a b c d : Nat) : Operation := { o with
      cursor := o.cursor + 1, processed := o.processed + a, reason1 := o.reason1 + b, reason2 := o.reason2 + c
      reason3 := o.reason3 + d }
    let moved (x : Operation) : State := { s with oe := x }
    let done : State := { s with
      oe := { o with state := .idle, result := some .done }, nfu := (s.raise .operationDone).nfu }
    let waits : State := { s with oe := { o with state := .waiting } }
    (o.kind = some .dayClose → o.phase = some .persons →
      (o.last < o.cursor →
        exec .dayClosePersonsStep s = .next (moved { o with phase := some .cards, cursor := 0 })) ∧
      (o.cursor ≤ o.last → s.person? o.cursor = none → exec .dayClosePersonsStep s = .next (moved (counted 0 0 0 0))) ∧
      ∀ r, o.cursor ≤ o.last → s.person? o.cursor = some r →
        (s.sck.openDay ≤ r.folio.day → exec .dayClosePersonsStep s = .next (moved (counted 0 1 0 0))) ∧
        (r.folio.day < s.sck.openDay → r.folio.dailySpend ≠ 0 → 3840 ≤ s.pq.records.length →
          exec .dayClosePersonsStep s = .next waits) ∧
        (r.folio.day < s.sck.openDay → (r.folio.dailySpend = 0 ∨ s.pq.records.length < 3840) →
          exec .dayClosePersonsStep s = .next { s.rollPosted o.cursor r.folio with
            pt := insert s.pt o.cursor { r with folio := { r.folio with dailySpend := 0, day := s.sck.openDay } }
            oe := counted 1 0 0 0 })) ∧
    (o.kind = some .dayClose → o.phase = some .cards →
      (s.ci.order = [] → exec .dayCloseCardsStep s = .next done) ∧
      ∀ head rest e day, s.ci.order = head :: rest → s.card? head = some e → e.state = .revoked day →
        (s.sck.openDay - 1 ≤ day → exec .dayCloseCardsStep s = .next done) ∧
        (day < s.sck.openDay - 1 → exec .dayCloseCardsStep s = .next { s with
          ci := { entries := erase s.ci.entries head.toNat, order := rest }, oe := counted 1 0 0 0 })) ∧
    (o.kind = some .cabinRekey → o.phase = some .cabins →
      (o.last < o.cursor → exec .cabinRekeyStep s = .next done) ∧
      (o.cursor ≤ o.last → (s.cabin o.cursor).inUse = false →
        exec .cabinRekeyStep s = .next (moved (counted 0 1 0 0))) ∧
      (o.cursor ≤ o.last → (s.cabin o.cursor).inUse = true → 65535 ≤ (s.cabin o.cursor).keyGen →
        exec .cabinRekeyStep s = .next (moved (counted 0 0 1 0))) ∧
      (o.cursor ≤ o.last → (s.cabin o.cursor).inUse = true → (s.cabin o.cursor).keyGen < 65535 →
        ∃ t, exec .cabinRekeyStep s = .next t ∧
          (∀ c, t.cabin c = if c = o.cursor then (s.cabin c).rekeyed else s.cabin c) ∧
          s.handedPush t (s.cabin o.cursor).lock ∧
          (∀ q, t.person? q = (s.person? q).map fun r => { r with
            reissueDue := r.reissueDue || (decide (q ∈ (s.cabin o.cursor).occupants) &&
              (s.activeGen? r).any fun g => g < (s.cabin o.cursor).keyGen + 1) }) ∧
          t = { s with pt := t.pt, ct := t.ct, sc := t.sc, lk := t.lk, nfu := s.pushNotices (s.cabin o.cursor).lock
                       oe := counted 1 0 0 0 })) ∧
    (o.kind = some .finalDisembark → o.phase = some .persons →
      (o.last < o.cursor → exec .finalDisembarkStep s = .next done) ∧
      (o.cursor ≤ o.last → s.person? o.cursor = none → exec .finalDisembarkStep s = .next (moved (counted 0 0 0 0))) ∧
      ∀ r, o.cursor ≤ o.last → s.person? o.cursor = some r →
        (r.presence ≠ .ashore → exec .finalDisembarkStep s = .next (moved (counted 0 1 0 0))) ∧
        (r.presence = .ashore → r.tabs ≠ [] → exec .finalDisembarkStep s = .next (moved (counted 0 0 1 0))) ∧
        (r.presence = .ashore → r.tabs = [] → r.permitLane ≠ none →
          exec .finalDisembarkStep s = .next (moved (counted 0 0 0 1))) ∧
        (r.presence = .ashore → r.tabs = [] → r.permitLane = none → 3840 ≤ s.pq.records.length →
          exec .finalDisembarkStep s = .next waits) ∧
        (r.presence = .ashore → r.tabs = [] → r.permitLane = none → s.pq.records.length < 3840 →
          (∀ serial, r.card = some serial → ∃ e, s.card? serial = some e ∧ e.person = o.cursor) →
          ∃ t, exec .finalDisembarkStep s = .next t ∧
            t.person? o.cursor = some { r with
              presence := .disembarked, ashoreSince := none, cabin := none, card := none } ∧
            s.othersMarked t o.cursor r.cabin ∧ s.cardRevoked t r.card ∧
            (∀ c, t.cabin c = if r.cabin = some c then (s.cabin c).left o.cursor else s.cabin c) ∧
            s.handedPush t (s.rekeyLock r.cabin) ∧
            t.pu.counts = { s.pu.counts with
              ashore := s.pu.counts.ashore - 1, disembarked := s.pu.counts.disembarked + 1 } ∧
            t = { s.append s.sck.clock (some o.cursor) r.folio.day (.folioFinal r.folio.balance) with
              pt := t.pt, ci := t.ci, ct := t.ct, sc := t.sc, lk := t.lk
              nfu := (s.append s.sck.clock (some o.cursor) r.folio.day (.folioFinal r.folio.balance)).pushNotices
                (s.rekeyLock r.cabin)
              pu := { s.pu with counts := t.pu.counts }, oe := counted 1 0 0 0 }))

/-! ### Ship clock, supplies and muster -/

/-- R153, R41, R143: SET CLOCK writes the clock and its set state, takes later serving stamps back to the new minute,
expires a deadline it reaches and latches CLOCK_SET_SEEN on an operation in flight; the answer carries the clock before
and after. That the milliseconds into the current second are kept is the model's choice, log 6. -/
def Obligations.SetClockWrites : Prop :=
  ∀ (tag : Tag) (time : Nat) (s : State), s.accepts (.setClock tag time) = true → time ≤ 4294967295 →
    rising s.pu.lanes = true →
    let expires : Bool := s.pu.deadline.armed && !s.pu.deadline.passed && decide (s.pu.deadline.time ≤ time)
    ∃ t, exec (.setClock tag time) s = .next t ∧
      (∀ q, t.person? q = (s.person? q).map fun r => { r with
        servings := r.servings.map fun e => { e with stamp := min e.stamp (time / 60) } }) ∧
      (∀ n, t.lane n = if expires then { s.lane n with effective := deriveMode true (s.lane n).configured }
        else s.lane n) ∧
      t = { s with
        sck := { s.sck with clock := time, clockSet := true }, pt := t.pt
        pu := { s.pu with lanes := t.pu.lanes
                          deadline := { s.pu.deadline with passed := s.pu.deadline.passed || expires } }
        nfu := if expires then (s.raise .deadlinePassed).nfu else s.nfu
        oe := if s.oe.state = .idle then s.oe else { s.oe with clockSetSeen := true }
        pp := { s.pp with port := .answered tag .ok (be 4 s.sck.clock ++ be 4 time) } }

/-- R158, R23, R44, R106, R135: CLEAR ALL, its three refusals in their order, and the voyage clear: persons, cards,
occupants, counts, permits, tallies, evidence and the deadline cleared, and everything else kept. The time of the
disarmed deadline is kept, log 20. -/
def Obligations.ClearAllClears : Prop :=
  ∀ (tag : Tag) (s : State), s.accepts (.clearAll tag) = true → s.tablesCanonical = true →
    let open_ : Prop := ∃ n, (s.slot n).tab ≠ none
    (s.oe.state ≠ .idle → exec (.clearAll tag) s = .next (s.answered tag .busy [])) ∧
    (s.oe.state = .idle → open_ → exec (.clearAll tag) s = .next (s.answered tag .tabsOpen [])) ∧
    (s.oe.state = .idle → ¬open_ → s.pq.records ≠ [] →
      exec (.clearAll tag) s = .next (s.answered tag .notEmpty [])) ∧
    (s.oe.state = .idle → ¬open_ → s.pq.records = [] → ∃ t, exec (.clearAll tag) s = .next t ∧
      (∀ c, t.cabin c = { s.cabin c with occupants := [] }) ∧
      (∀ n, t.lane n = { s.lane n with
        permit := none, tallies := ⟨0, 0, 0, 0, 0, 0⟩, effective := deriveMode s.sck.muster (s.lane n).configured }) ∧
      (∀ n, t.slot n = s.slot n) ∧ (∀ n, t.terminal n = { s.terminal n with tabs := [] }) ∧
      t = { s with
        pt := [], ci := { entries := [], order := [] }, ct := t.ct
        pu := { s.pu with
          counts := ⟨0, 0, 0, 0, 0⟩, lanes := t.pu.lanes, evidence := []
          deadline := { s.pu.deadline with armed := false, passed := false } }
        tu := { s.tu with slots := t.tu.slots, terminals := t.tu.terminals }
        pp := { s.pp with port := .answered tag .ok [] } })

/-- R37, R41, R42, R80, R85, R143, R156, R157, R159, R160, R187: the pins. A change of the MUSTER line moves the line;
once the filter has let it through, a rise enters the muster state and a fall leaves it, at every block in one update.
SUPM's loss ends the main domain and, with SUPB absent, the retention mark; a return, or a release of RESET, resets the
part: COLD without the mark at a return, else WARM; a return under an active RESET leaves the reset to its release. The
model's choices: what a MUSTER row stands for and the level at a return, log 16; what is cleared at the loss itself, logs
17 and 18; the contacts that a WARM reset starts again, log 19; the milliseconds into the second, log 6; the deadline's
time, log 20; the expiry within the reset, log 30; a release without SUPM, log 34. So are what the resets and the loss
leave in the model's own fields and in fields of no stated value: the count of tags drawn, kept, log 8; no bytes clocked
out or sent, log 14; the link timers at 0, log 15; no sweep POLL before, log 21; the doze measure spent, log 22. -/
def Obligations.PinsAct : Prop :=
  ∀ s : State,
    let woke (t : State) : Prop := ∀ n, t.link n =
      if 2 ≤ n ∧ n ≤ 5 ∧ (s.link n).state = .doze then (s.link n).woken s.sck.elapsed else s.link n
    let raised (t : State) : Prop := ∀ k, t.nfu.pending.getLsbD k = (s.nfu.pending.getLsbD k || decide (k = 16) ||
      (decide (k = 11) && segmentNumbers.any fun g => (s.link (segLink g)).state = .doze))
    let segments (t : State) (rel : Bool) : Prop := ∀ g, (t.seg g).wanted = (if g ≤ 3 then rel else (s.seg g).wanted) ∧
      (g ≤ 3 → (t.seg g).due = if rel then .allRelease else .allRestore) ∧
      t.seg g = { s.seg g with wanted := (t.seg g).wanted, due := (t.seg g).due, roster := (t.seg g).roster
                               measure := (t.seg g).measure } ∧
      ∀ st, t.lock? g st = if g ≤ 3 then (s.lock? g st).map fun k => { k with
        release := if rel then k.release.onRelease else k.release.onRestore } else s.lock? g st
    let closed := mapD Lane.cold (fun l => { l with effective := deriveMode true l.configured }) s.pu.lanes
    let derived : State := { s with pu := { s.pu with lanes := closed } }
    (s.takesEvents = true → s.sck.musterLevel = true → s.sck.muster = false → rising s.pu.lanes = true →
      ∃ t, exec .musterEntry s = .next t ∧
      t.pu.snapshot = some { time := s.sck.clock, aboard := s.pu.counts.aboard, disputed := s.pu.counts.disputed
                             ashore := s.pu.counts.ashore, notEmbarked := s.pu.counts.notEmbarked } ∧
      derived.permitsWithdrawn t (fun k => k.direction = .outward) ∧
      woke t ∧ segments t true ∧ raised t ∧
      t = { s with
        sck := { s.sck with muster := true }, pt := t.pt, lk := t.lk, sc := t.sc
        pu := { s.pu with lanes := t.pu.lanes, snapshot := t.pu.snapshot }
        nfu := { s.nfu with pending := t.nfu.pending }
        oe := if s.oe.state = .idle then s.oe else { s.oe with musterSeen := true } }) ∧
    (s.takesEvents = true → s.sck.musterLevel = false → s.sck.muster = true → rising s.pu.lanes = true →
      ∃ t, exec .musterExit s = .next t ∧
      (∀ n, t.lane n = { s.lane n with effective := deriveMode s.pu.deadline.passed (s.lane n).configured }) ∧
      woke t ∧ segments t false ∧ raised t ∧
      t = { s with
        sck := { s.sck with muster := false }, lk := t.lk, sc := t.sc
        pu := { s.pu with lanes := t.pu.lanes }, nfu := { s.nfu with pending := t.nfu.pending } }) ∧
    (∀ level i, (i = .musterEntry ∧ level = true ∨ i = .musterExit ∧ level = false) →
      (s.sck.supm = false → exec i s = .next s) ∧
      (s.sck.supm = true → (s.takesEvents = false ∨ s.sck.musterLevel ≠ level ∨ s.sck.muster = level) →
        exec i s = .next (if s.sck.musterLine = level then s
          else { s with sck := { s.sck with musterLine := level, musterHold := 0 } }))) ∧
    (s.sck.supm = false → exec .supmLoss s = .next s) ∧
    (s.sck.supm = true → rising s.sc = true → ∃ t, exec .supmLoss s = .next t ∧
      (∀ n, t.link n = Link.cold) ∧ (∀ g, t.seg g = { s.seg g with outstanding := none }) ∧
      t = { s with
        pp := { port := .empty, pdo := [] }, lk := t.lk, sc := t.sc
        sck := { s.sck with supm := false, returned := false, mark := s.sck.mark && s.sck.supb } }) ∧
    exec .supbLoss s = .next { s with sck := { s.sck with supb := false, mark := s.sck.mark && s.sck.supm } } ∧
    exec .supbReturn s = .next { s with sck := { s.sck with supb := true } } ∧
    exec .resetAssert s = .next { s with sck := { s.sck with resetLine := true } } ∧
    (∀ level, s.sck.supm = true → exec (.supmReturn level) s = .next s) ∧
    (∀ level, s.sck.supm = false → s.sck.resetLine = true → exec (.supmReturn level) s = .next { s with
      sck := { s.sck with supm := true, musterLevel := level, musterLine := level, musterHold := 0, returned := true } }) ∧
    (s.sck.resetLine = false → exec .resetRelease s = .next s) ∧
    (s.sck.resetLine = true → s.sck.supm = false →
      exec .resetRelease s = .next { s with sck := { s.sck with resetLine := false } }) ∧
    ∀ (level cold line : Bool) (hold : Nat) (i : Instr), rising s.sc = true → rising s.pu.lanes = true →
      (i = .supmReturn level ∧ s.sck.supm = false ∧ s.sck.resetLine = false ∧ cold = !s.sck.mark ∧ line = level ∧
          hold = 0 ∨
        i = .resetRelease ∧ s.sck.resetLine = true ∧ s.sck.supm = true ∧ level = s.sck.musterLevel ∧
          cold = (s.sck.returned && !s.sck.mark) ∧ line = s.sck.musterLine ∧ hold = s.sck.musterHold) →
      ∃ t, exec i s = .next t ∧ t.takesEvents = true ∧ (∀ n, t.link n = Link.cold) ∧
      t.sck = { s.sck with
        elapsed := 0, muster := level, musterLevel := level, musterLine := line, musterHold := hold
        supm := true, resetLine := false, returned := false
        mark := cold || s.sck.mark, lastReset := if cold then .cold else .warm, clock := if cold then 0 else s.sck.clock
        clockSet := !cold && s.sck.clockSet, ms := if cold then 0 else s.sck.ms
        openDay := if cold then 1 else s.sck.openDay } ∧
      (cold = true →
        (∀ n, t.lane n = { point := 0, configured := .closed, effective := .closed, permit := none
                           tallies := ⟨0, 0, 0, 0, 0, 0⟩ }) ∧
        t.pu.snapshot = (if level then some ⟨0, 0, 0, 0, 0⟩ else none) ∧
        (∀ g, t.seg g = { Segment.cold with
          wanted := decide (g ≤ 3) && level, due := if g ≤ 3 ∧ level = true then .allRelease else .none }) ∧
        (∀ k, t.nfu.pending.getLsbD k = (decide (k = 0) || (level && decide (k = 16)))) ∧
        t = { State.reset with
          pending := s.pending, tagCount := s.tagCount, sck := t.sck, lk := t.lk, sc := t.sc
          pu := { counts := ⟨0, 0, 0, 0, 0⟩, lanes := t.pu.lanes, permitWindow := 10
                  deadline := { armed := false, time := 0, passed := false }
                  snapshot := t.pu.snapshot, evidence := [] }
          nfu := { pending := t.nfu.pending, enables := 0, status := 0, masks := 0, severe := 0, first := none
                   refusalRecord := 0, refusalNotice := 0 } }) ∧
      (cold = false →
        let was := s.sck.muster
        let d := s.pu.deadline
        let expires : Bool := d.armed && !d.passed && decide (d.time ≤ s.sck.clock)
        let closing : Bool := d.passed || expires || level
        let shifts (g : Nat) : Bool := decide (g ≤ 3) && (level || was)
        (∀ q, t.person? q = (s.person? q).map fun r => { r with
          permitLane := none, lastLane := none, lastCrossing := none }) ∧
        (∀ n, t.lane n =
          let ends : Bool := decide (n ∈ laneNumbers) && (s.lane n).permit.isSome
          let l := s.lane n
          { l with
            effective := deriveMode closing l.configured
            permit := if ends then none else l.permit
            tallies := if ends then { l.tallies with scanNoPass := min 65535 (l.tallies.scanNoPass + 1) }
              else l.tallies }) ∧
        (∀ g, t.seg g = { s.seg g with
          roster := (t.seg g).roster, cursor := 1, unreachable := 0, dozeCount := 0, outstanding := none
          lastPoll := none, measure := { start := 0, limit := none }
          wanted := if shifts g then level else (s.seg g).wanted
          due := if shifts g then (if level then .allRelease else .allRestore) else (s.seg g).due }) ∧
        (∀ g st, t.lock? g st = (s.lock? g st).map fun k =>
          let heard : Lock := if k.ackGen = none then k else { k with lastContact := some 0, dozeAtContact := 0 }
          if shifts g then { heard with release := if level then k.release.onRelease else k.release.onRestore }
          else heard) ∧
        (∀ k, t.nfu.pending.getLsbD k = (decide (k = 0) || (decide (k = 16) && (level || was)) ||
          (decide (k = 4) && expires))) ∧
        t = { s with
          pp := { port := .empty, pdo := [] }, sck := t.sck, lk := t.lk, pt := t.pt, sc := t.sc
          pu := { s.pu with
            lanes := t.pu.lanes, deadline := { d with passed := d.passed || expires }, evidence := []
            snapshot := if level = true ∧ was = false then some { time := s.sck.clock, aboard := s.pu.counts.aboard
                                                                  disputed := s.pu.counts.disputed
                                                                  ashore := s.pu.counts.ashore
                                                                  notEmbarked := s.pu.counts.notEmbarked }
              else s.pu.snapshot }
          oe := if s.oe.state = .idle then s.oe else { s.oe with state := .idle, result := some .reset }
          nfu := { s.nfu with pending := t.nfu.pending, status := 0, first := none } })

/-! ### Notices and faults -/

/-- R182, R183, R156, R157: CLEAR NOTICES removes the named kinds, SET ENABLES replaces the enable set, a bit above 17
is refused RANGE, a raised notice joins the pending set, and ATTN is low while the two sets share a kind, SUPM is present
and the RESET line is inactive. -/
def Obligations.NoticeCommands : Prop :=
  (∀ (tag : Tag) (kinds : BitVec 24) (s : State),
    (s.accepts (.clearNotices tag kinds) = true →
      (2 ^ 18 ≤ kinds.toNat → exec (.clearNotices tag kinds) s = .next (s.answered tag .range [])) ∧
      (kinds.toNat < 2 ^ 18 → ∃ t, exec (.clearNotices tag kinds) s = .next t ∧
        (∀ k, t.nfu.pending.getLsbD k = (s.nfu.pending.getLsbD k && !kinds.getLsbD k)) ∧
        let body := be 3 s.nfu.pending.toNat ++ be 3 t.nfu.pending.toNat
        t = { s with nfu := { s.nfu with pending := t.nfu.pending }
                     pp := { s.pp with port := .answered tag .ok body } })) ∧
    (s.accepts (.setEnables tag kinds) = true →
      (2 ^ 18 ≤ kinds.toNat → exec (.setEnables tag kinds) s = .next (s.answered tag .range [])) ∧
      (kinds.toNat < 2 ^ 18 → ∃ t, exec (.setEnables tag kinds) s = .next t ∧
        t.nfu.enables.toNat = kinds.toNat ∧
        t = { s with nfu := { s.nfu with enables := t.nfu.enables }
                     pp := { s.pp with port := .answered tag .ok (be 3 s.nfu.enables.toNat) } }))) ∧
  (∀ (s : State) (n : Notice) (k : Nat),
    (s.raise n).nfu.pending.getLsbD k = (s.nfu.pending.getLsbD k || decide (k = n.ctorIdx))) ∧
  ∀ s : State, s.attnLow = true ↔ s.sck.supm = true ∧ s.sck.resetLine = false ∧
    ∃ k, k < 18 ∧ s.nfu.pending.getLsbD k = true ∧ s.nfu.enables.getLsbD k = true

/-- R184 to R186, R163, R169: recording a fault: status, capture of the first unmasked one, FAULT, and a SEVERE fault of a
link in UP or DOZE takes it through RECOVERY to TRAINING. CLEAR FAULTS removes the named kinds, and the record with the
last; SET MASKS replaces both sets. That CLEAR FAULTS passes over bits above 8 is the model's reading, log 34, and so is
the end of the doze measure on leaving service, log 22. -/
def Obligations.FaultsAct : Prop :=
  (∀ (s : State) (r : FaultRecord),
    let k := r.kind.ctorIdx
    let masked := s.nfu.masks.getLsbD k
    let severe := k = 5 ∨ k = 8 ∨ k < 4 ∧ s.nfu.severe.getLsbD k = true
    let recovers : Bool := decide severe && decide (r.port < 6) && (s.link r.port).inService
    let l := s.link r.port
    let t := s.recordFault r
    (∀ j, t.nfu.status.getLsbD j = (s.nfu.status.getLsbD j || decide (j = k))) ∧
      t.nfu.first = (if masked ∨ s.nfu.first ≠ none then s.nfu.first else some r) ∧
      (∀ j, t.nfu.pending.getLsbD j =
        (s.nfu.pending.getLsbD j || (!masked && decide (j = 15)) || (recovers && decide (j = 11)))) ∧
      (recovers = false → t = { s with nfu := t.nfu }) ∧
      (recovers = true →
        (∀ m, t.link m = if m = r.port then { l with
          state := .training, history := (.recovery :: l.state :: l.history).take 3, attempt := 1
          attemptStart := s.sck.elapsed, trains := 0, intake := [], answers := [] } else s.link m) ∧
        s.serviceEnded t r.port) ∧
      t = { s with
        lk := t.lk, sc := t.sc, pt := t.pt, pu := { s.pu with lanes := t.pu.lanes }
        nfu := { s.nfu with status := t.nfu.status, first := t.nfu.first, pending := t.nfu.pending } }) ∧
  ∀ (tag : Tag) (s : State),
    (∀ kinds, s.accepts (.clearFaults tag kinds) = true → ∃ t, exec (.clearFaults tag kinds) s = .next t ∧
      (∀ k, t.nfu.status.getLsbD k = (s.nfu.status.getLsbD k && !kinds.getLsbD k)) ∧
      t = { s with
        nfu := { s.nfu with status := t.nfu.status, first := if t.nfu.status = 0 then none else s.nfu.first }
        pp := { s.pp with port := .answered tag .ok (be 2 s.nfu.status.toNat ++ opt FaultRecord.bytes s.nfu.first) } }) ∧
    ∀ masks severe, s.accepts (.setMasks tag masks severe) = true →
      ((512 ≤ masks.toNat ∨ 16 ≤ severe.toNat) →
        exec (.setMasks tag masks severe) s = .next (s.answered tag .range [])) ∧
      (masks.toNat < 512 → severe.toNat < 16 → ∃ t, exec (.setMasks tag masks severe) s = .next t ∧
        t.nfu.masks.toNat = masks.toNat ∧ t.nfu.severe.toNat = severe.toNat ∧
        t = { s with nfu := { s.nfu with masks := t.nfu.masks, severe := t.nfu.severe }
                     pp := { s.pp with port := .answered tag .ok (be 2 s.nfu.masks.toNat ++ be 2 s.nfu.severe.toNat) } })

/-! ### The purser port -/

/-- R171 to R174, R157, R177, R178, R180: the checks of a command frame in their order, each with the bytes that fail it;
a command write that passes makes PP BUSY with the command; in BUSY it is disregarded with PURSER_FORM; one that fails is
answered FORMAT with PURSER_FORM; another select byte records PURSER_FORM. An answer read, which the select byte 0x02 makes
of a transaction, carries the answer frame, or the marker of the port's state, under an active RESET line too. The model's
readings: a coded byte or a flag that names no value is answered RANGE, and a presence byte other than 0 and 1 FORMAT, log
11; the owner's RANGE to such a command, whose write makes PP BUSY, comes with a step of an empty queue, log 44; the header
log of a write in BUSY, log 26; a transaction without a byte, log 39. -/
def Obligations.PurserPortTransacts : Prop :=
  (∀ bs : List Byte,
    let n := numAt bs 3 2
    ((bs.length < 7 ∨ bs.length ≠ 7 + n) → checkCommand bs = .format) ∧
    (7 ≤ bs.length → bs.length = 7 + n →
      (bs.drop (5 + n) ≠ be 2 (crc (bs.take (5 + n))).toNat → checkCommand bs = .format) ∧
      ((byteAt bs 0 < 1 ∨ 54 < byteAt bs 0) → checkCommand bs = .format))) ∧
  (∀ (i : Instr) (code : Nat) (tag : Tag) (body : List Byte), i.wf = true → i.command = some (code, tag, body) →
    (∀ more, more ≠ [] → body.length + more.length < 65536 → checkCommand (commandBytes code tag (body ++ more)) = .format) ∧
    ∀ k, k < body.length → body.length < 65536 → checkCommand (commandBytes code tag (body.take k)) = .format) ∧
  (∀ (tag : Tag) (a b : Byte), 2 ≤ b.toNat →
    checkCommand (commandBytes 25 tag [a, b]) = .format ∧ checkCommand (commandBytes 34 tag [b]) = .range ∧
    checkCommand (commandBytes 26 tag [a, b]) = .range ∧
    (4 ≤ b.toNat → checkCommand (commandBytes 12 tag [a, a, b]) = .range) ∧
    (5 ≤ b.toNat → checkCommand (commandBytes 14 tag [a, a, b]) = .range) ∧
    checkCommand (commandBytes 18 tag [a, a, a, b, a, a]) = .range) ∧
  ∀ s : State,
    let busy : Prop := (∃ c, s.pp.port = .busy c) ∨ ∃ tag, s.pp.port = .busyUnlisted tag
    exec (.commandWrite []) s = .next s ∧
    (∀ bs, exec (.commandWrite (0x02 :: bs)) s = exec (.answerRead bs.length) s) ∧
    (s.takesEvents = true →
      (busy → ∀ bs, exec (.commandWrite (0x01 :: bs)) s = .next (s.recordFault (writeFault bs))) ∧
      (∀ tag, s.pp.port = .busyUnlisted tag → s.pending = [] → step s = .next (s.answered tag .range [])) ∧
      (¬busy →
        (∀ i code tag body, i.wf = true → i.command = some (code, tag, body) → body.length < 65536 →
          exec (.commandWrite (0x01 :: commandBytes code tag body)) s =
            .next { s with pp := { s.pp with port := .busy i } }) ∧
        (∀ bs, checkCommand bs = .format →
          let tag : Tag := if 3 ≤ bs.length then BitVec.ofNat 16 (ofBe ((bs.drop 1).take 2)) else 0
          exec (.commandWrite (0x01 :: bs)) s = .next ((s.answered tag .format []).recordFault (writeFault bs))) ∧
        ∀ bs, checkCommand bs = .range →
          exec (.commandWrite (0x01 :: bs)) s =
            .next { s with pp := { s.pp with port := .busyUnlisted (BitVec.ofNat 16 (numAt bs 1 2)) } }) ∧
      (∀ b bs, b ≠ 0x01 → b ≠ 0x02 → exec (.commandWrite (b :: bs)) s = .next (s.recordFault
        { kind := .purserForm, port := 6, station := none, frameKind := none, tag := none }))) ∧
    ∀ n, s.sck.supm = true →
      let carried : List Byte := match s.pp.port with
        | .empty => List.replicate n 0xF1
        | .busy _ | .busyUnlisted _ => List.replicate n 0xF0
        | .answered tag code body =>
          let covered := be 2 tag.toNat ++ be 1 code.number ++ be 2 body.length ++ body
          (0xAA :: covered ++ be 2 (crc covered).toNat ++ List.replicate n 0xF1).take n
      exec (.answerRead n) s = .next { s with
        pp := { s.pp with pdo := if s.sck.resetLine then List.replicate n 0xF0 else carried } }

/-! ### Frames taken and sent -/

/-- R165 to R169, R174 to R176, R79: the three checks of R167 in their order, each with the bytes that fail it; an
arriving frame, by the link's state and the checks: refused with its fault, discarded, a link trained, a timer started
again, or a station frame joined to an intake queue of 16; and how an owner takes it. The model's readings: how a frame
comes to its owner, log 2; the doze measure on entering UP, log 22; discarded and dropped frames, logs 27 and 29. -/
def Obligations.FramesArrive : Prop :=
  (∀ (n : Nat) (bs : List Byte), n ≤ 5 →
    let m := byteAt bs 4
    let body := (bs.drop 5).take m
    let kind := byteAt bs 2
    let coded (at_ top : Nat) : Prop := byteAt body at_ ≤ top
    let fits : Prop :=
      kind = 0x02 ∧ m = 1 ∧ coded 0 2 ∨ kind = 0x03 ∧ m = 0 ∨
      n = 0 ∧ (kind, m) ∈ [(0x20, 6), (0x21, 8), (0x22, 2), (0x23, 6), (0x24, 16), (0x25, 6)] ∨
      n = 1 ∧ (kind = 0x30 ∧ m = 6 ∨ kind = 0x31 ∧ m = 1 ∧ coded 0 1) ∨
      2 ≤ n ∧ (kind = 0x10 ∧ m = 9 ∧ coded 8 1 ∨ kind = 0x13 ∧ m = 2 ∨ kind = 0x15 ∧ m = 5 ∧ coded 2 15 ∧ coded 3 1 ∨
        kind = 0x17 ∧ m = 13 ∧ coded 0 1 ∧ coded 11 1)
    ((bs.length ≠ 5 + m + 2 ∨ 64 < m) → checkFrame n bs = .form) ∧
    (bs.length = 5 + m + 2 → m ≤ 64 →
      (bs.drop (5 + m) ≠ be 2 (crc (bs.take (5 + m))).toNat → checkFrame n bs = .check) ∧
      (bs.drop (5 + m) = be 2 (crc (bs.take (5 + m))).toNat →
        (¬fits → checkFrame n bs = .form) ∧
        (fits → checkFrame n bs = .good {
          station := ofBe (bs.take 2), kind := bs.getD 2 0, tag := bs.getD 3 0, body := body })))) ∧
  ∀ (s : State) (n : Nat), s.takesEvents = true →
    let l := s.link n
    (n ≤ 5 → ∀ bs,
      let run := exec (.linkFrameArrival n bs) s
      let header : FaultRecord := {
        kind := .frameForm, port := n, station := if 2 ≤ bs.length then some (ofBe (bs.take 2)) else none
        frameKind := (bs[2]?).map (·.toNat), tag := (bs[3]?).map (·.toNat) }
      (l.state = .down ∨ l.state = .recovery ∨ l.state = .failed → run = .next s) ∧
      (l.state = .training → ∀ f, checkFrame n bs = .good f → f.kind = 0x02 → byteAt f.body 0 = linkKind n →
        ∃ t, run = .next t ∧ s.enteredUp t n) ∧
      (l.state = .training → (∀ f, checkFrame n bs = .good f → f.kind ≠ 0x02 ∨ byteAt f.body 0 ≠ linkKind n) →
        run = .next s) ∧
      (l.inService = true →
        (checkFrame n bs = .form → run = .next (s.recordFault header)) ∧
        (checkFrame n bs = .check → run = .next (s.recordFault { header with kind := .frameCheck })) ∧
        ∀ f, checkFrame n bs = .good f →
          (f.kind = 0x03 ∨ f.kind = 0x02 → run = .next (s.setLink n { l with
            silenceStart := s.sck.elapsed, lastGood := some s.sck.elapsed })) ∧
          (f.kind ≠ 0x03 → f.kind ≠ 0x02 → ∃ t, s.arrived t n f.kind ∧
            run = .next (if l.intake.length < 16 then t.setLink n { t.link n with intake := l.intake ++ [f] }
              else t.recordFault { kind := .intakeOverrun, port := n, station := some f.station
                                   frameKind := some f.kind.toNat, tag := some f.tag.toNat })))) ∧
    (n ≤ 5 → ∀ hub, hub ≤ 2 →
      let run := exec (.trainReply n hub) s
      (l.state = .training → hub = linkKind n → ∃ t, run = .next t ∧ s.enteredUp t n) ∧
      (l.state = .training → hub ≠ linkKind n → run = .next s) ∧
      (l.inService = true → run = .next (s.setLink n { l with
        silenceStart := s.sck.elapsed, lastGood := some s.sck.elapsed })) ∧
      (l.state = .down ∨ l.state = .recovery ∨ l.state = .failed → run = .next s)) ∧
    (l.inService = true → ∀ f,
      (∀ rest, l.intake = f :: rest → s.takeFrame n f = some (s.setLink n { l with intake := rest })) ∧
      (∀ g rest, l.intake = g :: rest → g ≠ f → s.takeFrame n f = none) ∧
      (l.intake = [] → ∃ t, s.arrived t n f.kind ∧ s.takeFrame n f = some t)) ∧
    (l.inService = false → ∀ f, s.takeFrame n f = none)

/-- R46 to R53, R67: a presentation from an enrolled station is decided by the table of R47 to R51 and answered; the
lock's contact and deadbolt are recorded, a grant sends evidence, a revoked card appends its ACCESS record. One from a
station not enrolled records STATION_UNKNOWN and is not answered. How a frame comes to its owner is the model's
choice, log 2. -/
def Obligations.DoorsDecide : Prop :=
  ∀ (g st gen : Nat) (tag : Byte) (serial : Serial) (bolt : Bool) (s0 s : State) (f : Frame),
    f = { station := st, kind := 0x10, tag := tag, body := serialBytes serial ++ be 2 gen ++ flagByte bolt } →
    s0.takeFrame (segLink g) f = some s →
    let run := exec (.presentation g st tag serial gen bolt) s0
    (s.lock? g st = none → run = .next (s.recordFault { kind := .stationUnknown, port := segLink g, station := some st
                                                        frameKind := some 16, tag := some tag.toNat })) ∧
    ∀ k, s.lock? g st = some k →
      let c := s.doorOutcome k.kind serial gen bolt
      let person := ((s.card? serial).map (·.person)).getD 0
      let seen : State := if c = .revoked then (s.append s.sck.clock (some person) s.sck.openDay
        (.access .revokedUse (.door g st) serial false)).raise .revokedUse else s
      ∃ t, run = .next t ∧ s.answerWaits t (segLink g) f 0x11 (be 1 c.number) ∧
        t.lock? g st = some { k with
          lastContact := some s.sck.elapsed, dozeAtContact := (s.seg g).dozeCount
          status := { k.status with deadbolt := bolt }, state := if k.state = .stale then .online else k.state } ∧
        (∀ x, x ≠ st → t.lock? g x = s.lock? g x) ∧ t.seg g = { s.seg g with roster := (t.seg g).roster } ∧
        (∀ h, h ≠ g → t.seg h = s.seg h) ∧
        t.pu = { s.pu with evidence := s.pu.evidence ++ (if c = .granted ∨ c = .grantedReissue then
          [{ person := person, time := s.sck.clock, serial := serial, source := .door g st, offline := false }]
          else []) } ∧
        t = { seen with lk := t.lk, sc := t.sc, pu := t.pu }

/-- R66, R69, R70, R72, R74, R76, R77, R81, R55 to R59: replies. One that does not answer the outstanding frame
records REPLY_UNEXPECTED; one for a station withdrawn meanwhile ends the frame alone; any other ends it as a good
reply and writes the lock's record, its cabin's generation, and the push and fetch lists, as its own rule lays down.
How a frame comes to its owner is the model's choice, log 2. -/
def Obligations.LockRepliesSettle : Prop :=
  ∀ (g st : Nat) (tag : Byte) (i : Instr) (asked : Asked) (f : Frame) (s0 s : State),
    (asked = .push ∧ (∃ floor, i = .pushAck g st tag floor) ∨ asked = .poll ∧ (∃ r, i = .pollReply g st tag r) ∨
      asked = .logFetch ∧ ∃ r, i = .logReply g st tag r) →
    i.stationFrame = some (segLink g, f) → s0.takeFrame (segLink g) f = some s →
    let answers (o : Outstanding) : Prop := o.asked = asked ∧ o.frame.station = st ∧ o.frame.tag = tag
    ((∀ o, (s.seg g).outstanding = some o → ¬answers o) → exec i s0 = .next (s.recordFault {
      kind := .replyUnexpected, port := segLink g, station := some st, frameKind := some f.kind.toNat
      tag := some tag.toNat })) ∧
    ∀ o, (s.seg g).outstanding = some o → answers o →
      ((o.withdrawn = true ∨ s.lock? g st = none) → exec i s0 = .next (s.setSeg g { s.seg g with
        outstanding := none, unreachable := 0 })) ∧
      ∀ k, o.withdrawn = false → s.lock? g st = some k →
        let met : Lock := { k with
          lastContact := some s.sck.elapsed, dozeAtContact := (s.seg g).dozeCount
          state := if k.state = .stale then .online else k.state }
        let cab := k.kind.cabin?
        let gen := (cab.map fun c => (s.cabin c).keyGen).getD 0
        let gone := (s.seg g).pushes.filter (· ≠ st)
        let written (t : State) (l : Lock) (pushes fetches : List Nat) : Prop := t.lock? g st = some l ∧
          (∀ x, x ≠ st → t.lock? g x = s.lock? g x) ∧ (∀ h, h ≠ g → t.seg h = s.seg h) ∧
          t.seg g = { s.seg g with roster := (t.seg g).roster, pushes := pushes, fetches := fetches
                                   outstanding := none, unreachable := 0 }
        let floored (t : State) (floor : Nat) : Prop :=
          (∀ c, t.cabin c = if cab = some c then { s.cabin c with keyGen := max (s.cabin c).keyGen floor }
            else s.cabin c) ∧
          ∀ q, t.person? q = (s.person? q).map fun r => { r with
            reissueDue := r.reissueDue || cab.any fun c => decide ((s.cabin c).keyGen < floor) &&
              decide (q ∈ (s.cabin c).occupants) && (s.activeGen? r).any fun a => a < floor }
        (∀ floor, i = .pushAck g st tag floor → ∃ t, exec i s0 = .next t ∧ floored t floor ∧
          written t { met with ackGen := some floor } (if cab = none then (s.seg g).pushes
            else if floor < gen then gone ++ [st] else gone) (s.seg g).fetches ∧
          t = { s with sc := t.sc, ct := t.ct, pt := t.pt }) ∧
        (∀ r, i = .pollReply g st tag r → ∃ t, exec i s0 = .next t ∧ floored t r.floor ∧
          written t { met with
            state := .online, ackGen := some r.floor, status := r.status, logCount := r.logCount
            release := if (s.seg g).wanted then (if r.released then .released else .releasePending)
              else if r.released then .restorePending else .normal }
            (if cab = none then (s.seg g).pushes
              else if gen ≤ r.floor then gone
              else if st ∈ (s.seg g).pushes then (s.seg g).pushes else (s.seg g).pushes ++ [st])
            (if r.logCount = 0 then (s.seg g).fetches.filter (· ≠ st)
              else if st ∈ (s.seg g).fetches then (s.seg g).fetches else (s.seg g).fetches ++ [st]) ∧
          t = { s with
            sc := t.sc, ct := t.ct, pt := t.pt
            nfu := if r.status.battery && !k.status.battery || r.status.tamper && !k.status.tamper then
              (s.raise .lockAlert).nfu else s.nfu }) ∧
        ∀ r, i = .logReply g st tag r →
          let card := s.card? r.serial
          let active : Bool := card.any fun e => e.state = .active
          let exposes : Bool := r.present && r.granted && !active
          let shown : State := if exposes then (s.append r.time (card.map (·.person)) s.sck.openDay
            (.access .exposure (.door g st) r.serial true)).raise .exposure else s
          ∃ t, exec i s0 = .next t ∧
            written t { met with logCount := r.remaining } (s.seg g).pushes
              (if r.remaining = 0 then (s.seg g).fetches.filter (· ≠ st) else (s.seg g).fetches) ∧
            t.pu = { s.pu with evidence := s.pu.evidence ++ (if r.present && r.granted && active then
              [{ person := (card.map (·.person)).getD 0, time := r.time, serial := r.serial, source := .door g st
                 offline := true }] else []) } ∧
            t = { shown with sc := t.sc, pu := t.pu }

/-- R29 to R31: a scan at an open lane: refused by the first check that applies with nothing else changed, a REVOKED
card with its ACCESS record and notice; or a permit on the lane and the person, counted and answered. How a frame
comes to its owner is the model's choice, log 2; the person of a refusal is log 24. -/
def Obligations.ScansGrantPermits : Prop :=
  ∀ (n : Nat) (tag : Byte) (serial : Serial) (s0 s : State) (f : Frame),
    f = { station := n, kind := 0x30, tag := tag, body := serialBytes serial } → s0.takeFrame 1 f = some s →
    let run := exec (.scan n tag serial) s0
    let refused (c : Code) (p : Option Nat) : Prop := ∃ t, run = .next t ∧
      s.answerWaits t 1 f 0x3F (be 1 c.number ++ be 2 (p.getD 65535)) ∧ t = { s with lk := t.lk }
    ((n < 1 ∨ 8 < n) → refused .range none) ∧
    (1 ≤ n → n ≤ 8 →
      ((s.lane n).effective = .closed → refused .laneClosed none) ∧
      ((s.lane n).effective ≠ .closed → s.card? serial = none → refused .unknownCard none) ∧
      ((s.lane n).effective ≠ .closed → ∀ e day, s.card? serial = some e → e.state = .revoked day → ∃ t, run = .next t ∧
        s.answerWaits t 1 f 0x3F (be 1 9 ++ be 2 e.person) ∧
        t = { (s.append s.sck.clock (some e.person) s.sck.openDay
          (.access .revokedUse (.lane n) serial false)).raise .revokedUse with lk := t.lk }) ∧
      ((s.lane n).effective ≠ .closed → ∀ e r, s.card? serial = some e → e.state = .active →
        s.person? e.person = some r →
        let out : Bool := (s.lane n).effective = .outbound || ((s.lane n).effective = .both && r.presence = .aboard)
        let c := s.scanOutcome n r out
        (c ≠ .permit → refused c (some e.person)) ∧
        (c = .permit → ∃ t, run = .next t ∧
          (∀ m, t.lane m = if m = n then { s.lane n with
            permit := some { person := e.person, direction := if out then .outward else .inward, fromState := r.presence
                             expiry := s.sck.elapsed + 1000 * s.pu.permitWindow }
            tallies := { (s.lane n).tallies with granted := min 65535 ((s.lane n).tallies.granted + 1) } }
            else s.lane m) ∧
          (∀ q, t.person? q = if q = e.person then some { r with permitLane := some n } else s.person? q) ∧
          s.answerWaits t 1 f 0x3F
            (be 1 31 ++ be 1 (if out then 0 else 1) ++ be 2 e.person ++ be 4 s.pu.permitWindow) ∧
          t = { s with lk := t.lk, pt := t.pt, pu := { s.pu with lanes := t.pu.lanes } })))

/-- R33 to R35, R41: a passage: with a permit of its direction and the person still in its from-state the crossing
commits, LATE for an overdue person; with the state changed it is stale; without such a permit it is unscanned. How a
frame comes to its owner is the model's choice, log 2; the numbers of the results are log 13, and the absent person of an
unscanned passage as 0xFFFF before the result is log 40. That a stale and an unscanned passage are answered with the code
OK is the model's reading, log 46. -/
def Obligations.PassagesCross : Prop :=
  ∀ (n : Nat) (tag : Byte) (d : Direction) (s0 s : State) (f : Frame),
    f = { station := n, kind := 0x31, tag := tag, body := be 1 d.code } → s0.takeFrame 1 f = some s →
    let run := exec (.passage n tag d) s0
    let l := s.lane n
    let crossing (late disputed stale unscanned : Bool) : Crossing :=
      { lane := n, direction := d, late := late, wasDisputed := disputed, stale := stale, unscanned := unscanned
        minutesLate := if late then some ((s.sck.clock - s.pu.deadline.time) / 60) else none }
    ((n < 1 ∨ 8 < n) → ∃ t, run = .next t ∧ s.answerWaits t 1 f 0x3F (be 1 2) ∧ t = { s with lk := t.lk }) ∧
    (1 ≤ n → n ≤ 8 → (∀ k, l.permit = some k → k.direction ≠ d) → ∃ t, run = .next t ∧
      (∀ m, t.lane m = if m = n then { l with
        tallies := { l.tallies with passNoScan := min 65535 (l.tallies.passNoScan + 1) } } else s.lane m) ∧
      s.answerWaits t 1 f 0x3F (be 1 0 ++ be 2 65535 ++ be 1 2) ∧
      t = { (s.appendCrossing none (crossing false false false true)).raise .tailgate with
        lk := t.lk, pu := { s.pu with lanes := t.pu.lanes } }) ∧
    ∀ k r, 1 ≤ n → n ≤ 8 → l.permit = some k → k.direction = d → s.person? k.person = some r →
      (r.presence ≠ k.fromState → ∃ t, run = .next t ∧
        (∀ m, t.lane m = if m = n then { l with
          permit := none, tallies := { l.tallies with stale := min 65535 (l.tallies.stale + 1) } } else s.lane m) ∧
        (∀ q, t.person? q = if q = k.person then some { r with permitLane := none } else s.person? q) ∧
        s.answerWaits t 1 f 0x3F (be 1 0 ++ be 2 k.person ++ be 1 1) ∧
        t = { (s.appendCrossing (some k.person) (crossing false false true false)).raise .stalePassage with
          lk := t.lk, pt := t.pt, pu := { s.pu with lanes := t.pu.lanes } }) ∧
      (r.presence = k.fromState → fromStateOk d k.fromState = true →
        let late : Bool := k.fromState = .ashore && s.pu.deadline.armed && s.pu.deadline.passed
        let new : Presence := if d = .outward then .ashore else .aboard
        let up (x : Nat) : Nat := min 65535 (x + 1)
        let queued := s.appendCrossing (some k.person) (crossing late (decide (k.fromState = .disputed)) false false)
        ∃ t, run = .next t ∧
          (∀ m, t.lane m = if m = n then { l with
            permit := none
            tallies := if d = .outward then { l.tallies with outward := up l.tallies.outward }
              else { l.tallies with inward := up l.tallies.inward } } else s.lane m) ∧
          (∀ q, t.person? q = if q = k.person then some { r with
            presence := new, ashoreSince := if d = .outward then some s.sck.clock else none, permitLane := none
            lastLane := some n, lastCrossing := some s.sck.elapsed } else s.person? q) ∧
          (∀ st, t.pu.counts.of st = if st = new then s.pu.counts.of st + 1
            else if st = r.presence then s.pu.counts.of st - 1 else s.pu.counts.of st) ∧
          s.answerWaits t 1 f 0x3F (be 1 0 ++ be 2 k.person ++ be 1 0) ∧
          t = { (if late then queued.raise .lateReturn else queued) with
            lk := t.lk, pt := t.pt, pu := { s.pu with lanes := t.pu.lanes, counts := t.pu.counts } })

/-- R53, R70, R71, R73 to R75, R77, R79, R80, R90: what the transmit arbiter sends, in its order of kinds: the oldest
answer, a due broadcast, a PUSH with the cabin's key generation, a LOG FETCH, a sweep POLL; the resend at the end of a
wait, held back behind an answer or a broadcast; and after the fourth sending REPLY_TIMEOUT and an UNREACHABLE lock.
The tags are free values, log 8; the first POLL after a reset waits for no spacing, log 21; the doze measure is log
22; that a resend carries the body of its first sending is the model's reading, log 38. -/
def Obligations.SegmentsSend : Prop :=
  ∀ (s : State), s.takesEvents = true →
    let now := s.sck.elapsed
    let sent (t : State) (n : Nat) (f : Frame) (answers : List Frame) : Prop := ∀ m, t.link m =
      if m = n then { s.link n with sent := f.bytes, lastSend := now, answers := answers } else s.link m
    (∀ i n f rest, (i = .venueAnswer ∧ n = 0 ∨ i = .laneAnswer ∧ n = 1) → (s.link n).state = .up →
      (s.link n).answers = f :: rest → ∃ t, exec i s = .next t ∧ sent t n f rest ∧ t = { s with lk := t.lk }) ∧
    ∀ g, g ≤ 3 → (s.link (segLink g)).state = .up →
      let c := s.seg g
      let fresh : Measure := { start := now, limit := dozeMs c.dozeTimer }
      let wrote (t : State) (x : Segment) : Prop := ∀ h, t.seg h = if h = g then x else s.seg h
      let goes (i : Instr) (f : Frame) (x : Segment) (drawn : Nat) : Prop := ∃ t, exec i s = .next t ∧
        sent t (segLink g) f (s.link (segLink g)).answers ∧ wrote t x ∧
        t = { s with lk := t.lk, sc := t.sc, tagCount := s.tagCount + drawn }
      let asks (asked : Asked) (f : Frame) (k : Nat) : Option Outstanding :=
        some { asked := asked, frame := f, sendings := k, waitEnd := some (now + 40), withdrawn := false }
      let tag := Config.frameTag s.tagCount
      (∀ f rest, (s.link (segLink g)).answers = f :: rest → ∃ t, exec (.doorAnswer g) s = .next t ∧
        sent t (segLink g) f rest ∧ wrote t { c with measure := fresh } ∧ t = { s with lk := t.lk, sc := t.sc }) ∧
      ((s.link (segLink g)).answers = [] → c.due ≠ .none →
        goes (.broadcast g) { station := 0, kind := 0x18, tag := tag, body := [if c.due = .allRelease then 0 else 1] }
          { c with due := .none, measure := fresh } 1) ∧
      ((s.link (segLink g)).answers = [] → c.due = .none → c.outstanding = none →
        (∀ before st after k, c.pushes = before ++ st :: after → (∀ x ∈ before, c.servable x = false) →
          c.servable st = true → s.lock? g st = some k →
          let gen := (k.kind.cabin?.map fun n => (s.cabin n).keyGen).getD 0
          let f : Frame := { station := st, kind := 0x12, tag := tag, body := be 2 gen }
          goes (.push g) f { c with outstanding := asks .push f 1, measure := fresh } 1) ∧
        ((∀ x ∈ c.pushes, c.servable x = false) → ∀ before st after, c.fetches = before ++ st :: after →
          (∀ x ∈ before, c.servable x = false) → c.servable st = true →
          let f : Frame := { station := st, kind := 0x16, tag := tag, body := [] }
          goes (.logFetch g) f { c with outstanding := asks .logFetch f 1, measure := fresh } 1) ∧
        ((∀ x ∈ c.pushes, c.servable x = false) → (∀ x ∈ c.fetches, c.servable x = false) →
          (∀ t, c.lastPoll = some t → t + c.spacing ≤ now) → rising c.roster = true →
          ∀ st k, (st, k) ∈ c.roster → k.eligible = true →
          (c.cursor ≤ st ∧ (∀ e ∈ c.roster, e.2.eligible = true → c.cursor ≤ e.1 → st ≤ e.1) ∨
            st < c.cursor ∧ ∀ e ∈ c.roster, e.2.eligible = true → e.1 < c.cursor ∧ st ≤ e.1) →
          let f : Frame := { station := st, kind := 0x14, tag := tag, body := be 4 s.sck.clock ++ flagByte c.wanted }
          goes (.poll g) f { c with outstanding := asks .poll f 1, cursor := if st < 600 then st + 1 else 1
                                    lastPoll := some now } 1)) ∧
      ∀ o, c.outstanding = some o →
        let free : Prop := (s.link (segLink g)).answers = [] ∧ c.due = .none
        let again : Segment := { c with
          outstanding := some { o with sendings := o.sendings + 1, waitEnd := some (now + 40) }
          measure := if o.asked = .poll then c.measure else fresh }
        (o.waitEnd = none → free → goes (.resend g) o.frame again 0) ∧
        ∀ w, o.waitEnd = some w → w ≤ now →
          (o.sendings < 4 → free → goes (.replyWaitExpiry g) o.frame again 0) ∧
          (o.sendings < 4 → ¬free → exec (.replyWaitExpiry g) s = .next (s.setSeg g { c with
            outstanding := some { o with waitEnd := none } })) ∧
          (4 ≤ o.sendings → o.withdrawn = true →
            exec (.replyWaitExpiry g) s = .next (s.setSeg g { c with outstanding := none })) ∧
          (4 ≤ o.sendings → o.withdrawn = false → ∀ k, s.lock? g o.frame.station = some k →
            let r : FaultRecord := { kind := .replyTimeout, port := segLink g, station := some o.frame.station
                                     frameKind := some o.frame.kind.toNat, tag := some o.frame.tag.toNat }
            let ended := (s.setSeg g { c with outstanding := none }).recordFault r
            (k.state = .unreachable → exec (.replyWaitExpiry g) s = .next ended) ∧
            (k.state ≠ .unreachable →
              let lost : Table Lock := insert c.roster o.frame.station { k with state := .unreachable }
              exec (.replyWaitExpiry g) s = .next (
                if c.unreachable + 1 < 4 then
                  ended.setSeg g { c with outstanding := none, roster := lost, unreachable := c.unreachable + 1 }
                else (ended.setSeg g { c with outstanding := none, roster := lost, unreachable := 0 }).recoverLink
                  (segLink g))))

/-- R32, R78, R79, R165, R166: what falls due on the elapsed base: a permit, a lock's contact deadline, the doze
measure, a TRAIN frame, the end of a training attempt, a KEEPALIVE and the hub's silence. The tags are free values,
log 8; the doze measure is log 22 and the start of an attempt log 28. -/
def Obligations.TimersEnd : Prop :=
  ∀ (s : State), s.takesEvents = true →
    let now := s.sck.elapsed
    (∀ n k, 1 ≤ n → n ≤ 8 → (s.lane n).permit = some k → k.expiry ≤ now → ∃ t, exec (.permitExpiry n) s = .next t ∧
      (∀ m, t.lane m = if m = n then { s.lane n with
        permit := none
        tallies := { (s.lane n).tallies with scanNoPass := min 65535 ((s.lane n).tallies.scanNoPass + 1) } }
        else s.lane m) ∧
      (∀ q, t.person? q = if q = k.person then (s.person? q).map fun r => { r with permitLane := none }
        else s.person? q) ∧
      t = { s with pt := t.pt, pu := { s.pu with lanes := t.pu.lanes } }) ∧
    (∀ g st k, g ≤ 3 → s.lock? g st = some k → k.state = .online → k.ackGen ≠ none → k.excluded = false →
      k.lastContact.getD 0 + 60000 * (s.seg g).window + (s.seg g).dozeCount ≤ now + k.dozeAtContact →
      k.dozeAtContact ≤ (s.seg g).dozeCount →
      exec (.contactDeadline g st) s = .next ((s.setLock g st { k with state := .stale }).raise .lockStale)) ∧
    (∀ g d, g ≤ 3 → (s.link (segLink g)).state = .up → (s.seg g).dozeTimer ≠ 0 → (s.seg g).measure.limit = some d →
      (s.seg g).measure.start + d ≤ now →
      let c := s.seg g
      let l := s.link (segLink g)
      let quiet : Prop := c.outstanding = none ∧ l.answers = [] ∧ c.due = .none ∧
        (∀ x ∈ c.pushes, c.servable x = false) ∧ ∀ x ∈ c.fetches, c.servable x = false
      let spent : State := s.setSeg g { c with measure := { c.measure with limit := none } }
      (¬quiet → exec (.doze g) s = .next spent) ∧
      (quiet → exec (.doze g) s = .next ({ spent with tagCount := s.tagCount + 1 }.setLink (segLink g) { l with
        state := .doze, history := (l.state :: l.history).take 3, attempt := 0, trains := 0, lastSend := now
        sent := ({ station := 0, kind := 0x04, tag := Config.frameTag s.tagCount, body := [] } : Frame).bytes }))) ∧
    ∀ n, n ≤ 5 →
      let l := s.link n
      let framed (kind : Byte) (body : List Byte) : List Byte :=
        ({ station := 0, kind := kind, tag := Config.frameTag s.tagCount, body := body } : Frame).bytes
      (l.state = .training → l.trains < 10 → l.attemptStart + 100 * l.trains ≤ now →
        exec (.train n) s = .next ({ s with tagCount := s.tagCount + 1 }.setLink n { l with
          sent := framed 0x01 (be 1 (linkKind n)), lastSend := now, trains := l.trains + 1 })) ∧
      (l.state = .training → l.attemptStart + 1000 ≤ now →
        (l.attempt < 3 → exec (.trainingAttemptEnd n) s = .next (s.setLink n { l with
          attempt := l.attempt + 1, attemptStart := now, trains := 0 })) ∧
        (3 ≤ l.attempt →
          let failed : State := (s.setLink n { l with
            state := .failed, history := (l.state :: l.history).take 3, attempt := 0, trains := 0 }).raise .linkChange
          exec (.trainingAttemptEnd n) s = .next (failed.recordFault
            { kind := .trainingFailed, port := n, station := none, frameKind := none, tag := none }))) ∧
      (l.state = .up → l.lastSend + 1000 ≤ now →
        exec (.keepaliveSend n) s = .next ({ s with tagCount := s.tagCount + 1 }.setLink n { l with
          sent := framed 0x03 [], lastSend := now })) ∧
      (l.state = .up → l.silenceStart + 3000 ≤ now → exec (.hubSilent n) s = .next (s.recordFault
        { kind := .hubSilent, port := n, station := none, frameKind := none, tag := none }))
end

