-- ==== Sys2Proof/Laws/State.lean ====
section
/-! SUPPORT. One lemma for every field that a write of a record, or another plain update, leaves as it is. -/

namespace Sys2Proof.Machine

@[simp] theorem State.setLink_pending (s : State) (n : Nat) (l : Link) : (s.setLink n l).pending = s.pending := by
  rfl
@[simp] theorem State.setLink_tagCount (s : State) (n : Nat) (l : Link) : (s.setLink n l).tagCount = s.tagCount := by
  rfl
@[simp] theorem State.setLink_pp (s : State) (n : Nat) (l : Link) : (s.setLink n l).pp = s.pp := by
  rfl
@[simp] theorem State.setLink_pt (s : State) (n : Nat) (l : Link) : (s.setLink n l).pt = s.pt := by
  rfl
@[simp] theorem State.setLink_ci (s : State) (n : Nat) (l : Link) : (s.setLink n l).ci = s.ci := by
  rfl
@[simp] theorem State.setLink_ct (s : State) (n : Nat) (l : Link) : (s.setLink n l).ct = s.ct := by
  rfl
@[simp] theorem State.setLink_pu (s : State) (n : Nat) (l : Link) : (s.setLink n l).pu = s.pu := by
  rfl
@[simp] theorem State.setLink_sc (s : State) (n : Nat) (l : Link) : (s.setLink n l).sc = s.sc := by
  rfl
@[simp] theorem State.setLink_tu (s : State) (n : Nat) (l : Link) : (s.setLink n l).tu = s.tu := by
  rfl
@[simp] theorem State.setLink_cc (s : State) (n : Nat) (l : Link) : (s.setLink n l).cc = s.cc := by
  rfl
@[simp] theorem State.setLink_pq (s : State) (n : Nat) (l : Link) : (s.setLink n l).pq = s.pq := by
  rfl
@[simp] theorem State.setLink_oe (s : State) (n : Nat) (l : Link) : (s.setLink n l).oe = s.oe := by
  rfl
@[simp] theorem State.setLink_nfu (s : State) (n : Nat) (l : Link) : (s.setLink n l).nfu = s.nfu := by
  rfl
@[simp] theorem State.setLink_sck (s : State) (n : Nat) (l : Link) : (s.setLink n l).sck = s.sck := by
  rfl
@[simp] theorem State.setPerson_pending (s : State) (p : Nat) (r : Person) : (s.setPerson p r).pending = s.pending := by
  rfl
@[simp] theorem State.setPerson_tagCount (s : State) (p : Nat) (r : Person) : (s.setPerson p r).tagCount = s.tagCount := by
  rfl
@[simp] theorem State.setPerson_pp (s : State) (p : Nat) (r : Person) : (s.setPerson p r).pp = s.pp := by
  rfl
@[simp] theorem State.setPerson_lk (s : State) (p : Nat) (r : Person) : (s.setPerson p r).lk = s.lk := by
  rfl
@[simp] theorem State.setPerson_ci (s : State) (p : Nat) (r : Person) : (s.setPerson p r).ci = s.ci := by
  rfl
@[simp] theorem State.setPerson_ct (s : State) (p : Nat) (r : Person) : (s.setPerson p r).ct = s.ct := by
  rfl
@[simp] theorem State.setPerson_pu (s : State) (p : Nat) (r : Person) : (s.setPerson p r).pu = s.pu := by
  rfl
@[simp] theorem State.setPerson_sc (s : State) (p : Nat) (r : Person) : (s.setPerson p r).sc = s.sc := by
  rfl
@[simp] theorem State.setPerson_tu (s : State) (p : Nat) (r : Person) : (s.setPerson p r).tu = s.tu := by
  rfl
@[simp] theorem State.setPerson_cc (s : State) (p : Nat) (r : Person) : (s.setPerson p r).cc = s.cc := by
  rfl
@[simp] theorem State.setPerson_pq (s : State) (p : Nat) (r : Person) : (s.setPerson p r).pq = s.pq := by
  rfl
@[simp] theorem State.setPerson_oe (s : State) (p : Nat) (r : Person) : (s.setPerson p r).oe = s.oe := by
  rfl
@[simp] theorem State.setPerson_nfu (s : State) (p : Nat) (r : Person) : (s.setPerson p r).nfu = s.nfu := by
  rfl
@[simp] theorem State.setPerson_sck (s : State) (p : Nat) (r : Person) : (s.setPerson p r).sck = s.sck := by
  rfl
@[simp] theorem State.setCard_pending (s : State) (serial : Serial) (e : Card) : (s.setCard serial e).pending = s.pending := by
  rfl
@[simp] theorem State.setCard_tagCount (s : State) (serial : Serial) (e : Card) : (s.setCard serial e).tagCount = s.tagCount := by
  rfl
@[simp] theorem State.setCard_pp (s : State) (serial : Serial) (e : Card) : (s.setCard serial e).pp = s.pp := by
  rfl
@[simp] theorem State.setCard_lk (s : State) (serial : Serial) (e : Card) : (s.setCard serial e).lk = s.lk := by
  rfl
@[simp] theorem State.setCard_pt (s : State) (serial : Serial) (e : Card) : (s.setCard serial e).pt = s.pt := by
  rfl
@[simp] theorem State.setCard_ci_order (s : State) (serial : Serial) (e : Card) : (s.setCard serial e).ci.order = s.ci.order := by
  rfl
@[simp] theorem State.setCard_ct (s : State) (serial : Serial) (e : Card) : (s.setCard serial e).ct = s.ct := by
  rfl
@[simp] theorem State.setCard_pu (s : State) (serial : Serial) (e : Card) : (s.setCard serial e).pu = s.pu := by
  rfl
@[simp] theorem State.setCard_sc (s : State) (serial : Serial) (e : Card) : (s.setCard serial e).sc = s.sc := by
  rfl
@[simp] theorem State.setCard_tu (s : State) (serial : Serial) (e : Card) : (s.setCard serial e).tu = s.tu := by
  rfl
@[simp] theorem State.setCard_cc (s : State) (serial : Serial) (e : Card) : (s.setCard serial e).cc = s.cc := by
  rfl
@[simp] theorem State.setCard_pq (s : State) (serial : Serial) (e : Card) : (s.setCard serial e).pq = s.pq := by
  rfl
@[simp] theorem State.setCard_oe (s : State) (serial : Serial) (e : Card) : (s.setCard serial e).oe = s.oe := by
  rfl
@[simp] theorem State.setCard_nfu (s : State) (serial : Serial) (e : Card) : (s.setCard serial e).nfu = s.nfu := by
  rfl
@[simp] theorem State.setCard_sck (s : State) (serial : Serial) (e : Card) : (s.setCard serial e).sck = s.sck := by
  rfl
@[simp] theorem State.setCabin_pending (s : State) (c : Nat) (r : Cabin) : (s.setCabin c r).pending = s.pending := by
  rfl
@[simp] theorem State.setCabin_tagCount (s : State) (c : Nat) (r : Cabin) : (s.setCabin c r).tagCount = s.tagCount := by
  rfl
@[simp] theorem State.setCabin_pp (s : State) (c : Nat) (r : Cabin) : (s.setCabin c r).pp = s.pp := by
  rfl
@[simp] theorem State.setCabin_lk (s : State) (c : Nat) (r : Cabin) : (s.setCabin c r).lk = s.lk := by
  rfl
@[simp] theorem State.setCabin_pt (s : State) (c : Nat) (r : Cabin) : (s.setCabin c r).pt = s.pt := by
  rfl
@[simp] theorem State.setCabin_ci (s : State) (c : Nat) (r : Cabin) : (s.setCabin c r).ci = s.ci := by
  rfl
@[simp] theorem State.setCabin_pu (s : State) (c : Nat) (r : Cabin) : (s.setCabin c r).pu = s.pu := by
  rfl
@[simp] theorem State.setCabin_sc (s : State) (c : Nat) (r : Cabin) : (s.setCabin c r).sc = s.sc := by
  rfl
@[simp] theorem State.setCabin_tu (s : State) (c : Nat) (r : Cabin) : (s.setCabin c r).tu = s.tu := by
  rfl
@[simp] theorem State.setCabin_cc (s : State) (c : Nat) (r : Cabin) : (s.setCabin c r).cc = s.cc := by
  rfl
@[simp] theorem State.setCabin_pq (s : State) (c : Nat) (r : Cabin) : (s.setCabin c r).pq = s.pq := by
  rfl
@[simp] theorem State.setCabin_oe (s : State) (c : Nat) (r : Cabin) : (s.setCabin c r).oe = s.oe := by
  rfl
@[simp] theorem State.setCabin_nfu (s : State) (c : Nat) (r : Cabin) : (s.setCabin c r).nfu = s.nfu := by
  rfl
@[simp] theorem State.setCabin_sck (s : State) (c : Nat) (r : Cabin) : (s.setCabin c r).sck = s.sck := by
  rfl
@[simp] theorem State.setLane_pending (s : State) (n : Nat) (l : Lane) : (s.setLane n l).pending = s.pending := by
  rfl
@[simp] theorem State.setLane_tagCount (s : State) (n : Nat) (l : Lane) : (s.setLane n l).tagCount = s.tagCount := by
  rfl
@[simp] theorem State.setLane_pp (s : State) (n : Nat) (l : Lane) : (s.setLane n l).pp = s.pp := by
  rfl
@[simp] theorem State.setLane_lk (s : State) (n : Nat) (l : Lane) : (s.setLane n l).lk = s.lk := by
  rfl
@[simp] theorem State.setLane_pt (s : State) (n : Nat) (l : Lane) : (s.setLane n l).pt = s.pt := by
  rfl
@[simp] theorem State.setLane_ci (s : State) (n : Nat) (l : Lane) : (s.setLane n l).ci = s.ci := by
  rfl
@[simp] theorem State.setLane_ct (s : State) (n : Nat) (l : Lane) : (s.setLane n l).ct = s.ct := by
  rfl
@[simp] theorem State.setLane_pu_counts (s : State) (n : Nat) (l : Lane) : (s.setLane n l).pu.counts = s.pu.counts := by
  rfl
@[simp] theorem State.setLane_pu_permitWindow (s : State) (n : Nat) (l : Lane) : (s.setLane n l).pu.permitWindow = s.pu.permitWindow := by
  rfl
@[simp] theorem State.setLane_pu_deadline (s : State) (n : Nat) (l : Lane) : (s.setLane n l).pu.deadline = s.pu.deadline := by
  rfl
@[simp] theorem State.setLane_pu_snapshot (s : State) (n : Nat) (l : Lane) : (s.setLane n l).pu.snapshot = s.pu.snapshot := by
  rfl
@[simp] theorem State.setLane_pu_evidence (s : State) (n : Nat) (l : Lane) : (s.setLane n l).pu.evidence = s.pu.evidence := by
  rfl
@[simp] theorem State.setLane_sc (s : State) (n : Nat) (l : Lane) : (s.setLane n l).sc = s.sc := by
  rfl
@[simp] theorem State.setLane_tu (s : State) (n : Nat) (l : Lane) : (s.setLane n l).tu = s.tu := by
  rfl
@[simp] theorem State.setLane_cc (s : State) (n : Nat) (l : Lane) : (s.setLane n l).cc = s.cc := by
  rfl
@[simp] theorem State.setLane_pq (s : State) (n : Nat) (l : Lane) : (s.setLane n l).pq = s.pq := by
  rfl
@[simp] theorem State.setLane_oe (s : State) (n : Nat) (l : Lane) : (s.setLane n l).oe = s.oe := by
  rfl
@[simp] theorem State.setLane_nfu (s : State) (n : Nat) (l : Lane) : (s.setLane n l).nfu = s.nfu := by
  rfl
@[simp] theorem State.setLane_sck (s : State) (n : Nat) (l : Lane) : (s.setLane n l).sck = s.sck := by
  rfl
@[simp] theorem State.setCounts_pending (s : State) (c : Counts) : (s.setCounts c).pending = s.pending := by
  rfl
@[simp] theorem State.setCounts_tagCount (s : State) (c : Counts) : (s.setCounts c).tagCount = s.tagCount := by
  rfl
@[simp] theorem State.setCounts_pp (s : State) (c : Counts) : (s.setCounts c).pp = s.pp := by
  rfl
@[simp] theorem State.setCounts_lk (s : State) (c : Counts) : (s.setCounts c).lk = s.lk := by
  rfl
@[simp] theorem State.setCounts_pt (s : State) (c : Counts) : (s.setCounts c).pt = s.pt := by
  rfl
@[simp] theorem State.setCounts_ci (s : State) (c : Counts) : (s.setCounts c).ci = s.ci := by
  rfl
@[simp] theorem State.setCounts_ct (s : State) (c : Counts) : (s.setCounts c).ct = s.ct := by
  rfl
@[simp] theorem State.setCounts_pu_lanes (s : State) (c : Counts) : (s.setCounts c).pu.lanes = s.pu.lanes := by
  rfl
@[simp] theorem State.setCounts_pu_permitWindow (s : State) (c : Counts) : (s.setCounts c).pu.permitWindow = s.pu.permitWindow := by
  rfl
@[simp] theorem State.setCounts_pu_deadline (s : State) (c : Counts) : (s.setCounts c).pu.deadline = s.pu.deadline := by
  rfl
@[simp] theorem State.setCounts_pu_snapshot (s : State) (c : Counts) : (s.setCounts c).pu.snapshot = s.pu.snapshot := by
  rfl
@[simp] theorem State.setCounts_pu_evidence (s : State) (c : Counts) : (s.setCounts c).pu.evidence = s.pu.evidence := by
  rfl
@[simp] theorem State.setCounts_sc (s : State) (c : Counts) : (s.setCounts c).sc = s.sc := by
  rfl
@[simp] theorem State.setCounts_tu (s : State) (c : Counts) : (s.setCounts c).tu = s.tu := by
  rfl
@[simp] theorem State.setCounts_cc (s : State) (c : Counts) : (s.setCounts c).cc = s.cc := by
  rfl
@[simp] theorem State.setCounts_pq (s : State) (c : Counts) : (s.setCounts c).pq = s.pq := by
  rfl
@[simp] theorem State.setCounts_oe (s : State) (c : Counts) : (s.setCounts c).oe = s.oe := by
  rfl
@[simp] theorem State.setCounts_nfu (s : State) (c : Counts) : (s.setCounts c).nfu = s.nfu := by
  rfl
@[simp] theorem State.setCounts_sck (s : State) (c : Counts) : (s.setCounts c).sck = s.sck := by
  rfl
@[simp] theorem State.setDeadline_pending (s : State) (d : Deadline) : (s.setDeadline d).pending = s.pending := by
  rfl
@[simp] theorem State.setDeadline_tagCount (s : State) (d : Deadline) : (s.setDeadline d).tagCount = s.tagCount := by
  rfl
@[simp] theorem State.setDeadline_pp (s : State) (d : Deadline) : (s.setDeadline d).pp = s.pp := by
  rfl
@[simp] theorem State.setDeadline_lk (s : State) (d : Deadline) : (s.setDeadline d).lk = s.lk := by
  rfl
@[simp] theorem State.setDeadline_pt (s : State) (d : Deadline) : (s.setDeadline d).pt = s.pt := by
  rfl
@[simp] theorem State.setDeadline_ci (s : State) (d : Deadline) : (s.setDeadline d).ci = s.ci := by
  rfl
@[simp] theorem State.setDeadline_ct (s : State) (d : Deadline) : (s.setDeadline d).ct = s.ct := by
  rfl
@[simp] theorem State.setDeadline_pu_counts (s : State) (d : Deadline) : (s.setDeadline d).pu.counts = s.pu.counts := by
  rfl
@[simp] theorem State.setDeadline_pu_lanes (s : State) (d : Deadline) : (s.setDeadline d).pu.lanes = s.pu.lanes := by
  rfl
@[simp] theorem State.setDeadline_pu_permitWindow (s : State) (d : Deadline) : (s.setDeadline d).pu.permitWindow = s.pu.permitWindow := by
  rfl
@[simp] theorem State.setDeadline_pu_snapshot (s : State) (d : Deadline) : (s.setDeadline d).pu.snapshot = s.pu.snapshot := by
  rfl
@[simp] theorem State.setDeadline_pu_evidence (s : State) (d : Deadline) : (s.setDeadline d).pu.evidence = s.pu.evidence := by
  rfl
@[simp] theorem State.setDeadline_sc (s : State) (d : Deadline) : (s.setDeadline d).sc = s.sc := by
  rfl
@[simp] theorem State.setDeadline_tu (s : State) (d : Deadline) : (s.setDeadline d).tu = s.tu := by
  rfl
@[simp] theorem State.setDeadline_cc (s : State) (d : Deadline) : (s.setDeadline d).cc = s.cc := by
  rfl
@[simp] theorem State.setDeadline_pq (s : State) (d : Deadline) : (s.setDeadline d).pq = s.pq := by
  rfl
@[simp] theorem State.setDeadline_oe (s : State) (d : Deadline) : (s.setDeadline d).oe = s.oe := by
  rfl
@[simp] theorem State.setDeadline_nfu (s : State) (d : Deadline) : (s.setDeadline d).nfu = s.nfu := by
  rfl
@[simp] theorem State.setDeadline_sck (s : State) (d : Deadline) : (s.setDeadline d).sck = s.sck := by
  rfl
@[simp] theorem State.setSeg_pending (s : State) (g : Nat) (c : Segment) : (s.setSeg g c).pending = s.pending := by
  rfl
@[simp] theorem State.setSeg_tagCount (s : State) (g : Nat) (c : Segment) : (s.setSeg g c).tagCount = s.tagCount := by
  rfl
@[simp] theorem State.setSeg_pp (s : State) (g : Nat) (c : Segment) : (s.setSeg g c).pp = s.pp := by
  rfl
@[simp] theorem State.setSeg_lk (s : State) (g : Nat) (c : Segment) : (s.setSeg g c).lk = s.lk := by
  rfl
@[simp] theorem State.setSeg_pt (s : State) (g : Nat) (c : Segment) : (s.setSeg g c).pt = s.pt := by
  rfl
@[simp] theorem State.setSeg_ci (s : State) (g : Nat) (c : Segment) : (s.setSeg g c).ci = s.ci := by
  rfl
@[simp] theorem State.setSeg_ct (s : State) (g : Nat) (c : Segment) : (s.setSeg g c).ct = s.ct := by
  rfl
@[simp] theorem State.setSeg_pu (s : State) (g : Nat) (c : Segment) : (s.setSeg g c).pu = s.pu := by
  rfl
@[simp] theorem State.setSeg_tu (s : State) (g : Nat) (c : Segment) : (s.setSeg g c).tu = s.tu := by
  rfl
@[simp] theorem State.setSeg_cc (s : State) (g : Nat) (c : Segment) : (s.setSeg g c).cc = s.cc := by
  rfl
@[simp] theorem State.setSeg_pq (s : State) (g : Nat) (c : Segment) : (s.setSeg g c).pq = s.pq := by
  rfl
@[simp] theorem State.setSeg_oe (s : State) (g : Nat) (c : Segment) : (s.setSeg g c).oe = s.oe := by
  rfl
@[simp] theorem State.setSeg_nfu (s : State) (g : Nat) (c : Segment) : (s.setSeg g c).nfu = s.nfu := by
  rfl
@[simp] theorem State.setSeg_sck (s : State) (g : Nat) (c : Segment) : (s.setSeg g c).sck = s.sck := by
  rfl
@[simp] theorem State.setLock_pending (s : State) (g st : Nat) (k : Lock) : (s.setLock g st k).pending = s.pending := by
  rfl
@[simp] theorem State.setLock_tagCount (s : State) (g st : Nat) (k : Lock) : (s.setLock g st k).tagCount = s.tagCount := by
  rfl
@[simp] theorem State.setLock_pp (s : State) (g st : Nat) (k : Lock) : (s.setLock g st k).pp = s.pp := by
  rfl
@[simp] theorem State.setLock_lk (s : State) (g st : Nat) (k : Lock) : (s.setLock g st k).lk = s.lk := by
  rfl
@[simp] theorem State.setLock_pt (s : State) (g st : Nat) (k : Lock) : (s.setLock g st k).pt = s.pt := by
  rfl
@[simp] theorem State.setLock_ci (s : State) (g st : Nat) (k : Lock) : (s.setLock g st k).ci = s.ci := by
  rfl
@[simp] theorem State.setLock_ct (s : State) (g st : Nat) (k : Lock) : (s.setLock g st k).ct = s.ct := by
  rfl
@[simp] theorem State.setLock_pu (s : State) (g st : Nat) (k : Lock) : (s.setLock g st k).pu = s.pu := by
  rfl
@[simp] theorem State.setLock_tu (s : State) (g st : Nat) (k : Lock) : (s.setLock g st k).tu = s.tu := by
  rfl
@[simp] theorem State.setLock_cc (s : State) (g st : Nat) (k : Lock) : (s.setLock g st k).cc = s.cc := by
  rfl
@[simp] theorem State.setLock_pq (s : State) (g st : Nat) (k : Lock) : (s.setLock g st k).pq = s.pq := by
  rfl
@[simp] theorem State.setLock_oe (s : State) (g st : Nat) (k : Lock) : (s.setLock g st k).oe = s.oe := by
  rfl
@[simp] theorem State.setLock_nfu (s : State) (g st : Nat) (k : Lock) : (s.setLock g st k).nfu = s.nfu := by
  rfl
@[simp] theorem State.setLock_sck (s : State) (g st : Nat) (k : Lock) : (s.setLock g st k).sck = s.sck := by
  rfl
@[simp] theorem State.setSlot_pending (s : State) (n : Nat) (x : Slot) : (s.setSlot n x).pending = s.pending := by
  rfl
@[simp] theorem State.setSlot_tagCount (s : State) (n : Nat) (x : Slot) : (s.setSlot n x).tagCount = s.tagCount := by
  rfl
@[simp] theorem State.setSlot_pp (s : State) (n : Nat) (x : Slot) : (s.setSlot n x).pp = s.pp := by
  rfl
@[simp] theorem State.setSlot_lk (s : State) (n : Nat) (x : Slot) : (s.setSlot n x).lk = s.lk := by
  rfl
@[simp] theorem State.setSlot_pt (s : State) (n : Nat) (x : Slot) : (s.setSlot n x).pt = s.pt := by
  rfl
@[simp] theorem State.setSlot_ci (s : State) (n : Nat) (x : Slot) : (s.setSlot n x).ci = s.ci := by
  rfl
@[simp] theorem State.setSlot_ct (s : State) (n : Nat) (x : Slot) : (s.setSlot n x).ct = s.ct := by
  rfl
@[simp] theorem State.setSlot_pu (s : State) (n : Nat) (x : Slot) : (s.setSlot n x).pu = s.pu := by
  rfl
@[simp] theorem State.setSlot_sc (s : State) (n : Nat) (x : Slot) : (s.setSlot n x).sc = s.sc := by
  rfl
@[simp] theorem State.setSlot_tu_terminals (s : State) (n : Nat) (x : Slot) : (s.setSlot n x).tu.terminals = s.tu.terminals := by
  rfl
@[simp] theorem State.setSlot_tu_holds (s : State) (n : Nat) (x : Slot) : (s.setSlot n x).tu.holds = s.tu.holds := by
  rfl
@[simp] theorem State.setSlot_cc (s : State) (n : Nat) (x : Slot) : (s.setSlot n x).cc = s.cc := by
  rfl
@[simp] theorem State.setSlot_pq (s : State) (n : Nat) (x : Slot) : (s.setSlot n x).pq = s.pq := by
  rfl
@[simp] theorem State.setSlot_oe (s : State) (n : Nat) (x : Slot) : (s.setSlot n x).oe = s.oe := by
  rfl
@[simp] theorem State.setSlot_nfu (s : State) (n : Nat) (x : Slot) : (s.setSlot n x).nfu = s.nfu := by
  rfl
@[simp] theorem State.setSlot_sck (s : State) (n : Nat) (x : Slot) : (s.setSlot n x).sck = s.sck := by
  rfl
@[simp] theorem State.setTerminal_pending (s : State) (n : Nat) (x : Terminal) : (s.setTerminal n x).pending = s.pending := by
  rfl
@[simp] theorem State.setTerminal_tagCount (s : State) (n : Nat) (x : Terminal) : (s.setTerminal n x).tagCount = s.tagCount := by
  rfl
@[simp] theorem State.setTerminal_pp (s : State) (n : Nat) (x : Terminal) : (s.setTerminal n x).pp = s.pp := by
  rfl
@[simp] theorem State.setTerminal_lk (s : State) (n : Nat) (x : Terminal) : (s.setTerminal n x).lk = s.lk := by
  rfl
@[simp] theorem State.setTerminal_pt (s : State) (n : Nat) (x : Terminal) : (s.setTerminal n x).pt = s.pt := by
  rfl
@[simp] theorem State.setTerminal_ci (s : State) (n : Nat) (x : Terminal) : (s.setTerminal n x).ci = s.ci := by
  rfl
@[simp] theorem State.setTerminal_ct (s : State) (n : Nat) (x : Terminal) : (s.setTerminal n x).ct = s.ct := by
  rfl
@[simp] theorem State.setTerminal_pu (s : State) (n : Nat) (x : Terminal) : (s.setTerminal n x).pu = s.pu := by
  rfl
@[simp] theorem State.setTerminal_sc (s : State) (n : Nat) (x : Terminal) : (s.setTerminal n x).sc = s.sc := by
  rfl
@[simp] theorem State.setTerminal_tu_slots (s : State) (n : Nat) (x : Terminal) : (s.setTerminal n x).tu.slots = s.tu.slots := by
  rfl
@[simp] theorem State.setTerminal_tu_holds (s : State) (n : Nat) (x : Terminal) : (s.setTerminal n x).tu.holds = s.tu.holds := by
  rfl
@[simp] theorem State.setTerminal_cc (s : State) (n : Nat) (x : Terminal) : (s.setTerminal n x).cc = s.cc := by
  rfl
@[simp] theorem State.setTerminal_pq (s : State) (n : Nat) (x : Terminal) : (s.setTerminal n x).pq = s.pq := by
  rfl
@[simp] theorem State.setTerminal_oe (s : State) (n : Nat) (x : Terminal) : (s.setTerminal n x).oe = s.oe := by
  rfl
@[simp] theorem State.setTerminal_nfu (s : State) (n : Nat) (x : Terminal) : (s.setTerminal n x).nfu = s.nfu := by
  rfl
@[simp] theorem State.setTerminal_sck (s : State) (n : Nat) (x : Terminal) : (s.setTerminal n x).sck = s.sck := by
  rfl
@[simp] theorem State.setOperation_pending (s : State) (o : Operation) : (s.setOperation o).pending = s.pending := by
  rfl
@[simp] theorem State.setOperation_tagCount (s : State) (o : Operation) : (s.setOperation o).tagCount = s.tagCount := by
  rfl
@[simp] theorem State.setOperation_pp (s : State) (o : Operation) : (s.setOperation o).pp = s.pp := by
  rfl
@[simp] theorem State.setOperation_lk (s : State) (o : Operation) : (s.setOperation o).lk = s.lk := by
  rfl
@[simp] theorem State.setOperation_pt (s : State) (o : Operation) : (s.setOperation o).pt = s.pt := by
  rfl
@[simp] theorem State.setOperation_ci (s : State) (o : Operation) : (s.setOperation o).ci = s.ci := by
  rfl
@[simp] theorem State.setOperation_ct (s : State) (o : Operation) : (s.setOperation o).ct = s.ct := by
  rfl
@[simp] theorem State.setOperation_pu (s : State) (o : Operation) : (s.setOperation o).pu = s.pu := by
  rfl
@[simp] theorem State.setOperation_sc (s : State) (o : Operation) : (s.setOperation o).sc = s.sc := by
  rfl
@[simp] theorem State.setOperation_tu (s : State) (o : Operation) : (s.setOperation o).tu = s.tu := by
  rfl
@[simp] theorem State.setOperation_cc (s : State) (o : Operation) : (s.setOperation o).cc = s.cc := by
  rfl
@[simp] theorem State.setOperation_pq (s : State) (o : Operation) : (s.setOperation o).pq = s.pq := by
  rfl
@[simp] theorem State.setOperation_nfu (s : State) (o : Operation) : (s.setOperation o).nfu = s.nfu := by
  rfl
@[simp] theorem State.setOperation_sck (s : State) (o : Operation) : (s.setOperation o).sck = s.sck := by
  rfl
@[simp] theorem State.answer_pending (s : State) (tag : Tag) (r : Reply) : (s.answer tag r).pending = s.pending := by
  rfl
@[simp] theorem State.answer_tagCount (s : State) (tag : Tag) (r : Reply) : (s.answer tag r).tagCount = s.tagCount := by
  rfl
@[simp] theorem State.answer_pp_pdo (s : State) (tag : Tag) (r : Reply) : (s.answer tag r).pp.pdo = s.pp.pdo := by
  rfl
@[simp] theorem State.answer_lk (s : State) (tag : Tag) (r : Reply) : (s.answer tag r).lk = s.lk := by
  rfl
@[simp] theorem State.answer_pt (s : State) (tag : Tag) (r : Reply) : (s.answer tag r).pt = s.pt := by
  rfl
@[simp] theorem State.answer_ci (s : State) (tag : Tag) (r : Reply) : (s.answer tag r).ci = s.ci := by
  rfl
@[simp] theorem State.answer_ct (s : State) (tag : Tag) (r : Reply) : (s.answer tag r).ct = s.ct := by
  rfl
@[simp] theorem State.answer_pu (s : State) (tag : Tag) (r : Reply) : (s.answer tag r).pu = s.pu := by
  rfl
@[simp] theorem State.answer_sc (s : State) (tag : Tag) (r : Reply) : (s.answer tag r).sc = s.sc := by
  rfl
@[simp] theorem State.answer_tu (s : State) (tag : Tag) (r : Reply) : (s.answer tag r).tu = s.tu := by
  rfl
@[simp] theorem State.answer_cc (s : State) (tag : Tag) (r : Reply) : (s.answer tag r).cc = s.cc := by
  rfl
@[simp] theorem State.answer_pq (s : State) (tag : Tag) (r : Reply) : (s.answer tag r).pq = s.pq := by
  rfl
@[simp] theorem State.answer_oe (s : State) (tag : Tag) (r : Reply) : (s.answer tag r).oe = s.oe := by
  rfl
@[simp] theorem State.answer_nfu (s : State) (tag : Tag) (r : Reply) : (s.answer tag r).nfu = s.nfu := by
  rfl
@[simp] theorem State.answer_sck (s : State) (tag : Tag) (r : Reply) : (s.answer tag r).sck = s.sck := by
  rfl
@[simp] theorem State.raise_pending (s : State) (n : Notice) : (s.raise n).pending = s.pending := by
  rfl
@[simp] theorem State.raise_tagCount (s : State) (n : Notice) : (s.raise n).tagCount = s.tagCount := by
  rfl
@[simp] theorem State.raise_pp (s : State) (n : Notice) : (s.raise n).pp = s.pp := by
  rfl
@[simp] theorem State.raise_lk (s : State) (n : Notice) : (s.raise n).lk = s.lk := by
  rfl
@[simp] theorem State.raise_pt (s : State) (n : Notice) : (s.raise n).pt = s.pt := by
  rfl
@[simp] theorem State.raise_ci (s : State) (n : Notice) : (s.raise n).ci = s.ci := by
  rfl
@[simp] theorem State.raise_ct (s : State) (n : Notice) : (s.raise n).ct = s.ct := by
  rfl
@[simp] theorem State.raise_pu (s : State) (n : Notice) : (s.raise n).pu = s.pu := by
  rfl
@[simp] theorem State.raise_sc (s : State) (n : Notice) : (s.raise n).sc = s.sc := by
  rfl
@[simp] theorem State.raise_tu (s : State) (n : Notice) : (s.raise n).tu = s.tu := by
  rfl
@[simp] theorem State.raise_cc (s : State) (n : Notice) : (s.raise n).cc = s.cc := by
  rfl
@[simp] theorem State.raise_pq (s : State) (n : Notice) : (s.raise n).pq = s.pq := by
  rfl
@[simp] theorem State.raise_oe (s : State) (n : Notice) : (s.raise n).oe = s.oe := by
  rfl
@[simp] theorem State.raise_nfu_enables (s : State) (n : Notice) : (s.raise n).nfu.enables = s.nfu.enables := by
  rfl
@[simp] theorem State.raise_nfu_status (s : State) (n : Notice) : (s.raise n).nfu.status = s.nfu.status := by
  rfl
@[simp] theorem State.raise_nfu_masks (s : State) (n : Notice) : (s.raise n).nfu.masks = s.nfu.masks := by
  rfl
@[simp] theorem State.raise_nfu_severe (s : State) (n : Notice) : (s.raise n).nfu.severe = s.nfu.severe := by
  rfl
@[simp] theorem State.raise_nfu_first (s : State) (n : Notice) : (s.raise n).nfu.first = s.nfu.first := by
  rfl
@[simp] theorem State.raise_nfu_refusalRecord (s : State) (n : Notice) : (s.raise n).nfu.refusalRecord = s.nfu.refusalRecord := by
  rfl
@[simp] theorem State.raise_nfu_refusalNotice (s : State) (n : Notice) : (s.raise n).nfu.refusalNotice = s.nfu.refusalNotice := by
  rfl
@[simp] theorem State.raise_sck (s : State) (n : Notice) : (s.raise n).sck = s.sck := by
  rfl
@[simp] theorem State.modLink_pending (s : State) (n : Nat) (f : Link → Link) : (s.modLink n f).pending = s.pending := by
  rfl
@[simp] theorem State.modLink_tagCount (s : State) (n : Nat) (f : Link → Link) : (s.modLink n f).tagCount = s.tagCount := by
  rfl
@[simp] theorem State.modLink_pp (s : State) (n : Nat) (f : Link → Link) : (s.modLink n f).pp = s.pp := by
  rfl
@[simp] theorem State.modLink_pt (s : State) (n : Nat) (f : Link → Link) : (s.modLink n f).pt = s.pt := by
  rfl
@[simp] theorem State.modLink_ci (s : State) (n : Nat) (f : Link → Link) : (s.modLink n f).ci = s.ci := by
  rfl
@[simp] theorem State.modLink_ct (s : State) (n : Nat) (f : Link → Link) : (s.modLink n f).ct = s.ct := by
  rfl
@[simp] theorem State.modLink_pu (s : State) (n : Nat) (f : Link → Link) : (s.modLink n f).pu = s.pu := by
  rfl
@[simp] theorem State.modLink_sc (s : State) (n : Nat) (f : Link → Link) : (s.modLink n f).sc = s.sc := by
  rfl
@[simp] theorem State.modLink_tu (s : State) (n : Nat) (f : Link → Link) : (s.modLink n f).tu = s.tu := by
  rfl
@[simp] theorem State.modLink_cc (s : State) (n : Nat) (f : Link → Link) : (s.modLink n f).cc = s.cc := by
  rfl
@[simp] theorem State.modLink_pq (s : State) (n : Nat) (f : Link → Link) : (s.modLink n f).pq = s.pq := by
  rfl
@[simp] theorem State.modLink_oe (s : State) (n : Nat) (f : Link → Link) : (s.modLink n f).oe = s.oe := by
  rfl
@[simp] theorem State.modLink_nfu (s : State) (n : Nat) (f : Link → Link) : (s.modLink n f).nfu = s.nfu := by
  rfl
@[simp] theorem State.modLink_sck (s : State) (n : Nat) (f : Link → Link) : (s.modLink n f).sck = s.sck := by
  rfl
@[simp] theorem State.modSeg_pending (s : State) (g : Nat) (f : Segment → Segment) : (s.modSeg g f).pending = s.pending := by
  rfl
@[simp] theorem State.modSeg_tagCount (s : State) (g : Nat) (f : Segment → Segment) : (s.modSeg g f).tagCount = s.tagCount := by
  rfl
@[simp] theorem State.modSeg_pp (s : State) (g : Nat) (f : Segment → Segment) : (s.modSeg g f).pp = s.pp := by
  rfl
@[simp] theorem State.modSeg_lk (s : State) (g : Nat) (f : Segment → Segment) : (s.modSeg g f).lk = s.lk := by
  rfl
@[simp] theorem State.modSeg_pt (s : State) (g : Nat) (f : Segment → Segment) : (s.modSeg g f).pt = s.pt := by
  rfl
@[simp] theorem State.modSeg_ci (s : State) (g : Nat) (f : Segment → Segment) : (s.modSeg g f).ci = s.ci := by
  rfl
@[simp] theorem State.modSeg_ct (s : State) (g : Nat) (f : Segment → Segment) : (s.modSeg g f).ct = s.ct := by
  rfl
@[simp] theorem State.modSeg_pu (s : State) (g : Nat) (f : Segment → Segment) : (s.modSeg g f).pu = s.pu := by
  rfl
@[simp] theorem State.modSeg_tu (s : State) (g : Nat) (f : Segment → Segment) : (s.modSeg g f).tu = s.tu := by
  rfl
@[simp] theorem State.modSeg_cc (s : State) (g : Nat) (f : Segment → Segment) : (s.modSeg g f).cc = s.cc := by
  rfl
@[simp] theorem State.modSeg_pq (s : State) (g : Nat) (f : Segment → Segment) : (s.modSeg g f).pq = s.pq := by
  rfl
@[simp] theorem State.modSeg_oe (s : State) (g : Nat) (f : Segment → Segment) : (s.modSeg g f).oe = s.oe := by
  rfl
@[simp] theorem State.modSeg_nfu (s : State) (g : Nat) (f : Segment → Segment) : (s.modSeg g f).nfu = s.nfu := by
  rfl
@[simp] theorem State.modSeg_sck (s : State) (g : Nat) (f : Segment → Segment) : (s.modSeg g f).sck = s.sck := by
  rfl
@[simp] theorem State.modPerson_pending (s : State) (p : Nat) (f : Person → Person) : (s.modPerson p f).pending = s.pending := by
  unfold State.modPerson; split <;> rfl
@[simp] theorem State.modPerson_tagCount (s : State) (p : Nat) (f : Person → Person) : (s.modPerson p f).tagCount = s.tagCount := by
  unfold State.modPerson; split <;> rfl
@[simp] theorem State.modPerson_pp (s : State) (p : Nat) (f : Person → Person) : (s.modPerson p f).pp = s.pp := by
  unfold State.modPerson; split <;> rfl
@[simp] theorem State.modPerson_lk (s : State) (p : Nat) (f : Person → Person) : (s.modPerson p f).lk = s.lk := by
  unfold State.modPerson; split <;> rfl
@[simp] theorem State.modPerson_ci (s : State) (p : Nat) (f : Person → Person) : (s.modPerson p f).ci = s.ci := by
  unfold State.modPerson; split <;> rfl
@[simp] theorem State.modPerson_ct (s : State) (p : Nat) (f : Person → Person) : (s.modPerson p f).ct = s.ct := by
  unfold State.modPerson; split <;> rfl
@[simp] theorem State.modPerson_pu (s : State) (p : Nat) (f : Person → Person) : (s.modPerson p f).pu = s.pu := by
  unfold State.modPerson; split <;> rfl
@[simp] theorem State.modPerson_sc (s : State) (p : Nat) (f : Person → Person) : (s.modPerson p f).sc = s.sc := by
  unfold State.modPerson; split <;> rfl
@[simp] theorem State.modPerson_tu (s : State) (p : Nat) (f : Person → Person) : (s.modPerson p f).tu = s.tu := by
  unfold State.modPerson; split <;> rfl
@[simp] theorem State.modPerson_cc (s : State) (p : Nat) (f : Person → Person) : (s.modPerson p f).cc = s.cc := by
  unfold State.modPerson; split <;> rfl
@[simp] theorem State.modPerson_pq (s : State) (p : Nat) (f : Person → Person) : (s.modPerson p f).pq = s.pq := by
  unfold State.modPerson; split <;> rfl
@[simp] theorem State.modPerson_oe (s : State) (p : Nat) (f : Person → Person) : (s.modPerson p f).oe = s.oe := by
  unfold State.modPerson; split <;> rfl
@[simp] theorem State.modPerson_nfu (s : State) (p : Nat) (f : Person → Person) : (s.modPerson p f).nfu = s.nfu := by
  unfold State.modPerson; split <;> rfl
@[simp] theorem State.modPerson_sck (s : State) (p : Nat) (f : Person → Person) : (s.modPerson p f).sck = s.sck := by
  unfold State.modPerson; split <;> rfl
@[simp] theorem State.modLock_pending (s : State) (g st : Nat) (f : Lock → Lock) : (s.modLock g st f).pending = s.pending := by
  unfold State.modLock; split <;> rfl
@[simp] theorem State.modLock_tagCount (s : State) (g st : Nat) (f : Lock → Lock) : (s.modLock g st f).tagCount = s.tagCount := by
  unfold State.modLock; split <;> rfl
@[simp] theorem State.modLock_pp (s : State) (g st : Nat) (f : Lock → Lock) : (s.modLock g st f).pp = s.pp := by
  unfold State.modLock; split <;> rfl
@[simp] theorem State.modLock_lk (s : State) (g st : Nat) (f : Lock → Lock) : (s.modLock g st f).lk = s.lk := by
  unfold State.modLock; split <;> rfl
@[simp] theorem State.modLock_pt (s : State) (g st : Nat) (f : Lock → Lock) : (s.modLock g st f).pt = s.pt := by
  unfold State.modLock; split <;> rfl
@[simp] theorem State.modLock_ci (s : State) (g st : Nat) (f : Lock → Lock) : (s.modLock g st f).ci = s.ci := by
  unfold State.modLock; split <;> rfl
@[simp] theorem State.modLock_ct (s : State) (g st : Nat) (f : Lock → Lock) : (s.modLock g st f).ct = s.ct := by
  unfold State.modLock; split <;> rfl
@[simp] theorem State.modLock_pu (s : State) (g st : Nat) (f : Lock → Lock) : (s.modLock g st f).pu = s.pu := by
  unfold State.modLock; split <;> rfl
@[simp] theorem State.modLock_tu (s : State) (g st : Nat) (f : Lock → Lock) : (s.modLock g st f).tu = s.tu := by
  unfold State.modLock; split <;> rfl
@[simp] theorem State.modLock_cc (s : State) (g st : Nat) (f : Lock → Lock) : (s.modLock g st f).cc = s.cc := by
  unfold State.modLock; split <;> rfl
@[simp] theorem State.modLock_pq (s : State) (g st : Nat) (f : Lock → Lock) : (s.modLock g st f).pq = s.pq := by
  unfold State.modLock; split <;> rfl
@[simp] theorem State.modLock_oe (s : State) (g st : Nat) (f : Lock → Lock) : (s.modLock g st f).oe = s.oe := by
  unfold State.modLock; split <;> rfl
@[simp] theorem State.modLock_nfu (s : State) (g st : Nat) (f : Lock → Lock) : (s.modLock g st f).nfu = s.nfu := by
  unfold State.modLock; split <;> rfl
@[simp] theorem State.modLock_sck (s : State) (g st : Nat) (f : Lock → Lock) : (s.modLock g st f).sck = s.sck := by
  unfold State.modLock; split <;> rfl
@[simp] theorem State.sendEvidence_pending (s : State) (e : Evidence) : (s.sendEvidence e).pending = s.pending := by
  rfl
@[simp] theorem State.sendEvidence_tagCount (s : State) (e : Evidence) : (s.sendEvidence e).tagCount = s.tagCount := by
  rfl
@[simp] theorem State.sendEvidence_pp (s : State) (e : Evidence) : (s.sendEvidence e).pp = s.pp := by
  rfl
@[simp] theorem State.sendEvidence_lk (s : State) (e : Evidence) : (s.sendEvidence e).lk = s.lk := by
  rfl
@[simp] theorem State.sendEvidence_pt (s : State) (e : Evidence) : (s.sendEvidence e).pt = s.pt := by
  rfl
@[simp] theorem State.sendEvidence_ci (s : State) (e : Evidence) : (s.sendEvidence e).ci = s.ci := by
  rfl
@[simp] theorem State.sendEvidence_ct (s : State) (e : Evidence) : (s.sendEvidence e).ct = s.ct := by
  rfl
@[simp] theorem State.sendEvidence_pu_counts (s : State) (e : Evidence) : (s.sendEvidence e).pu.counts = s.pu.counts := by
  rfl
@[simp] theorem State.sendEvidence_pu_lanes (s : State) (e : Evidence) : (s.sendEvidence e).pu.lanes = s.pu.lanes := by
  rfl
@[simp] theorem State.sendEvidence_pu_permitWindow (s : State) (e : Evidence) : (s.sendEvidence e).pu.permitWindow = s.pu.permitWindow := by
  rfl
@[simp] theorem State.sendEvidence_pu_deadline (s : State) (e : Evidence) : (s.sendEvidence e).pu.deadline = s.pu.deadline := by
  rfl
@[simp] theorem State.sendEvidence_pu_snapshot (s : State) (e : Evidence) : (s.sendEvidence e).pu.snapshot = s.pu.snapshot := by
  rfl
@[simp] theorem State.sendEvidence_sc (s : State) (e : Evidence) : (s.sendEvidence e).sc = s.sc := by
  rfl
@[simp] theorem State.sendEvidence_tu (s : State) (e : Evidence) : (s.sendEvidence e).tu = s.tu := by
  rfl
@[simp] theorem State.sendEvidence_cc (s : State) (e : Evidence) : (s.sendEvidence e).cc = s.cc := by
  rfl
@[simp] theorem State.sendEvidence_pq (s : State) (e : Evidence) : (s.sendEvidence e).pq = s.pq := by
  rfl
@[simp] theorem State.sendEvidence_oe (s : State) (e : Evidence) : (s.sendEvidence e).oe = s.oe := by
  rfl
@[simp] theorem State.sendEvidence_nfu (s : State) (e : Evidence) : (s.sendEvidence e).nfu = s.nfu := by
  rfl
@[simp] theorem State.sendEvidence_sck (s : State) (e : Evidence) : (s.sendEvidence e).sck = s.sck := by
  rfl
@[simp] theorem State.sendFrame_pending (s : State) (n : Nat) (f : Frame) : (s.sendFrame n f).pending = s.pending := by
  rfl
@[simp] theorem State.sendFrame_tagCount (s : State) (n : Nat) (f : Frame) : (s.sendFrame n f).tagCount = s.tagCount := by
  rfl
@[simp] theorem State.sendFrame_pp (s : State) (n : Nat) (f : Frame) : (s.sendFrame n f).pp = s.pp := by
  rfl
@[simp] theorem State.sendFrame_pt (s : State) (n : Nat) (f : Frame) : (s.sendFrame n f).pt = s.pt := by
  rfl
@[simp] theorem State.sendFrame_ci (s : State) (n : Nat) (f : Frame) : (s.sendFrame n f).ci = s.ci := by
  rfl
@[simp] theorem State.sendFrame_ct (s : State) (n : Nat) (f : Frame) : (s.sendFrame n f).ct = s.ct := by
  rfl
@[simp] theorem State.sendFrame_pu (s : State) (n : Nat) (f : Frame) : (s.sendFrame n f).pu = s.pu := by
  rfl
@[simp] theorem State.sendFrame_sc (s : State) (n : Nat) (f : Frame) : (s.sendFrame n f).sc = s.sc := by
  rfl
@[simp] theorem State.sendFrame_tu (s : State) (n : Nat) (f : Frame) : (s.sendFrame n f).tu = s.tu := by
  rfl
@[simp] theorem State.sendFrame_cc (s : State) (n : Nat) (f : Frame) : (s.sendFrame n f).cc = s.cc := by
  rfl
@[simp] theorem State.sendFrame_pq (s : State) (n : Nat) (f : Frame) : (s.sendFrame n f).pq = s.pq := by
  rfl
@[simp] theorem State.sendFrame_oe (s : State) (n : Nat) (f : Frame) : (s.sendFrame n f).oe = s.oe := by
  rfl
@[simp] theorem State.sendFrame_nfu (s : State) (n : Nat) (f : Frame) : (s.sendFrame n f).nfu = s.nfu := by
  rfl
@[simp] theorem State.sendFrame_sck (s : State) (n : Nat) (f : Frame) : (s.sendFrame n f).sck = s.sck := by
  rfl
@[simp] theorem State.drawTag_pending (s : State) : (s.drawTag).pending = s.pending := by
  rfl
@[simp] theorem State.drawTag_pp (s : State) : (s.drawTag).pp = s.pp := by
  rfl
@[simp] theorem State.drawTag_lk (s : State) : (s.drawTag).lk = s.lk := by
  rfl
@[simp] theorem State.drawTag_pt (s : State) : (s.drawTag).pt = s.pt := by
  rfl
@[simp] theorem State.drawTag_ci (s : State) : (s.drawTag).ci = s.ci := by
  rfl
@[simp] theorem State.drawTag_ct (s : State) : (s.drawTag).ct = s.ct := by
  rfl
@[simp] theorem State.drawTag_pu (s : State) : (s.drawTag).pu = s.pu := by
  rfl
@[simp] theorem State.drawTag_sc (s : State) : (s.drawTag).sc = s.sc := by
  rfl
@[simp] theorem State.drawTag_tu (s : State) : (s.drawTag).tu = s.tu := by
  rfl
@[simp] theorem State.drawTag_cc (s : State) : (s.drawTag).cc = s.cc := by
  rfl
@[simp] theorem State.drawTag_pq (s : State) : (s.drawTag).pq = s.pq := by
  rfl
@[simp] theorem State.drawTag_oe (s : State) : (s.drawTag).oe = s.oe := by
  rfl
@[simp] theorem State.drawTag_nfu (s : State) : (s.drawTag).nfu = s.nfu := by
  rfl
@[simp] theorem State.drawTag_sck (s : State) : (s.drawTag).sck = s.sck := by
  rfl
@[simp] theorem State.goodFrame_pending (s : State) (n : Nat) : (s.goodFrame n).pending = s.pending := by
  rfl
@[simp] theorem State.goodFrame_tagCount (s : State) (n : Nat) : (s.goodFrame n).tagCount = s.tagCount := by
  rfl
@[simp] theorem State.goodFrame_pp (s : State) (n : Nat) : (s.goodFrame n).pp = s.pp := by
  rfl
@[simp] theorem State.goodFrame_pt (s : State) (n : Nat) : (s.goodFrame n).pt = s.pt := by
  rfl
@[simp] theorem State.goodFrame_ci (s : State) (n : Nat) : (s.goodFrame n).ci = s.ci := by
  rfl
@[simp] theorem State.goodFrame_ct (s : State) (n : Nat) : (s.goodFrame n).ct = s.ct := by
  rfl
@[simp] theorem State.goodFrame_pu (s : State) (n : Nat) : (s.goodFrame n).pu = s.pu := by
  rfl
@[simp] theorem State.goodFrame_sc (s : State) (n : Nat) : (s.goodFrame n).sc = s.sc := by
  rfl
@[simp] theorem State.goodFrame_tu (s : State) (n : Nat) : (s.goodFrame n).tu = s.tu := by
  rfl
@[simp] theorem State.goodFrame_cc (s : State) (n : Nat) : (s.goodFrame n).cc = s.cc := by
  rfl
@[simp] theorem State.goodFrame_pq (s : State) (n : Nat) : (s.goodFrame n).pq = s.pq := by
  rfl
@[simp] theorem State.goodFrame_oe (s : State) (n : Nat) : (s.goodFrame n).oe = s.oe := by
  rfl
@[simp] theorem State.goodFrame_nfu (s : State) (n : Nat) : (s.goodFrame n).nfu = s.nfu := by
  rfl
@[simp] theorem State.goodFrame_sck (s : State) (n : Nat) : (s.goodFrame n).sck = s.sck := by
  rfl
@[simp] theorem State.queueAnswer_pending (s : State) (n : Nat) (f : Frame) : (s.queueAnswer n f).pending = s.pending := by
  unfold State.queueAnswer; split <;> rfl
@[simp] theorem State.queueAnswer_tagCount (s : State) (n : Nat) (f : Frame) : (s.queueAnswer n f).tagCount = s.tagCount := by
  unfold State.queueAnswer; split <;> rfl
@[simp] theorem State.queueAnswer_pp (s : State) (n : Nat) (f : Frame) : (s.queueAnswer n f).pp = s.pp := by
  unfold State.queueAnswer; split <;> rfl
@[simp] theorem State.queueAnswer_pt (s : State) (n : Nat) (f : Frame) : (s.queueAnswer n f).pt = s.pt := by
  unfold State.queueAnswer; split <;> rfl
@[simp] theorem State.queueAnswer_ci (s : State) (n : Nat) (f : Frame) : (s.queueAnswer n f).ci = s.ci := by
  unfold State.queueAnswer; split <;> rfl
@[simp] theorem State.queueAnswer_ct (s : State) (n : Nat) (f : Frame) : (s.queueAnswer n f).ct = s.ct := by
  unfold State.queueAnswer; split <;> rfl
@[simp] theorem State.queueAnswer_pu (s : State) (n : Nat) (f : Frame) : (s.queueAnswer n f).pu = s.pu := by
  unfold State.queueAnswer; split <;> rfl
@[simp] theorem State.queueAnswer_sc (s : State) (n : Nat) (f : Frame) : (s.queueAnswer n f).sc = s.sc := by
  unfold State.queueAnswer; split <;> rfl
@[simp] theorem State.queueAnswer_tu (s : State) (n : Nat) (f : Frame) : (s.queueAnswer n f).tu = s.tu := by
  unfold State.queueAnswer; split <;> rfl
@[simp] theorem State.queueAnswer_cc (s : State) (n : Nat) (f : Frame) : (s.queueAnswer n f).cc = s.cc := by
  unfold State.queueAnswer; split <;> rfl
@[simp] theorem State.queueAnswer_pq (s : State) (n : Nat) (f : Frame) : (s.queueAnswer n f).pq = s.pq := by
  unfold State.queueAnswer; split <;> rfl
@[simp] theorem State.queueAnswer_oe (s : State) (n : Nat) (f : Frame) : (s.queueAnswer n f).oe = s.oe := by
  unfold State.queueAnswer; split <;> rfl
@[simp] theorem State.queueAnswer_nfu (s : State) (n : Nat) (f : Frame) : (s.queueAnswer n f).nfu = s.nfu := by
  unfold State.queueAnswer; split <;> rfl
@[simp] theorem State.queueAnswer_sck (s : State) (n : Nat) (f : Frame) : (s.queueAnswer n f).sck = s.sck := by
  unfold State.queueAnswer; split <;> rfl
@[simp] theorem State.restartMeasure_pending (s : State) (g : Nat) : (s.restartMeasure g).pending = s.pending := by
  rfl
@[simp] theorem State.restartMeasure_tagCount (s : State) (g : Nat) : (s.restartMeasure g).tagCount = s.tagCount := by
  rfl
@[simp] theorem State.restartMeasure_pp (s : State) (g : Nat) : (s.restartMeasure g).pp = s.pp := by
  rfl
@[simp] theorem State.restartMeasure_lk (s : State) (g : Nat) : (s.restartMeasure g).lk = s.lk := by
  rfl
@[simp] theorem State.restartMeasure_pt (s : State) (g : Nat) : (s.restartMeasure g).pt = s.pt := by
  rfl
@[simp] theorem State.restartMeasure_ci (s : State) (g : Nat) : (s.restartMeasure g).ci = s.ci := by
  rfl
@[simp] theorem State.restartMeasure_ct (s : State) (g : Nat) : (s.restartMeasure g).ct = s.ct := by
  rfl
@[simp] theorem State.restartMeasure_pu (s : State) (g : Nat) : (s.restartMeasure g).pu = s.pu := by
  rfl
@[simp] theorem State.restartMeasure_tu (s : State) (g : Nat) : (s.restartMeasure g).tu = s.tu := by
  rfl
@[simp] theorem State.restartMeasure_cc (s : State) (g : Nat) : (s.restartMeasure g).cc = s.cc := by
  rfl
@[simp] theorem State.restartMeasure_pq (s : State) (g : Nat) : (s.restartMeasure g).pq = s.pq := by
  rfl
@[simp] theorem State.restartMeasure_oe (s : State) (g : Nat) : (s.restartMeasure g).oe = s.oe := by
  rfl
@[simp] theorem State.restartMeasure_nfu (s : State) (g : Nat) : (s.restartMeasure g).nfu = s.nfu := by
  rfl
@[simp] theorem State.restartMeasure_sck (s : State) (g : Nat) : (s.restartMeasure g).sck = s.sck := by
  rfl
@[simp] theorem State.deriveModes_pending (s : State) : (s.deriveModes).pending = s.pending := by
  rfl
@[simp] theorem State.deriveModes_tagCount (s : State) : (s.deriveModes).tagCount = s.tagCount := by
  rfl
@[simp] theorem State.deriveModes_pp (s : State) : (s.deriveModes).pp = s.pp := by
  rfl
@[simp] theorem State.deriveModes_lk (s : State) : (s.deriveModes).lk = s.lk := by
  rfl
@[simp] theorem State.deriveModes_pt (s : State) : (s.deriveModes).pt = s.pt := by
  rfl
@[simp] theorem State.deriveModes_ci (s : State) : (s.deriveModes).ci = s.ci := by
  rfl
@[simp] theorem State.deriveModes_ct (s : State) : (s.deriveModes).ct = s.ct := by
  rfl
@[simp] theorem State.deriveModes_pu_counts (s : State) : (s.deriveModes).pu.counts = s.pu.counts := by
  rfl
@[simp] theorem State.deriveModes_pu_permitWindow (s : State) : (s.deriveModes).pu.permitWindow = s.pu.permitWindow := by
  rfl
@[simp] theorem State.deriveModes_pu_deadline (s : State) : (s.deriveModes).pu.deadline = s.pu.deadline := by
  rfl
@[simp] theorem State.deriveModes_pu_snapshot (s : State) : (s.deriveModes).pu.snapshot = s.pu.snapshot := by
  rfl
@[simp] theorem State.deriveModes_pu_evidence (s : State) : (s.deriveModes).pu.evidence = s.pu.evidence := by
  rfl
@[simp] theorem State.deriveModes_sc (s : State) : (s.deriveModes).sc = s.sc := by
  rfl
@[simp] theorem State.deriveModes_tu (s : State) : (s.deriveModes).tu = s.tu := by
  rfl
@[simp] theorem State.deriveModes_cc (s : State) : (s.deriveModes).cc = s.cc := by
  rfl
@[simp] theorem State.deriveModes_pq (s : State) : (s.deriveModes).pq = s.pq := by
  rfl
@[simp] theorem State.deriveModes_oe (s : State) : (s.deriveModes).oe = s.oe := by
  rfl
@[simp] theorem State.deriveModes_nfu (s : State) : (s.deriveModes).nfu = s.nfu := by
  rfl
@[simp] theorem State.deriveModes_sck (s : State) : (s.deriveModes).sck = s.sck := by
  rfl
@[simp] theorem State.takeSnapshot_pending (s : State) : (s.takeSnapshot).pending = s.pending := by
  rfl
@[simp] theorem State.takeSnapshot_tagCount (s : State) : (s.takeSnapshot).tagCount = s.tagCount := by
  rfl
@[simp] theorem State.takeSnapshot_pp (s : State) : (s.takeSnapshot).pp = s.pp := by
  rfl
@[simp] theorem State.takeSnapshot_lk (s : State) : (s.takeSnapshot).lk = s.lk := by
  rfl
@[simp] theorem State.takeSnapshot_pt (s : State) : (s.takeSnapshot).pt = s.pt := by
  rfl
@[simp] theorem State.takeSnapshot_ci (s : State) : (s.takeSnapshot).ci = s.ci := by
  rfl
@[simp] theorem State.takeSnapshot_ct (s : State) : (s.takeSnapshot).ct = s.ct := by
  rfl
@[simp] theorem State.takeSnapshot_pu_counts (s : State) : (s.takeSnapshot).pu.counts = s.pu.counts := by
  rfl
@[simp] theorem State.takeSnapshot_pu_lanes (s : State) : (s.takeSnapshot).pu.lanes = s.pu.lanes := by
  rfl
@[simp] theorem State.takeSnapshot_pu_permitWindow (s : State) : (s.takeSnapshot).pu.permitWindow = s.pu.permitWindow := by
  rfl
@[simp] theorem State.takeSnapshot_pu_deadline (s : State) : (s.takeSnapshot).pu.deadline = s.pu.deadline := by
  rfl
@[simp] theorem State.takeSnapshot_pu_evidence (s : State) : (s.takeSnapshot).pu.evidence = s.pu.evidence := by
  rfl
@[simp] theorem State.takeSnapshot_sc (s : State) : (s.takeSnapshot).sc = s.sc := by
  rfl
@[simp] theorem State.takeSnapshot_tu (s : State) : (s.takeSnapshot).tu = s.tu := by
  rfl
@[simp] theorem State.takeSnapshot_cc (s : State) : (s.takeSnapshot).cc = s.cc := by
  rfl
@[simp] theorem State.takeSnapshot_pq (s : State) : (s.takeSnapshot).pq = s.pq := by
  rfl
@[simp] theorem State.takeSnapshot_oe (s : State) : (s.takeSnapshot).oe = s.oe := by
  rfl
@[simp] theorem State.takeSnapshot_nfu (s : State) : (s.takeSnapshot).nfu = s.nfu := by
  rfl
@[simp] theorem State.takeSnapshot_sck (s : State) : (s.takeSnapshot).sck = s.sck := by
  rfl
@[simp] theorem State.mapServings_pending (s : State) (f : List Serving → List Serving) : (s.mapServings f).pending = s.pending := by
  rfl
@[simp] theorem State.mapServings_tagCount (s : State) (f : List Serving → List Serving) : (s.mapServings f).tagCount = s.tagCount := by
  rfl
@[simp] theorem State.mapServings_pp (s : State) (f : List Serving → List Serving) : (s.mapServings f).pp = s.pp := by
  rfl
@[simp] theorem State.mapServings_lk (s : State) (f : List Serving → List Serving) : (s.mapServings f).lk = s.lk := by
  rfl
@[simp] theorem State.mapServings_ci (s : State) (f : List Serving → List Serving) : (s.mapServings f).ci = s.ci := by
  rfl
@[simp] theorem State.mapServings_ct (s : State) (f : List Serving → List Serving) : (s.mapServings f).ct = s.ct := by
  rfl
@[simp] theorem State.mapServings_pu (s : State) (f : List Serving → List Serving) : (s.mapServings f).pu = s.pu := by
  rfl
@[simp] theorem State.mapServings_sc (s : State) (f : List Serving → List Serving) : (s.mapServings f).sc = s.sc := by
  rfl
@[simp] theorem State.mapServings_tu (s : State) (f : List Serving → List Serving) : (s.mapServings f).tu = s.tu := by
  rfl
@[simp] theorem State.mapServings_cc (s : State) (f : List Serving → List Serving) : (s.mapServings f).cc = s.cc := by
  rfl
@[simp] theorem State.mapServings_pq (s : State) (f : List Serving → List Serving) : (s.mapServings f).pq = s.pq := by
  rfl
@[simp] theorem State.mapServings_oe (s : State) (f : List Serving → List Serving) : (s.mapServings f).oe = s.oe := by
  rfl
@[simp] theorem State.mapServings_nfu (s : State) (f : List Serving → List Serving) : (s.mapServings f).nfu = s.nfu := by
  rfl
@[simp] theorem State.mapServings_sck (s : State) (f : List Serving → List Serving) : (s.mapServings f).sck = s.sck := by
  rfl
@[simp] theorem State.expireDeadline_pending (s : State) : (s.expireDeadline).pending = s.pending := by
  rfl
@[simp] theorem State.expireDeadline_tagCount (s : State) : (s.expireDeadline).tagCount = s.tagCount := by
  rfl
@[simp] theorem State.expireDeadline_pp (s : State) : (s.expireDeadline).pp = s.pp := by
  rfl
@[simp] theorem State.expireDeadline_lk (s : State) : (s.expireDeadline).lk = s.lk := by
  rfl
@[simp] theorem State.expireDeadline_pt (s : State) : (s.expireDeadline).pt = s.pt := by
  rfl
@[simp] theorem State.expireDeadline_ci (s : State) : (s.expireDeadline).ci = s.ci := by
  rfl
@[simp] theorem State.expireDeadline_ct (s : State) : (s.expireDeadline).ct = s.ct := by
  rfl
@[simp] theorem State.expireDeadline_pu_counts (s : State) : (s.expireDeadline).pu.counts = s.pu.counts := by
  rfl
@[simp] theorem State.expireDeadline_pu_permitWindow (s : State) : (s.expireDeadline).pu.permitWindow = s.pu.permitWindow := by
  rfl
@[simp] theorem State.expireDeadline_pu_snapshot (s : State) : (s.expireDeadline).pu.snapshot = s.pu.snapshot := by
  rfl
@[simp] theorem State.expireDeadline_pu_evidence (s : State) : (s.expireDeadline).pu.evidence = s.pu.evidence := by
  rfl
@[simp] theorem State.expireDeadline_sc (s : State) : (s.expireDeadline).sc = s.sc := by
  rfl
@[simp] theorem State.expireDeadline_tu (s : State) : (s.expireDeadline).tu = s.tu := by
  rfl
@[simp] theorem State.expireDeadline_cc (s : State) : (s.expireDeadline).cc = s.cc := by
  rfl
@[simp] theorem State.expireDeadline_pq (s : State) : (s.expireDeadline).pq = s.pq := by
  rfl
@[simp] theorem State.expireDeadline_oe (s : State) : (s.expireDeadline).oe = s.oe := by
  rfl
@[simp] theorem State.expireDeadline_nfu_enables (s : State) : (s.expireDeadline).nfu.enables = s.nfu.enables := by
  rfl
@[simp] theorem State.expireDeadline_nfu_status (s : State) : (s.expireDeadline).nfu.status = s.nfu.status := by
  rfl
@[simp] theorem State.expireDeadline_nfu_masks (s : State) : (s.expireDeadline).nfu.masks = s.nfu.masks := by
  rfl
@[simp] theorem State.expireDeadline_nfu_severe (s : State) : (s.expireDeadline).nfu.severe = s.nfu.severe := by
  rfl
@[simp] theorem State.expireDeadline_nfu_first (s : State) : (s.expireDeadline).nfu.first = s.nfu.first := by
  rfl
@[simp] theorem State.expireDeadline_nfu_refusalRecord (s : State) : (s.expireDeadline).nfu.refusalRecord = s.nfu.refusalRecord := by
  rfl
@[simp] theorem State.expireDeadline_nfu_refusalNotice (s : State) : (s.expireDeadline).nfu.refusalNotice = s.nfu.refusalNotice := by
  rfl
@[simp] theorem State.expireDeadline_sck (s : State) : (s.expireDeadline).sck = s.sck := by
  rfl

end Sys2Proof.Machine
end

