-- ==== Sys2Proof/Laws/Ops.lean ====
section
/-! SUPPORT. What the shared operations can do: an equation for each append, and for every operation one lemma for each
field that it leaves as it is. -/

namespace Sys2Proof.Machine

theorem State.foldl_keeps {α β : Type} {f : State → β} {g : State → α → State} (h : ∀ s a, f (g s a) = f s) (l : List α)
    (s : State) : f (l.foldl g s) = f s := by
  induction l generalizing s with
  | nil => rfl
  | cons a l ih => rw [List.foldl_cons, ih, h]

/-- R125, R130, R131: all that an append does: nothing at a full queue; else one record joins the tail with the next
sequence number, and the two thresholds raise their notices. -/
theorem State.append_eq (s : State) (time : Nat) (person : Option Nat) (day : Nat) (body : PostingBody) :
    s.append time person day body =
      if s.free < 1 then s
      else
        let s1 : State := { s with pq := { s.pq with
          records := s.pq.records ++ [⟨s.pq.next, time, person, day, body⟩], next := s.pq.next + 1 } }
        let s2 := if s1.fill = 3584 then s1.raise .postingsHigh else s1
        if s1.fill = 3839 then s2.raise .chargingStopped else s2 := by
  unfold State.append State.append?
  by_cases h : s.free < 1 <;> simp [h]

/-- R130: the append with its number is the append, where there is a free entry. -/
theorem State.append?_eq (s : State) (time : Nat) (person : Option Nat) (day : Nat) (body : PostingBody) :
    s.append? time person day body = if s.free < 1 then none else some (s.append time person day body, s.pq.next) := by
  unfold State.append State.append?
  by_cases h : s.free < 1 <;> simp [h]

/-- R132: a CROSSING at a full queue is counted; any other is appended. -/
theorem State.appendCrossing_eq (s : State) (person : Option Nat) (c : Crossing) :
    s.appendCrossing person c =
      if s.free < 1 then ({ s with pq := { s.pq with unposted := tallyUp s.pq.unposted } } : State).raise .unposted
      else s.append s.sck.clock person s.sck.openDay (.crossing c) := by
  unfold State.appendCrossing
  rw [State.append?_eq]
  by_cases h : s.free < 1 <;> simp [h]

@[simp] theorem State.append_pending (s : State) (time : Nat) (person : Option Nat) (day : Nat) (body : PostingBody) : (s.append time person day body).pending = s.pending := by
  rw [State.append_eq]; dsimp only; (repeat' first | split | dsimp only) <;> rfl
@[simp] theorem State.append_tagCount (s : State) (time : Nat) (person : Option Nat) (day : Nat) (body : PostingBody) : (s.append time person day body).tagCount = s.tagCount := by
  rw [State.append_eq]; dsimp only; (repeat' first | split | dsimp only) <;> rfl
@[simp] theorem State.append_pp (s : State) (time : Nat) (person : Option Nat) (day : Nat) (body : PostingBody) : (s.append time person day body).pp = s.pp := by
  rw [State.append_eq]; dsimp only; (repeat' first | split | dsimp only) <;> rfl
@[simp] theorem State.append_lk (s : State) (time : Nat) (person : Option Nat) (day : Nat) (body : PostingBody) : (s.append time person day body).lk = s.lk := by
  rw [State.append_eq]; dsimp only; (repeat' first | split | dsimp only) <;> rfl
@[simp] theorem State.append_pt (s : State) (time : Nat) (person : Option Nat) (day : Nat) (body : PostingBody) : (s.append time person day body).pt = s.pt := by
  rw [State.append_eq]; dsimp only; (repeat' first | split | dsimp only) <;> rfl
@[simp] theorem State.append_ci (s : State) (time : Nat) (person : Option Nat) (day : Nat) (body : PostingBody) : (s.append time person day body).ci = s.ci := by
  rw [State.append_eq]; dsimp only; (repeat' first | split | dsimp only) <;> rfl
@[simp] theorem State.append_ct (s : State) (time : Nat) (person : Option Nat) (day : Nat) (body : PostingBody) : (s.append time person day body).ct = s.ct := by
  rw [State.append_eq]; dsimp only; (repeat' first | split | dsimp only) <;> rfl
@[simp] theorem State.append_pu (s : State) (time : Nat) (person : Option Nat) (day : Nat) (body : PostingBody) : (s.append time person day body).pu = s.pu := by
  rw [State.append_eq]; dsimp only; (repeat' first | split | dsimp only) <;> rfl
@[simp] theorem State.append_sc (s : State) (time : Nat) (person : Option Nat) (day : Nat) (body : PostingBody) : (s.append time person day body).sc = s.sc := by
  rw [State.append_eq]; dsimp only; (repeat' first | split | dsimp only) <;> rfl
@[simp] theorem State.append_tu (s : State) (time : Nat) (person : Option Nat) (day : Nat) (body : PostingBody) : (s.append time person day body).tu = s.tu := by
  rw [State.append_eq]; dsimp only; (repeat' first | split | dsimp only) <;> rfl
@[simp] theorem State.append_cc (s : State) (time : Nat) (person : Option Nat) (day : Nat) (body : PostingBody) : (s.append time person day body).cc = s.cc := by
  rw [State.append_eq]; dsimp only; (repeat' first | split | dsimp only) <;> rfl
@[simp] theorem State.append_pq_unposted (s : State) (time : Nat) (person : Option Nat) (day : Nat) (body : PostingBody) : (s.append time person day body).pq.unposted = s.pq.unposted := by
  rw [State.append_eq]; dsimp only; (repeat' first | split | dsimp only) <;> rfl
@[simp] theorem State.append_oe (s : State) (time : Nat) (person : Option Nat) (day : Nat) (body : PostingBody) : (s.append time person day body).oe = s.oe := by
  rw [State.append_eq]; dsimp only; (repeat' first | split | dsimp only) <;> rfl
@[simp] theorem State.append_nfu_enables (s : State) (time : Nat) (person : Option Nat) (day : Nat) (body : PostingBody) : (s.append time person day body).nfu.enables = s.nfu.enables := by
  rw [State.append_eq]; dsimp only; (repeat' first | split | dsimp only) <;> rfl
@[simp] theorem State.append_nfu_status (s : State) (time : Nat) (person : Option Nat) (day : Nat) (body : PostingBody) : (s.append time person day body).nfu.status = s.nfu.status := by
  rw [State.append_eq]; dsimp only; (repeat' first | split | dsimp only) <;> rfl
@[simp] theorem State.append_nfu_masks (s : State) (time : Nat) (person : Option Nat) (day : Nat) (body : PostingBody) : (s.append time person day body).nfu.masks = s.nfu.masks := by
  rw [State.append_eq]; dsimp only; (repeat' first | split | dsimp only) <;> rfl
@[simp] theorem State.append_nfu_severe (s : State) (time : Nat) (person : Option Nat) (day : Nat) (body : PostingBody) : (s.append time person day body).nfu.severe = s.nfu.severe := by
  rw [State.append_eq]; dsimp only; (repeat' first | split | dsimp only) <;> rfl
@[simp] theorem State.append_nfu_first (s : State) (time : Nat) (person : Option Nat) (day : Nat) (body : PostingBody) : (s.append time person day body).nfu.first = s.nfu.first := by
  rw [State.append_eq]; dsimp only; (repeat' first | split | dsimp only) <;> rfl
@[simp] theorem State.append_nfu_refusalRecord (s : State) (time : Nat) (person : Option Nat) (day : Nat) (body : PostingBody) : (s.append time person day body).nfu.refusalRecord = s.nfu.refusalRecord := by
  rw [State.append_eq]; dsimp only; (repeat' first | split | dsimp only) <;> rfl
@[simp] theorem State.append_nfu_refusalNotice (s : State) (time : Nat) (person : Option Nat) (day : Nat) (body : PostingBody) : (s.append time person day body).nfu.refusalNotice = s.nfu.refusalNotice := by
  rw [State.append_eq]; dsimp only; (repeat' first | split | dsimp only) <;> rfl
@[simp] theorem State.append_sck (s : State) (time : Nat) (person : Option Nat) (day : Nat) (body : PostingBody) : (s.append time person day body).sck = s.sck := by
  rw [State.append_eq]; dsimp only; (repeat' first | split | dsimp only) <;> rfl
@[simp] theorem State.appendCrossing_pending (s : State) (person : Option Nat) (c : Crossing) : (s.appendCrossing person c).pending = s.pending := by
  rw [State.appendCrossing_eq]; split <;> simp
@[simp] theorem State.appendCrossing_tagCount (s : State) (person : Option Nat) (c : Crossing) : (s.appendCrossing person c).tagCount = s.tagCount := by
  rw [State.appendCrossing_eq]; split <;> simp
@[simp] theorem State.appendCrossing_pp (s : State) (person : Option Nat) (c : Crossing) : (s.appendCrossing person c).pp = s.pp := by
  rw [State.appendCrossing_eq]; split <;> simp
@[simp] theorem State.appendCrossing_lk (s : State) (person : Option Nat) (c : Crossing) : (s.appendCrossing person c).lk = s.lk := by
  rw [State.appendCrossing_eq]; split <;> simp
@[simp] theorem State.appendCrossing_pt (s : State) (person : Option Nat) (c : Crossing) : (s.appendCrossing person c).pt = s.pt := by
  rw [State.appendCrossing_eq]; split <;> simp
@[simp] theorem State.appendCrossing_ci (s : State) (person : Option Nat) (c : Crossing) : (s.appendCrossing person c).ci = s.ci := by
  rw [State.appendCrossing_eq]; split <;> simp
@[simp] theorem State.appendCrossing_ct (s : State) (person : Option Nat) (c : Crossing) : (s.appendCrossing person c).ct = s.ct := by
  rw [State.appendCrossing_eq]; split <;> simp
@[simp] theorem State.appendCrossing_pu (s : State) (person : Option Nat) (c : Crossing) : (s.appendCrossing person c).pu = s.pu := by
  rw [State.appendCrossing_eq]; split <;> simp
@[simp] theorem State.appendCrossing_sc (s : State) (person : Option Nat) (c : Crossing) : (s.appendCrossing person c).sc = s.sc := by
  rw [State.appendCrossing_eq]; split <;> simp
@[simp] theorem State.appendCrossing_tu (s : State) (person : Option Nat) (c : Crossing) : (s.appendCrossing person c).tu = s.tu := by
  rw [State.appendCrossing_eq]; split <;> simp
@[simp] theorem State.appendCrossing_cc (s : State) (person : Option Nat) (c : Crossing) : (s.appendCrossing person c).cc = s.cc := by
  rw [State.appendCrossing_eq]; split <;> simp
@[simp] theorem State.appendCrossing_oe (s : State) (person : Option Nat) (c : Crossing) : (s.appendCrossing person c).oe = s.oe := by
  rw [State.appendCrossing_eq]; split <;> simp
@[simp] theorem State.appendCrossing_nfu_enables (s : State) (person : Option Nat) (c : Crossing) : (s.appendCrossing person c).nfu.enables = s.nfu.enables := by
  rw [State.appendCrossing_eq]; split <;> simp
@[simp] theorem State.appendCrossing_nfu_status (s : State) (person : Option Nat) (c : Crossing) : (s.appendCrossing person c).nfu.status = s.nfu.status := by
  rw [State.appendCrossing_eq]; split <;> simp
@[simp] theorem State.appendCrossing_nfu_masks (s : State) (person : Option Nat) (c : Crossing) : (s.appendCrossing person c).nfu.masks = s.nfu.masks := by
  rw [State.appendCrossing_eq]; split <;> simp
@[simp] theorem State.appendCrossing_nfu_severe (s : State) (person : Option Nat) (c : Crossing) : (s.appendCrossing person c).nfu.severe = s.nfu.severe := by
  rw [State.appendCrossing_eq]; split <;> simp
@[simp] theorem State.appendCrossing_nfu_first (s : State) (person : Option Nat) (c : Crossing) : (s.appendCrossing person c).nfu.first = s.nfu.first := by
  rw [State.appendCrossing_eq]; split <;> simp
@[simp] theorem State.appendCrossing_nfu_refusalRecord (s : State) (person : Option Nat) (c : Crossing) : (s.appendCrossing person c).nfu.refusalRecord = s.nfu.refusalRecord := by
  rw [State.appendCrossing_eq]; split <;> simp
@[simp] theorem State.appendCrossing_nfu_refusalNotice (s : State) (person : Option Nat) (c : Crossing) : (s.appendCrossing person c).nfu.refusalNotice = s.nfu.refusalNotice := by
  rw [State.appendCrossing_eq]; split <;> simp
@[simp] theorem State.appendCrossing_sck (s : State) (person : Option Nat) (c : Crossing) : (s.appendCrossing person c).sck = s.sck := by
  rw [State.appendCrossing_eq]; split <;> simp
@[simp] theorem State.revokedUse_pending (s : State) (person : Nat) (serial : Serial) (src : Source) : (s.revokedUse person serial src).pending = s.pending := by
  simp [State.revokedUse]
@[simp] theorem State.revokedUse_tagCount (s : State) (person : Nat) (serial : Serial) (src : Source) : (s.revokedUse person serial src).tagCount = s.tagCount := by
  simp [State.revokedUse]
@[simp] theorem State.revokedUse_pp (s : State) (person : Nat) (serial : Serial) (src : Source) : (s.revokedUse person serial src).pp = s.pp := by
  simp [State.revokedUse]
@[simp] theorem State.revokedUse_lk (s : State) (person : Nat) (serial : Serial) (src : Source) : (s.revokedUse person serial src).lk = s.lk := by
  simp [State.revokedUse]
@[simp] theorem State.revokedUse_pt (s : State) (person : Nat) (serial : Serial) (src : Source) : (s.revokedUse person serial src).pt = s.pt := by
  simp [State.revokedUse]
@[simp] theorem State.revokedUse_ci (s : State) (person : Nat) (serial : Serial) (src : Source) : (s.revokedUse person serial src).ci = s.ci := by
  simp [State.revokedUse]
@[simp] theorem State.revokedUse_ct (s : State) (person : Nat) (serial : Serial) (src : Source) : (s.revokedUse person serial src).ct = s.ct := by
  simp [State.revokedUse]
@[simp] theorem State.revokedUse_pu (s : State) (person : Nat) (serial : Serial) (src : Source) : (s.revokedUse person serial src).pu = s.pu := by
  simp [State.revokedUse]
@[simp] theorem State.revokedUse_sc (s : State) (person : Nat) (serial : Serial) (src : Source) : (s.revokedUse person serial src).sc = s.sc := by
  simp [State.revokedUse]
@[simp] theorem State.revokedUse_tu (s : State) (person : Nat) (serial : Serial) (src : Source) : (s.revokedUse person serial src).tu = s.tu := by
  simp [State.revokedUse]
@[simp] theorem State.revokedUse_cc (s : State) (person : Nat) (serial : Serial) (src : Source) : (s.revokedUse person serial src).cc = s.cc := by
  simp [State.revokedUse]
@[simp] theorem State.revokedUse_pq_unposted (s : State) (person : Nat) (serial : Serial) (src : Source) : (s.revokedUse person serial src).pq.unposted = s.pq.unposted := by
  simp [State.revokedUse]
@[simp] theorem State.revokedUse_oe (s : State) (person : Nat) (serial : Serial) (src : Source) : (s.revokedUse person serial src).oe = s.oe := by
  simp [State.revokedUse]
@[simp] theorem State.revokedUse_nfu_enables (s : State) (person : Nat) (serial : Serial) (src : Source) : (s.revokedUse person serial src).nfu.enables = s.nfu.enables := by
  simp [State.revokedUse]
@[simp] theorem State.revokedUse_nfu_status (s : State) (person : Nat) (serial : Serial) (src : Source) : (s.revokedUse person serial src).nfu.status = s.nfu.status := by
  simp [State.revokedUse]
@[simp] theorem State.revokedUse_nfu_masks (s : State) (person : Nat) (serial : Serial) (src : Source) : (s.revokedUse person serial src).nfu.masks = s.nfu.masks := by
  simp [State.revokedUse]
@[simp] theorem State.revokedUse_nfu_severe (s : State) (person : Nat) (serial : Serial) (src : Source) : (s.revokedUse person serial src).nfu.severe = s.nfu.severe := by
  simp [State.revokedUse]
@[simp] theorem State.revokedUse_nfu_first (s : State) (person : Nat) (serial : Serial) (src : Source) : (s.revokedUse person serial src).nfu.first = s.nfu.first := by
  simp [State.revokedUse]
@[simp] theorem State.revokedUse_nfu_refusalRecord (s : State) (person : Nat) (serial : Serial) (src : Source) : (s.revokedUse person serial src).nfu.refusalRecord = s.nfu.refusalRecord := by
  simp [State.revokedUse]
@[simp] theorem State.revokedUse_nfu_refusalNotice (s : State) (person : Nat) (serial : Serial) (src : Source) : (s.revokedUse person serial src).nfu.refusalNotice = s.nfu.refusalNotice := by
  simp [State.revokedUse]
@[simp] theorem State.revokedUse_sck (s : State) (person : Nat) (serial : Serial) (src : Source) : (s.revokedUse person serial src).sck = s.sck := by
  simp [State.revokedUse]
@[simp] theorem State.movePresence_pending (s : State) (p : Nat) (new : Presence) : (s.movePresence p new).pending = s.pending := by
  unfold State.movePresence; split <;> (try split) <;> rfl
@[simp] theorem State.movePresence_tagCount (s : State) (p : Nat) (new : Presence) : (s.movePresence p new).tagCount = s.tagCount := by
  unfold State.movePresence; split <;> (try split) <;> rfl
@[simp] theorem State.movePresence_pp (s : State) (p : Nat) (new : Presence) : (s.movePresence p new).pp = s.pp := by
  unfold State.movePresence; split <;> (try split) <;> rfl
@[simp] theorem State.movePresence_lk (s : State) (p : Nat) (new : Presence) : (s.movePresence p new).lk = s.lk := by
  unfold State.movePresence; split <;> (try split) <;> rfl
@[simp] theorem State.movePresence_ci (s : State) (p : Nat) (new : Presence) : (s.movePresence p new).ci = s.ci := by
  unfold State.movePresence; split <;> (try split) <;> rfl
@[simp] theorem State.movePresence_ct (s : State) (p : Nat) (new : Presence) : (s.movePresence p new).ct = s.ct := by
  unfold State.movePresence; split <;> (try split) <;> rfl
@[simp] theorem State.movePresence_pu_lanes (s : State) (p : Nat) (new : Presence) : (s.movePresence p new).pu.lanes = s.pu.lanes := by
  unfold State.movePresence; split <;> (try split) <;> rfl
@[simp] theorem State.movePresence_pu_permitWindow (s : State) (p : Nat) (new : Presence) : (s.movePresence p new).pu.permitWindow = s.pu.permitWindow := by
  unfold State.movePresence; split <;> (try split) <;> rfl
@[simp] theorem State.movePresence_pu_deadline (s : State) (p : Nat) (new : Presence) : (s.movePresence p new).pu.deadline = s.pu.deadline := by
  unfold State.movePresence; split <;> (try split) <;> rfl
@[simp] theorem State.movePresence_pu_snapshot (s : State) (p : Nat) (new : Presence) : (s.movePresence p new).pu.snapshot = s.pu.snapshot := by
  unfold State.movePresence; split <;> (try split) <;> rfl
@[simp] theorem State.movePresence_pu_evidence (s : State) (p : Nat) (new : Presence) : (s.movePresence p new).pu.evidence = s.pu.evidence := by
  unfold State.movePresence; split <;> (try split) <;> rfl
@[simp] theorem State.movePresence_sc (s : State) (p : Nat) (new : Presence) : (s.movePresence p new).sc = s.sc := by
  unfold State.movePresence; split <;> (try split) <;> rfl
@[simp] theorem State.movePresence_tu (s : State) (p : Nat) (new : Presence) : (s.movePresence p new).tu = s.tu := by
  unfold State.movePresence; split <;> (try split) <;> rfl
@[simp] theorem State.movePresence_cc (s : State) (p : Nat) (new : Presence) : (s.movePresence p new).cc = s.cc := by
  unfold State.movePresence; split <;> (try split) <;> rfl
@[simp] theorem State.movePresence_pq (s : State) (p : Nat) (new : Presence) : (s.movePresence p new).pq = s.pq := by
  unfold State.movePresence; split <;> (try split) <;> rfl
@[simp] theorem State.movePresence_oe (s : State) (p : Nat) (new : Presence) : (s.movePresence p new).oe = s.oe := by
  unfold State.movePresence; split <;> (try split) <;> rfl
@[simp] theorem State.movePresence_nfu (s : State) (p : Nat) (new : Presence) : (s.movePresence p new).nfu = s.nfu := by
  unfold State.movePresence; split <;> (try split) <;> rfl
@[simp] theorem State.movePresence_sck (s : State) (p : Nat) (new : Presence) : (s.movePresence p new).sck = s.sck := by
  unfold State.movePresence; split <;> (try split) <;> rfl
@[simp] theorem State.endPermit_pending (s : State) (n : Nat) : (s.endPermit n).pending = s.pending := by
  unfold State.endPermit; dsimp only; split <;> simp
@[simp] theorem State.endPermit_tagCount (s : State) (n : Nat) : (s.endPermit n).tagCount = s.tagCount := by
  unfold State.endPermit; dsimp only; split <;> simp
@[simp] theorem State.endPermit_pp (s : State) (n : Nat) : (s.endPermit n).pp = s.pp := by
  unfold State.endPermit; dsimp only; split <;> simp
@[simp] theorem State.endPermit_lk (s : State) (n : Nat) : (s.endPermit n).lk = s.lk := by
  unfold State.endPermit; dsimp only; split <;> simp
@[simp] theorem State.endPermit_ci (s : State) (n : Nat) : (s.endPermit n).ci = s.ci := by
  unfold State.endPermit; dsimp only; split <;> simp
@[simp] theorem State.endPermit_ct (s : State) (n : Nat) : (s.endPermit n).ct = s.ct := by
  unfold State.endPermit; dsimp only; split <;> simp
@[simp] theorem State.endPermit_pu_counts (s : State) (n : Nat) : (s.endPermit n).pu.counts = s.pu.counts := by
  unfold State.endPermit; dsimp only; split <;> simp
@[simp] theorem State.endPermit_pu_permitWindow (s : State) (n : Nat) : (s.endPermit n).pu.permitWindow = s.pu.permitWindow := by
  unfold State.endPermit; dsimp only; split <;> simp
@[simp] theorem State.endPermit_pu_deadline (s : State) (n : Nat) : (s.endPermit n).pu.deadline = s.pu.deadline := by
  unfold State.endPermit; dsimp only; split <;> simp
@[simp] theorem State.endPermit_pu_snapshot (s : State) (n : Nat) : (s.endPermit n).pu.snapshot = s.pu.snapshot := by
  unfold State.endPermit; dsimp only; split <;> simp
@[simp] theorem State.endPermit_pu_evidence (s : State) (n : Nat) : (s.endPermit n).pu.evidence = s.pu.evidence := by
  unfold State.endPermit; dsimp only; split <;> simp
@[simp] theorem State.endPermit_sc (s : State) (n : Nat) : (s.endPermit n).sc = s.sc := by
  unfold State.endPermit; dsimp only; split <;> simp
@[simp] theorem State.endPermit_tu (s : State) (n : Nat) : (s.endPermit n).tu = s.tu := by
  unfold State.endPermit; dsimp only; split <;> simp
@[simp] theorem State.endPermit_cc (s : State) (n : Nat) : (s.endPermit n).cc = s.cc := by
  unfold State.endPermit; dsimp only; split <;> simp
@[simp] theorem State.endPermit_pq (s : State) (n : Nat) : (s.endPermit n).pq = s.pq := by
  unfold State.endPermit; dsimp only; split <;> simp
@[simp] theorem State.endPermit_oe (s : State) (n : Nat) : (s.endPermit n).oe = s.oe := by
  unfold State.endPermit; dsimp only; split <;> simp
@[simp] theorem State.endPermit_nfu (s : State) (n : Nat) : (s.endPermit n).nfu = s.nfu := by
  unfold State.endPermit; dsimp only; split <;> simp
@[simp] theorem State.endPermit_sck (s : State) (n : Nat) : (s.endPermit n).sck = s.sck := by
  unfold State.endPermit; dsimp only; split <;> simp
@[simp] theorem State.endPermits_pending (s : State) : (s.endPermits).pending = s.pending := by
  simp [State.endPermits, laneNumbers]
@[simp] theorem State.endPermits_tagCount (s : State) : (s.endPermits).tagCount = s.tagCount := by
  simp [State.endPermits, laneNumbers]
@[simp] theorem State.endPermits_pp (s : State) : (s.endPermits).pp = s.pp := by
  simp [State.endPermits, laneNumbers]
@[simp] theorem State.endPermits_lk (s : State) : (s.endPermits).lk = s.lk := by
  simp [State.endPermits, laneNumbers]
@[simp] theorem State.endPermits_ci (s : State) : (s.endPermits).ci = s.ci := by
  simp [State.endPermits, laneNumbers]
@[simp] theorem State.endPermits_ct (s : State) : (s.endPermits).ct = s.ct := by
  simp [State.endPermits, laneNumbers]
@[simp] theorem State.endPermits_pu_counts (s : State) : (s.endPermits).pu.counts = s.pu.counts := by
  simp [State.endPermits, laneNumbers]
@[simp] theorem State.endPermits_pu_permitWindow (s : State) : (s.endPermits).pu.permitWindow = s.pu.permitWindow := by
  simp [State.endPermits, laneNumbers]
@[simp] theorem State.endPermits_pu_deadline (s : State) : (s.endPermits).pu.deadline = s.pu.deadline := by
  simp [State.endPermits, laneNumbers]
@[simp] theorem State.endPermits_pu_snapshot (s : State) : (s.endPermits).pu.snapshot = s.pu.snapshot := by
  simp [State.endPermits, laneNumbers]
@[simp] theorem State.endPermits_pu_evidence (s : State) : (s.endPermits).pu.evidence = s.pu.evidence := by
  simp [State.endPermits, laneNumbers]
@[simp] theorem State.endPermits_sc (s : State) : (s.endPermits).sc = s.sc := by
  simp [State.endPermits, laneNumbers]
@[simp] theorem State.endPermits_tu (s : State) : (s.endPermits).tu = s.tu := by
  simp [State.endPermits, laneNumbers]
@[simp] theorem State.endPermits_cc (s : State) : (s.endPermits).cc = s.cc := by
  simp [State.endPermits, laneNumbers]
@[simp] theorem State.endPermits_pq (s : State) : (s.endPermits).pq = s.pq := by
  simp [State.endPermits, laneNumbers]
@[simp] theorem State.endPermits_oe (s : State) : (s.endPermits).oe = s.oe := by
  simp [State.endPermits, laneNumbers]
@[simp] theorem State.endPermits_nfu (s : State) : (s.endPermits).nfu = s.nfu := by
  simp [State.endPermits, laneNumbers]
@[simp] theorem State.endPermits_sck (s : State) : (s.endPermits).sck = s.sck := by
  simp [State.endPermits, laneNumbers]
@[simp] theorem State.endOutPermits_pending (s : State) : (s.endOutPermits).pending = s.pending := by
  unfold State.endOutPermits; refine @State.foldl_keeps Nat _ (fun s => s.pending) _ ?_ _ _; intro s n; split <;> (try split) <;> simp
@[simp] theorem State.endOutPermits_tagCount (s : State) : (s.endOutPermits).tagCount = s.tagCount := by
  unfold State.endOutPermits; refine @State.foldl_keeps Nat _ (fun s => s.tagCount) _ ?_ _ _; intro s n; split <;> (try split) <;> simp
@[simp] theorem State.endOutPermits_pp (s : State) : (s.endOutPermits).pp = s.pp := by
  unfold State.endOutPermits; refine @State.foldl_keeps Nat _ (fun s => s.pp) _ ?_ _ _; intro s n; split <;> (try split) <;> simp
@[simp] theorem State.endOutPermits_lk (s : State) : (s.endOutPermits).lk = s.lk := by
  unfold State.endOutPermits; refine @State.foldl_keeps Nat _ (fun s => s.lk) _ ?_ _ _; intro s n; split <;> (try split) <;> simp
@[simp] theorem State.endOutPermits_ci (s : State) : (s.endOutPermits).ci = s.ci := by
  unfold State.endOutPermits; refine @State.foldl_keeps Nat _ (fun s => s.ci) _ ?_ _ _; intro s n; split <;> (try split) <;> simp
@[simp] theorem State.endOutPermits_ct (s : State) : (s.endOutPermits).ct = s.ct := by
  unfold State.endOutPermits; refine @State.foldl_keeps Nat _ (fun s => s.ct) _ ?_ _ _; intro s n; split <;> (try split) <;> simp
@[simp] theorem State.endOutPermits_pu_counts (s : State) : (s.endOutPermits).pu.counts = s.pu.counts := by
  unfold State.endOutPermits; refine @State.foldl_keeps Nat _ (fun s => s.pu.counts) _ ?_ _ _; intro s n; split <;> (try split) <;> simp
@[simp] theorem State.endOutPermits_pu_permitWindow (s : State) : (s.endOutPermits).pu.permitWindow = s.pu.permitWindow := by
  unfold State.endOutPermits; refine @State.foldl_keeps Nat _ (fun s => s.pu.permitWindow) _ ?_ _ _; intro s n; split <;> (try split) <;> simp
@[simp] theorem State.endOutPermits_pu_deadline (s : State) : (s.endOutPermits).pu.deadline = s.pu.deadline := by
  unfold State.endOutPermits; refine @State.foldl_keeps Nat _ (fun s => s.pu.deadline) _ ?_ _ _; intro s n; split <;> (try split) <;> simp
@[simp] theorem State.endOutPermits_pu_snapshot (s : State) : (s.endOutPermits).pu.snapshot = s.pu.snapshot := by
  unfold State.endOutPermits; refine @State.foldl_keeps Nat _ (fun s => s.pu.snapshot) _ ?_ _ _; intro s n; split <;> (try split) <;> simp
@[simp] theorem State.endOutPermits_pu_evidence (s : State) : (s.endOutPermits).pu.evidence = s.pu.evidence := by
  unfold State.endOutPermits; refine @State.foldl_keeps Nat _ (fun s => s.pu.evidence) _ ?_ _ _; intro s n; split <;> (try split) <;> simp
@[simp] theorem State.endOutPermits_sc (s : State) : (s.endOutPermits).sc = s.sc := by
  unfold State.endOutPermits; refine @State.foldl_keeps Nat _ (fun s => s.sc) _ ?_ _ _; intro s n; split <;> (try split) <;> simp
@[simp] theorem State.endOutPermits_tu (s : State) : (s.endOutPermits).tu = s.tu := by
  unfold State.endOutPermits; refine @State.foldl_keeps Nat _ (fun s => s.tu) _ ?_ _ _; intro s n; split <;> (try split) <;> simp
@[simp] theorem State.endOutPermits_cc (s : State) : (s.endOutPermits).cc = s.cc := by
  unfold State.endOutPermits; refine @State.foldl_keeps Nat _ (fun s => s.cc) _ ?_ _ _; intro s n; split <;> (try split) <;> simp
@[simp] theorem State.endOutPermits_pq (s : State) : (s.endOutPermits).pq = s.pq := by
  unfold State.endOutPermits; refine @State.foldl_keeps Nat _ (fun s => s.pq) _ ?_ _ _; intro s n; split <;> (try split) <;> simp
@[simp] theorem State.endOutPermits_oe (s : State) : (s.endOutPermits).oe = s.oe := by
  unfold State.endOutPermits; refine @State.foldl_keeps Nat _ (fun s => s.oe) _ ?_ _ _; intro s n; split <;> (try split) <;> simp
@[simp] theorem State.endOutPermits_nfu (s : State) : (s.endOutPermits).nfu = s.nfu := by
  unfold State.endOutPermits; refine @State.foldl_keeps Nat _ (fun s => s.nfu) _ ?_ _ _; intro s n; split <;> (try split) <;> simp
@[simp] theorem State.endOutPermits_sck (s : State) : (s.endOutPermits).sck = s.sck := by
  unfold State.endOutPermits; refine @State.foldl_keeps Nat _ (fun s => s.sck) _ ?_ _ _; intro s n; split <;> (try split) <;> simp
@[simp] theorem State.changeLink_pending (s : State) (n : Nat) (new : LinkState) : (s.changeLink n new).pending = s.pending := by
  unfold State.changeLink; dsimp only; split <;> simp
@[simp] theorem State.changeLink_tagCount (s : State) (n : Nat) (new : LinkState) : (s.changeLink n new).tagCount = s.tagCount := by
  unfold State.changeLink; dsimp only; split <;> simp
@[simp] theorem State.changeLink_pp (s : State) (n : Nat) (new : LinkState) : (s.changeLink n new).pp = s.pp := by
  unfold State.changeLink; dsimp only; split <;> simp
@[simp] theorem State.changeLink_pt (s : State) (n : Nat) (new : LinkState) : (s.changeLink n new).pt = s.pt := by
  unfold State.changeLink; dsimp only; split <;> simp
@[simp] theorem State.changeLink_ci (s : State) (n : Nat) (new : LinkState) : (s.changeLink n new).ci = s.ci := by
  unfold State.changeLink; dsimp only; split <;> simp
@[simp] theorem State.changeLink_ct (s : State) (n : Nat) (new : LinkState) : (s.changeLink n new).ct = s.ct := by
  unfold State.changeLink; dsimp only; split <;> simp
@[simp] theorem State.changeLink_pu (s : State) (n : Nat) (new : LinkState) : (s.changeLink n new).pu = s.pu := by
  unfold State.changeLink; dsimp only; split <;> simp
@[simp] theorem State.changeLink_sc (s : State) (n : Nat) (new : LinkState) : (s.changeLink n new).sc = s.sc := by
  unfold State.changeLink; dsimp only; split <;> simp
@[simp] theorem State.changeLink_tu (s : State) (n : Nat) (new : LinkState) : (s.changeLink n new).tu = s.tu := by
  unfold State.changeLink; dsimp only; split <;> simp
@[simp] theorem State.changeLink_cc (s : State) (n : Nat) (new : LinkState) : (s.changeLink n new).cc = s.cc := by
  unfold State.changeLink; dsimp only; split <;> simp
@[simp] theorem State.changeLink_pq (s : State) (n : Nat) (new : LinkState) : (s.changeLink n new).pq = s.pq := by
  unfold State.changeLink; dsimp only; split <;> simp
@[simp] theorem State.changeLink_oe (s : State) (n : Nat) (new : LinkState) : (s.changeLink n new).oe = s.oe := by
  unfold State.changeLink; dsimp only; split <;> simp
@[simp] theorem State.changeLink_nfu_enables (s : State) (n : Nat) (new : LinkState) : (s.changeLink n new).nfu.enables = s.nfu.enables := by
  unfold State.changeLink; dsimp only; split <;> simp
@[simp] theorem State.changeLink_nfu_status (s : State) (n : Nat) (new : LinkState) : (s.changeLink n new).nfu.status = s.nfu.status := by
  unfold State.changeLink; dsimp only; split <;> simp
@[simp] theorem State.changeLink_nfu_masks (s : State) (n : Nat) (new : LinkState) : (s.changeLink n new).nfu.masks = s.nfu.masks := by
  unfold State.changeLink; dsimp only; split <;> simp
@[simp] theorem State.changeLink_nfu_severe (s : State) (n : Nat) (new : LinkState) : (s.changeLink n new).nfu.severe = s.nfu.severe := by
  unfold State.changeLink; dsimp only; split <;> simp
@[simp] theorem State.changeLink_nfu_first (s : State) (n : Nat) (new : LinkState) : (s.changeLink n new).nfu.first = s.nfu.first := by
  unfold State.changeLink; dsimp only; split <;> simp
@[simp] theorem State.changeLink_nfu_refusalRecord (s : State) (n : Nat) (new : LinkState) : (s.changeLink n new).nfu.refusalRecord = s.nfu.refusalRecord := by
  unfold State.changeLink; dsimp only; split <;> simp
@[simp] theorem State.changeLink_nfu_refusalNotice (s : State) (n : Nat) (new : LinkState) : (s.changeLink n new).nfu.refusalNotice = s.nfu.refusalNotice := by
  unfold State.changeLink; dsimp only; split <;> simp
@[simp] theorem State.changeLink_sck (s : State) (n : Nat) (new : LinkState) : (s.changeLink n new).sck = s.sck := by
  unfold State.changeLink; dsimp only; split <;> simp
@[simp] theorem State.leaveService_pending (s : State) (n : Nat) : (s.leaveService n).pending = s.pending := by
  unfold State.leaveService; split <;> (try rfl); dsimp only; split <;> split <;> simp
@[simp] theorem State.leaveService_tagCount (s : State) (n : Nat) : (s.leaveService n).tagCount = s.tagCount := by
  unfold State.leaveService; split <;> (try rfl); dsimp only; split <;> split <;> simp
@[simp] theorem State.leaveService_pp (s : State) (n : Nat) : (s.leaveService n).pp = s.pp := by
  unfold State.leaveService; split <;> (try rfl); dsimp only; split <;> split <;> simp
@[simp] theorem State.leaveService_ci (s : State) (n : Nat) : (s.leaveService n).ci = s.ci := by
  unfold State.leaveService; split <;> (try rfl); dsimp only; split <;> split <;> simp
@[simp] theorem State.leaveService_ct (s : State) (n : Nat) : (s.leaveService n).ct = s.ct := by
  unfold State.leaveService; split <;> (try rfl); dsimp only; split <;> split <;> simp
@[simp] theorem State.leaveService_pu_counts (s : State) (n : Nat) : (s.leaveService n).pu.counts = s.pu.counts := by
  unfold State.leaveService; split <;> (try rfl); dsimp only; split <;> split <;> simp
@[simp] theorem State.leaveService_pu_permitWindow (s : State) (n : Nat) : (s.leaveService n).pu.permitWindow = s.pu.permitWindow := by
  unfold State.leaveService; split <;> (try rfl); dsimp only; split <;> split <;> simp
@[simp] theorem State.leaveService_pu_deadline (s : State) (n : Nat) : (s.leaveService n).pu.deadline = s.pu.deadline := by
  unfold State.leaveService; split <;> (try rfl); dsimp only; split <;> split <;> simp
@[simp] theorem State.leaveService_pu_snapshot (s : State) (n : Nat) : (s.leaveService n).pu.snapshot = s.pu.snapshot := by
  unfold State.leaveService; split <;> (try rfl); dsimp only; split <;> split <;> simp
@[simp] theorem State.leaveService_pu_evidence (s : State) (n : Nat) : (s.leaveService n).pu.evidence = s.pu.evidence := by
  unfold State.leaveService; split <;> (try rfl); dsimp only; split <;> split <;> simp
@[simp] theorem State.leaveService_tu (s : State) (n : Nat) : (s.leaveService n).tu = s.tu := by
  unfold State.leaveService; split <;> (try rfl); dsimp only; split <;> split <;> simp
@[simp] theorem State.leaveService_cc (s : State) (n : Nat) : (s.leaveService n).cc = s.cc := by
  unfold State.leaveService; split <;> (try rfl); dsimp only; split <;> split <;> simp
@[simp] theorem State.leaveService_pq (s : State) (n : Nat) : (s.leaveService n).pq = s.pq := by
  unfold State.leaveService; split <;> (try rfl); dsimp only; split <;> split <;> simp
@[simp] theorem State.leaveService_oe (s : State) (n : Nat) : (s.leaveService n).oe = s.oe := by
  unfold State.leaveService; split <;> (try rfl); dsimp only; split <;> split <;> simp
@[simp] theorem State.leaveService_nfu (s : State) (n : Nat) : (s.leaveService n).nfu = s.nfu := by
  unfold State.leaveService; split <;> (try rfl); dsimp only; split <;> split <;> simp
@[simp] theorem State.leaveService_sck (s : State) (n : Nat) : (s.leaveService n).sck = s.sck := by
  unfold State.leaveService; split <;> (try rfl); dsimp only; split <;> split <;> simp
@[simp] theorem State.recoverLink_pending (s : State) (n : Nat) : (s.recoverLink n).pending = s.pending := by
  unfold State.recoverLink; split <;> simp
@[simp] theorem State.recoverLink_tagCount (s : State) (n : Nat) : (s.recoverLink n).tagCount = s.tagCount := by
  unfold State.recoverLink; split <;> simp
@[simp] theorem State.recoverLink_pp (s : State) (n : Nat) : (s.recoverLink n).pp = s.pp := by
  unfold State.recoverLink; split <;> simp
@[simp] theorem State.recoverLink_ci (s : State) (n : Nat) : (s.recoverLink n).ci = s.ci := by
  unfold State.recoverLink; split <;> simp
@[simp] theorem State.recoverLink_ct (s : State) (n : Nat) : (s.recoverLink n).ct = s.ct := by
  unfold State.recoverLink; split <;> simp
@[simp] theorem State.recoverLink_pu_counts (s : State) (n : Nat) : (s.recoverLink n).pu.counts = s.pu.counts := by
  unfold State.recoverLink; split <;> simp
@[simp] theorem State.recoverLink_pu_permitWindow (s : State) (n : Nat) : (s.recoverLink n).pu.permitWindow = s.pu.permitWindow := by
  unfold State.recoverLink; split <;> simp
@[simp] theorem State.recoverLink_pu_deadline (s : State) (n : Nat) : (s.recoverLink n).pu.deadline = s.pu.deadline := by
  unfold State.recoverLink; split <;> simp
@[simp] theorem State.recoverLink_pu_snapshot (s : State) (n : Nat) : (s.recoverLink n).pu.snapshot = s.pu.snapshot := by
  unfold State.recoverLink; split <;> simp
@[simp] theorem State.recoverLink_pu_evidence (s : State) (n : Nat) : (s.recoverLink n).pu.evidence = s.pu.evidence := by
  unfold State.recoverLink; split <;> simp
@[simp] theorem State.recoverLink_tu (s : State) (n : Nat) : (s.recoverLink n).tu = s.tu := by
  unfold State.recoverLink; split <;> simp
@[simp] theorem State.recoverLink_cc (s : State) (n : Nat) : (s.recoverLink n).cc = s.cc := by
  unfold State.recoverLink; split <;> simp
@[simp] theorem State.recoverLink_pq (s : State) (n : Nat) : (s.recoverLink n).pq = s.pq := by
  unfold State.recoverLink; split <;> simp
@[simp] theorem State.recoverLink_oe (s : State) (n : Nat) : (s.recoverLink n).oe = s.oe := by
  unfold State.recoverLink; split <;> simp
@[simp] theorem State.recoverLink_nfu_enables (s : State) (n : Nat) : (s.recoverLink n).nfu.enables = s.nfu.enables := by
  unfold State.recoverLink; split <;> simp
@[simp] theorem State.recoverLink_nfu_status (s : State) (n : Nat) : (s.recoverLink n).nfu.status = s.nfu.status := by
  unfold State.recoverLink; split <;> simp
@[simp] theorem State.recoverLink_nfu_masks (s : State) (n : Nat) : (s.recoverLink n).nfu.masks = s.nfu.masks := by
  unfold State.recoverLink; split <;> simp
@[simp] theorem State.recoverLink_nfu_severe (s : State) (n : Nat) : (s.recoverLink n).nfu.severe = s.nfu.severe := by
  unfold State.recoverLink; split <;> simp
@[simp] theorem State.recoverLink_nfu_first (s : State) (n : Nat) : (s.recoverLink n).nfu.first = s.nfu.first := by
  unfold State.recoverLink; split <;> simp
@[simp] theorem State.recoverLink_nfu_refusalRecord (s : State) (n : Nat) : (s.recoverLink n).nfu.refusalRecord = s.nfu.refusalRecord := by
  unfold State.recoverLink; split <;> simp
@[simp] theorem State.recoverLink_nfu_refusalNotice (s : State) (n : Nat) : (s.recoverLink n).nfu.refusalNotice = s.nfu.refusalNotice := by
  unfold State.recoverLink; split <;> simp
@[simp] theorem State.recoverLink_sck (s : State) (n : Nat) : (s.recoverLink n).sck = s.sck := by
  unfold State.recoverLink; split <;> simp
@[simp] theorem State.wake_pending (s : State) (g : Nat) : (s.wake g).pending = s.pending := by
  unfold State.wake; split <;> simp
@[simp] theorem State.wake_tagCount (s : State) (g : Nat) : (s.wake g).tagCount = s.tagCount := by
  unfold State.wake; split <;> simp
@[simp] theorem State.wake_pp (s : State) (g : Nat) : (s.wake g).pp = s.pp := by
  unfold State.wake; split <;> simp
@[simp] theorem State.wake_pt (s : State) (g : Nat) : (s.wake g).pt = s.pt := by
  unfold State.wake; split <;> simp
@[simp] theorem State.wake_ci (s : State) (g : Nat) : (s.wake g).ci = s.ci := by
  unfold State.wake; split <;> simp
@[simp] theorem State.wake_ct (s : State) (g : Nat) : (s.wake g).ct = s.ct := by
  unfold State.wake; split <;> simp
@[simp] theorem State.wake_pu (s : State) (g : Nat) : (s.wake g).pu = s.pu := by
  unfold State.wake; split <;> simp
@[simp] theorem State.wake_tu (s : State) (g : Nat) : (s.wake g).tu = s.tu := by
  unfold State.wake; split <;> simp
@[simp] theorem State.wake_cc (s : State) (g : Nat) : (s.wake g).cc = s.cc := by
  unfold State.wake; split <;> simp
@[simp] theorem State.wake_pq (s : State) (g : Nat) : (s.wake g).pq = s.pq := by
  unfold State.wake; split <;> simp
@[simp] theorem State.wake_oe (s : State) (g : Nat) : (s.wake g).oe = s.oe := by
  unfold State.wake; split <;> simp
@[simp] theorem State.wake_nfu_enables (s : State) (g : Nat) : (s.wake g).nfu.enables = s.nfu.enables := by
  unfold State.wake; split <;> simp
@[simp] theorem State.wake_nfu_status (s : State) (g : Nat) : (s.wake g).nfu.status = s.nfu.status := by
  unfold State.wake; split <;> simp
@[simp] theorem State.wake_nfu_masks (s : State) (g : Nat) : (s.wake g).nfu.masks = s.nfu.masks := by
  unfold State.wake; split <;> simp
@[simp] theorem State.wake_nfu_severe (s : State) (g : Nat) : (s.wake g).nfu.severe = s.nfu.severe := by
  unfold State.wake; split <;> simp
@[simp] theorem State.wake_nfu_first (s : State) (g : Nat) : (s.wake g).nfu.first = s.nfu.first := by
  unfold State.wake; split <;> simp
@[simp] theorem State.wake_nfu_refusalRecord (s : State) (g : Nat) : (s.wake g).nfu.refusalRecord = s.nfu.refusalRecord := by
  unfold State.wake; split <;> simp
@[simp] theorem State.wake_nfu_refusalNotice (s : State) (g : Nat) : (s.wake g).nfu.refusalNotice = s.nfu.refusalNotice := by
  unfold State.wake; split <;> simp
@[simp] theorem State.wake_sck (s : State) (g : Nat) : (s.wake g).sck = s.sck := by
  unfold State.wake; split <;> simp
@[simp] theorem State.enterUp_pending (s : State) (n : Nat) : (s.enterUp n).pending = s.pending := by
  unfold State.enterUp; dsimp only; split <;> simp
@[simp] theorem State.enterUp_tagCount (s : State) (n : Nat) : (s.enterUp n).tagCount = s.tagCount := by
  unfold State.enterUp; dsimp only; split <;> simp
@[simp] theorem State.enterUp_pp (s : State) (n : Nat) : (s.enterUp n).pp = s.pp := by
  unfold State.enterUp; dsimp only; split <;> simp
@[simp] theorem State.enterUp_pt (s : State) (n : Nat) : (s.enterUp n).pt = s.pt := by
  unfold State.enterUp; dsimp only; split <;> simp
@[simp] theorem State.enterUp_ci (s : State) (n : Nat) : (s.enterUp n).ci = s.ci := by
  unfold State.enterUp; dsimp only; split <;> simp
@[simp] theorem State.enterUp_ct (s : State) (n : Nat) : (s.enterUp n).ct = s.ct := by
  unfold State.enterUp; dsimp only; split <;> simp
@[simp] theorem State.enterUp_pu (s : State) (n : Nat) : (s.enterUp n).pu = s.pu := by
  unfold State.enterUp; dsimp only; split <;> simp
@[simp] theorem State.enterUp_tu (s : State) (n : Nat) : (s.enterUp n).tu = s.tu := by
  unfold State.enterUp; dsimp only; split <;> simp
@[simp] theorem State.enterUp_cc (s : State) (n : Nat) : (s.enterUp n).cc = s.cc := by
  unfold State.enterUp; dsimp only; split <;> simp
@[simp] theorem State.enterUp_pq (s : State) (n : Nat) : (s.enterUp n).pq = s.pq := by
  unfold State.enterUp; dsimp only; split <;> simp
@[simp] theorem State.enterUp_oe (s : State) (n : Nat) : (s.enterUp n).oe = s.oe := by
  unfold State.enterUp; dsimp only; split <;> simp
@[simp] theorem State.enterUp_nfu_enables (s : State) (n : Nat) : (s.enterUp n).nfu.enables = s.nfu.enables := by
  unfold State.enterUp; dsimp only; split <;> simp
@[simp] theorem State.enterUp_nfu_status (s : State) (n : Nat) : (s.enterUp n).nfu.status = s.nfu.status := by
  unfold State.enterUp; dsimp only; split <;> simp
@[simp] theorem State.enterUp_nfu_masks (s : State) (n : Nat) : (s.enterUp n).nfu.masks = s.nfu.masks := by
  unfold State.enterUp; dsimp only; split <;> simp
@[simp] theorem State.enterUp_nfu_severe (s : State) (n : Nat) : (s.enterUp n).nfu.severe = s.nfu.severe := by
  unfold State.enterUp; dsimp only; split <;> simp
@[simp] theorem State.enterUp_nfu_first (s : State) (n : Nat) : (s.enterUp n).nfu.first = s.nfu.first := by
  unfold State.enterUp; dsimp only; split <;> simp
@[simp] theorem State.enterUp_nfu_refusalRecord (s : State) (n : Nat) : (s.enterUp n).nfu.refusalRecord = s.nfu.refusalRecord := by
  unfold State.enterUp; dsimp only; split <;> simp
@[simp] theorem State.enterUp_nfu_refusalNotice (s : State) (n : Nat) : (s.enterUp n).nfu.refusalNotice = s.nfu.refusalNotice := by
  unfold State.enterUp; dsimp only; split <;> simp
@[simp] theorem State.enterUp_sck (s : State) (n : Nat) : (s.enterUp n).sck = s.sck := by
  unfold State.enterUp; dsimp only; split <;> simp
@[simp] theorem State.recordFault_pending (s : State) (r : FaultRecord) : (s.recordFault r).pending = s.pending := by
  unfold State.recordFault; dsimp only; split <;> split <;> simp
@[simp] theorem State.recordFault_tagCount (s : State) (r : FaultRecord) : (s.recordFault r).tagCount = s.tagCount := by
  unfold State.recordFault; dsimp only; split <;> split <;> simp
@[simp] theorem State.recordFault_pp (s : State) (r : FaultRecord) : (s.recordFault r).pp = s.pp := by
  unfold State.recordFault; dsimp only; split <;> split <;> simp
@[simp] theorem State.recordFault_ci (s : State) (r : FaultRecord) : (s.recordFault r).ci = s.ci := by
  unfold State.recordFault; dsimp only; split <;> split <;> simp
@[simp] theorem State.recordFault_ct (s : State) (r : FaultRecord) : (s.recordFault r).ct = s.ct := by
  unfold State.recordFault; dsimp only; split <;> split <;> simp
@[simp] theorem State.recordFault_pu_counts (s : State) (r : FaultRecord) : (s.recordFault r).pu.counts = s.pu.counts := by
  unfold State.recordFault; dsimp only; split <;> split <;> simp
@[simp] theorem State.recordFault_pu_permitWindow (s : State) (r : FaultRecord) : (s.recordFault r).pu.permitWindow = s.pu.permitWindow := by
  unfold State.recordFault; dsimp only; split <;> split <;> simp
@[simp] theorem State.recordFault_pu_deadline (s : State) (r : FaultRecord) : (s.recordFault r).pu.deadline = s.pu.deadline := by
  unfold State.recordFault; dsimp only; split <;> split <;> simp
@[simp] theorem State.recordFault_pu_snapshot (s : State) (r : FaultRecord) : (s.recordFault r).pu.snapshot = s.pu.snapshot := by
  unfold State.recordFault; dsimp only; split <;> split <;> simp
@[simp] theorem State.recordFault_pu_evidence (s : State) (r : FaultRecord) : (s.recordFault r).pu.evidence = s.pu.evidence := by
  unfold State.recordFault; dsimp only; split <;> split <;> simp
@[simp] theorem State.recordFault_tu (s : State) (r : FaultRecord) : (s.recordFault r).tu = s.tu := by
  unfold State.recordFault; dsimp only; split <;> split <;> simp
@[simp] theorem State.recordFault_cc (s : State) (r : FaultRecord) : (s.recordFault r).cc = s.cc := by
  unfold State.recordFault; dsimp only; split <;> split <;> simp
@[simp] theorem State.recordFault_pq (s : State) (r : FaultRecord) : (s.recordFault r).pq = s.pq := by
  unfold State.recordFault; dsimp only; split <;> split <;> simp
@[simp] theorem State.recordFault_oe (s : State) (r : FaultRecord) : (s.recordFault r).oe = s.oe := by
  unfold State.recordFault; dsimp only; split <;> split <;> simp
@[simp] theorem State.recordFault_nfu_enables (s : State) (r : FaultRecord) : (s.recordFault r).nfu.enables = s.nfu.enables := by
  unfold State.recordFault; dsimp only; split <;> split <;> simp
@[simp] theorem State.recordFault_nfu_masks (s : State) (r : FaultRecord) : (s.recordFault r).nfu.masks = s.nfu.masks := by
  unfold State.recordFault; dsimp only; split <;> split <;> simp
@[simp] theorem State.recordFault_nfu_severe (s : State) (r : FaultRecord) : (s.recordFault r).nfu.severe = s.nfu.severe := by
  unfold State.recordFault; dsimp only; split <;> split <;> simp
@[simp] theorem State.recordFault_nfu_refusalRecord (s : State) (r : FaultRecord) : (s.recordFault r).nfu.refusalRecord = s.nfu.refusalRecord := by
  unfold State.recordFault; dsimp only; split <;> split <;> simp
@[simp] theorem State.recordFault_nfu_refusalNotice (s : State) (r : FaultRecord) : (s.recordFault r).nfu.refusalNotice = s.nfu.refusalNotice := by
  unfold State.recordFault; dsimp only; split <;> split <;> simp
@[simp] theorem State.recordFault_sck (s : State) (r : FaultRecord) : (s.recordFault r).sck = s.sck := by
  unfold State.recordFault; dsimp only; split <;> split <;> simp
@[simp] theorem State.stationArrives_pending (s : State) (n : Nat) (kind : Byte) : (s.stationArrives n kind).pending = s.pending := by
  unfold State.stationArrives; dsimp only; split <;> (try split) <;> simp
@[simp] theorem State.stationArrives_tagCount (s : State) (n : Nat) (kind : Byte) : (s.stationArrives n kind).tagCount = s.tagCount := by
  unfold State.stationArrives; dsimp only; split <;> (try split) <;> simp
@[simp] theorem State.stationArrives_pp (s : State) (n : Nat) (kind : Byte) : (s.stationArrives n kind).pp = s.pp := by
  unfold State.stationArrives; dsimp only; split <;> (try split) <;> simp
@[simp] theorem State.stationArrives_pt (s : State) (n : Nat) (kind : Byte) : (s.stationArrives n kind).pt = s.pt := by
  unfold State.stationArrives; dsimp only; split <;> (try split) <;> simp
@[simp] theorem State.stationArrives_ci (s : State) (n : Nat) (kind : Byte) : (s.stationArrives n kind).ci = s.ci := by
  unfold State.stationArrives; dsimp only; split <;> (try split) <;> simp
@[simp] theorem State.stationArrives_ct (s : State) (n : Nat) (kind : Byte) : (s.stationArrives n kind).ct = s.ct := by
  unfold State.stationArrives; dsimp only; split <;> (try split) <;> simp
@[simp] theorem State.stationArrives_pu (s : State) (n : Nat) (kind : Byte) : (s.stationArrives n kind).pu = s.pu := by
  unfold State.stationArrives; dsimp only; split <;> (try split) <;> simp
@[simp] theorem State.stationArrives_tu (s : State) (n : Nat) (kind : Byte) : (s.stationArrives n kind).tu = s.tu := by
  unfold State.stationArrives; dsimp only; split <;> (try split) <;> simp
@[simp] theorem State.stationArrives_cc (s : State) (n : Nat) (kind : Byte) : (s.stationArrives n kind).cc = s.cc := by
  unfold State.stationArrives; dsimp only; split <;> (try split) <;> simp
@[simp] theorem State.stationArrives_pq (s : State) (n : Nat) (kind : Byte) : (s.stationArrives n kind).pq = s.pq := by
  unfold State.stationArrives; dsimp only; split <;> (try split) <;> simp
@[simp] theorem State.stationArrives_oe (s : State) (n : Nat) (kind : Byte) : (s.stationArrives n kind).oe = s.oe := by
  unfold State.stationArrives; dsimp only; split <;> (try split) <;> simp
@[simp] theorem State.stationArrives_nfu_enables (s : State) (n : Nat) (kind : Byte) : (s.stationArrives n kind).nfu.enables = s.nfu.enables := by
  unfold State.stationArrives; dsimp only; split <;> (try split) <;> simp
@[simp] theorem State.stationArrives_nfu_status (s : State) (n : Nat) (kind : Byte) : (s.stationArrives n kind).nfu.status = s.nfu.status := by
  unfold State.stationArrives; dsimp only; split <;> (try split) <;> simp
@[simp] theorem State.stationArrives_nfu_masks (s : State) (n : Nat) (kind : Byte) : (s.stationArrives n kind).nfu.masks = s.nfu.masks := by
  unfold State.stationArrives; dsimp only; split <;> (try split) <;> simp
@[simp] theorem State.stationArrives_nfu_severe (s : State) (n : Nat) (kind : Byte) : (s.stationArrives n kind).nfu.severe = s.nfu.severe := by
  unfold State.stationArrives; dsimp only; split <;> (try split) <;> simp
@[simp] theorem State.stationArrives_nfu_first (s : State) (n : Nat) (kind : Byte) : (s.stationArrives n kind).nfu.first = s.nfu.first := by
  unfold State.stationArrives; dsimp only; split <;> (try split) <;> simp
@[simp] theorem State.stationArrives_nfu_refusalRecord (s : State) (n : Nat) (kind : Byte) : (s.stationArrives n kind).nfu.refusalRecord = s.nfu.refusalRecord := by
  unfold State.stationArrives; dsimp only; split <;> (try split) <;> simp
@[simp] theorem State.stationArrives_nfu_refusalNotice (s : State) (n : Nat) (kind : Byte) : (s.stationArrives n kind).nfu.refusalNotice = s.nfu.refusalNotice := by
  unfold State.stationArrives; dsimp only; split <;> (try split) <;> simp
@[simp] theorem State.stationArrives_sck (s : State) (n : Nat) (kind : Byte) : (s.stationArrives n kind).sck = s.sck := by
  unfold State.stationArrives; dsimp only; split <;> (try split) <;> simp
@[simp] theorem State.handPush_pending (s : State) (g st : Nat) : (s.handPush g st).pending = s.pending := by
  unfold State.handPush; dsimp only; split <;> simp
@[simp] theorem State.handPush_tagCount (s : State) (g st : Nat) : (s.handPush g st).tagCount = s.tagCount := by
  unfold State.handPush; dsimp only; split <;> simp
@[simp] theorem State.handPush_pp (s : State) (g st : Nat) : (s.handPush g st).pp = s.pp := by
  unfold State.handPush; dsimp only; split <;> simp
@[simp] theorem State.handPush_pt (s : State) (g st : Nat) : (s.handPush g st).pt = s.pt := by
  unfold State.handPush; dsimp only; split <;> simp
@[simp] theorem State.handPush_ci (s : State) (g st : Nat) : (s.handPush g st).ci = s.ci := by
  unfold State.handPush; dsimp only; split <;> simp
@[simp] theorem State.handPush_ct (s : State) (g st : Nat) : (s.handPush g st).ct = s.ct := by
  unfold State.handPush; dsimp only; split <;> simp
@[simp] theorem State.handPush_pu (s : State) (g st : Nat) : (s.handPush g st).pu = s.pu := by
  unfold State.handPush; dsimp only; split <;> simp
@[simp] theorem State.handPush_tu (s : State) (g st : Nat) : (s.handPush g st).tu = s.tu := by
  unfold State.handPush; dsimp only; split <;> simp
@[simp] theorem State.handPush_cc (s : State) (g st : Nat) : (s.handPush g st).cc = s.cc := by
  unfold State.handPush; dsimp only; split <;> simp
@[simp] theorem State.handPush_pq (s : State) (g st : Nat) : (s.handPush g st).pq = s.pq := by
  unfold State.handPush; dsimp only; split <;> simp
@[simp] theorem State.handPush_oe (s : State) (g st : Nat) : (s.handPush g st).oe = s.oe := by
  unfold State.handPush; dsimp only; split <;> simp
@[simp] theorem State.handPush_nfu_enables (s : State) (g st : Nat) : (s.handPush g st).nfu.enables = s.nfu.enables := by
  unfold State.handPush; dsimp only; split <;> simp
@[simp] theorem State.handPush_nfu_status (s : State) (g st : Nat) : (s.handPush g st).nfu.status = s.nfu.status := by
  unfold State.handPush; dsimp only; split <;> simp
@[simp] theorem State.handPush_nfu_masks (s : State) (g st : Nat) : (s.handPush g st).nfu.masks = s.nfu.masks := by
  unfold State.handPush; dsimp only; split <;> simp
@[simp] theorem State.handPush_nfu_severe (s : State) (g st : Nat) : (s.handPush g st).nfu.severe = s.nfu.severe := by
  unfold State.handPush; dsimp only; split <;> simp
@[simp] theorem State.handPush_nfu_first (s : State) (g st : Nat) : (s.handPush g st).nfu.first = s.nfu.first := by
  unfold State.handPush; dsimp only; split <;> simp
@[simp] theorem State.handPush_nfu_refusalRecord (s : State) (g st : Nat) : (s.handPush g st).nfu.refusalRecord = s.nfu.refusalRecord := by
  unfold State.handPush; dsimp only; split <;> simp
@[simp] theorem State.handPush_nfu_refusalNotice (s : State) (g st : Nat) : (s.handPush g st).nfu.refusalNotice = s.nfu.refusalNotice := by
  unfold State.handPush; dsimp only; split <;> simp
@[simp] theorem State.handPush_sck (s : State) (g st : Nat) : (s.handPush g st).sck = s.sck := by
  unfold State.handPush; dsimp only; split <;> simp
@[simp] theorem State.markBelow_pending (s : State) (occupants : List Nat) (gen : Nat) : (s.markBelow occupants gen).pending = s.pending := by
  unfold State.markBelow; refine @State.foldl_keeps Nat _ (fun s => s.pending) _ ?_ _ _; intro s p; (repeat' first | split | dsimp only); simp
@[simp] theorem State.markBelow_tagCount (s : State) (occupants : List Nat) (gen : Nat) : (s.markBelow occupants gen).tagCount = s.tagCount := by
  unfold State.markBelow; refine @State.foldl_keeps Nat _ (fun s => s.tagCount) _ ?_ _ _; intro s p; (repeat' first | split | dsimp only); simp
@[simp] theorem State.markBelow_pp (s : State) (occupants : List Nat) (gen : Nat) : (s.markBelow occupants gen).pp = s.pp := by
  unfold State.markBelow; refine @State.foldl_keeps Nat _ (fun s => s.pp) _ ?_ _ _; intro s p; (repeat' first | split | dsimp only); simp
@[simp] theorem State.markBelow_lk (s : State) (occupants : List Nat) (gen : Nat) : (s.markBelow occupants gen).lk = s.lk := by
  unfold State.markBelow; refine @State.foldl_keeps Nat _ (fun s => s.lk) _ ?_ _ _; intro s p; (repeat' first | split | dsimp only); simp
@[simp] theorem State.markBelow_ci (s : State) (occupants : List Nat) (gen : Nat) : (s.markBelow occupants gen).ci = s.ci := by
  unfold State.markBelow; refine @State.foldl_keeps Nat _ (fun s => s.ci) _ ?_ _ _; intro s p; (repeat' first | split | dsimp only); simp
@[simp] theorem State.markBelow_ct (s : State) (occupants : List Nat) (gen : Nat) : (s.markBelow occupants gen).ct = s.ct := by
  unfold State.markBelow; refine @State.foldl_keeps Nat _ (fun s => s.ct) _ ?_ _ _; intro s p; (repeat' first | split | dsimp only); simp
@[simp] theorem State.markBelow_pu (s : State) (occupants : List Nat) (gen : Nat) : (s.markBelow occupants gen).pu = s.pu := by
  unfold State.markBelow; refine @State.foldl_keeps Nat _ (fun s => s.pu) _ ?_ _ _; intro s p; (repeat' first | split | dsimp only); simp
@[simp] theorem State.markBelow_sc (s : State) (occupants : List Nat) (gen : Nat) : (s.markBelow occupants gen).sc = s.sc := by
  unfold State.markBelow; refine @State.foldl_keeps Nat _ (fun s => s.sc) _ ?_ _ _; intro s p; (repeat' first | split | dsimp only); simp
@[simp] theorem State.markBelow_tu (s : State) (occupants : List Nat) (gen : Nat) : (s.markBelow occupants gen).tu = s.tu := by
  unfold State.markBelow; refine @State.foldl_keeps Nat _ (fun s => s.tu) _ ?_ _ _; intro s p; (repeat' first | split | dsimp only); simp
@[simp] theorem State.markBelow_cc (s : State) (occupants : List Nat) (gen : Nat) : (s.markBelow occupants gen).cc = s.cc := by
  unfold State.markBelow; refine @State.foldl_keeps Nat _ (fun s => s.cc) _ ?_ _ _; intro s p; (repeat' first | split | dsimp only); simp
@[simp] theorem State.markBelow_pq (s : State) (occupants : List Nat) (gen : Nat) : (s.markBelow occupants gen).pq = s.pq := by
  unfold State.markBelow; refine @State.foldl_keeps Nat _ (fun s => s.pq) _ ?_ _ _; intro s p; (repeat' first | split | dsimp only); simp
@[simp] theorem State.markBelow_oe (s : State) (occupants : List Nat) (gen : Nat) : (s.markBelow occupants gen).oe = s.oe := by
  unfold State.markBelow; refine @State.foldl_keeps Nat _ (fun s => s.oe) _ ?_ _ _; intro s p; (repeat' first | split | dsimp only); simp
@[simp] theorem State.markBelow_nfu (s : State) (occupants : List Nat) (gen : Nat) : (s.markBelow occupants gen).nfu = s.nfu := by
  unfold State.markBelow; refine @State.foldl_keeps Nat _ (fun s => s.nfu) _ ?_ _ _; intro s p; (repeat' first | split | dsimp only); simp
@[simp] theorem State.markBelow_sck (s : State) (occupants : List Nat) (gen : Nat) : (s.markBelow occupants gen).sck = s.sck := by
  unfold State.markBelow; refine @State.foldl_keeps Nat _ (fun s => s.sck) _ ?_ _ _; intro s p; (repeat' first | split | dsimp only); simp
@[simp] theorem State.rekey_pending (s : State) (c : Nat) : (s.rekey c).pending = s.pending := by
  unfold State.rekey; dsimp only; split <;> (try split) <;> simp
@[simp] theorem State.rekey_tagCount (s : State) (c : Nat) : (s.rekey c).tagCount = s.tagCount := by
  unfold State.rekey; dsimp only; split <;> (try split) <;> simp
@[simp] theorem State.rekey_pp (s : State) (c : Nat) : (s.rekey c).pp = s.pp := by
  unfold State.rekey; dsimp only; split <;> (try split) <;> simp
@[simp] theorem State.rekey_ci (s : State) (c : Nat) : (s.rekey c).ci = s.ci := by
  unfold State.rekey; dsimp only; split <;> (try split) <;> simp
@[simp] theorem State.rekey_pu (s : State) (c : Nat) : (s.rekey c).pu = s.pu := by
  unfold State.rekey; dsimp only; split <;> (try split) <;> simp
@[simp] theorem State.rekey_tu (s : State) (c : Nat) : (s.rekey c).tu = s.tu := by
  unfold State.rekey; dsimp only; split <;> (try split) <;> simp
@[simp] theorem State.rekey_cc (s : State) (c : Nat) : (s.rekey c).cc = s.cc := by
  unfold State.rekey; dsimp only; split <;> (try split) <;> simp
@[simp] theorem State.rekey_pq (s : State) (c : Nat) : (s.rekey c).pq = s.pq := by
  unfold State.rekey; dsimp only; split <;> (try split) <;> simp
@[simp] theorem State.rekey_oe (s : State) (c : Nat) : (s.rekey c).oe = s.oe := by
  unfold State.rekey; dsimp only; split <;> (try split) <;> simp
@[simp] theorem State.rekey_nfu_enables (s : State) (c : Nat) : (s.rekey c).nfu.enables = s.nfu.enables := by
  unfold State.rekey; dsimp only; split <;> (try split) <;> simp
@[simp] theorem State.rekey_nfu_status (s : State) (c : Nat) : (s.rekey c).nfu.status = s.nfu.status := by
  unfold State.rekey; dsimp only; split <;> (try split) <;> simp
@[simp] theorem State.rekey_nfu_masks (s : State) (c : Nat) : (s.rekey c).nfu.masks = s.nfu.masks := by
  unfold State.rekey; dsimp only; split <;> (try split) <;> simp
@[simp] theorem State.rekey_nfu_severe (s : State) (c : Nat) : (s.rekey c).nfu.severe = s.nfu.severe := by
  unfold State.rekey; dsimp only; split <;> (try split) <;> simp
@[simp] theorem State.rekey_nfu_first (s : State) (c : Nat) : (s.rekey c).nfu.first = s.nfu.first := by
  unfold State.rekey; dsimp only; split <;> (try split) <;> simp
@[simp] theorem State.rekey_nfu_refusalRecord (s : State) (c : Nat) : (s.rekey c).nfu.refusalRecord = s.nfu.refusalRecord := by
  unfold State.rekey; dsimp only; split <;> (try split) <;> simp
@[simp] theorem State.rekey_nfu_refusalNotice (s : State) (c : Nat) : (s.rekey c).nfu.refusalNotice = s.nfu.refusalNotice := by
  unfold State.rekey; dsimp only; split <;> (try split) <;> simp
@[simp] theorem State.rekey_sck (s : State) (c : Nat) : (s.rekey c).sck = s.sck := by
  unfold State.rekey; dsimp only; split <;> (try split) <;> simp
@[simp] theorem State.revokeEntry_pending (s : State) (serial : Serial) : (s.revokeEntry serial).pending = s.pending := by
  unfold State.revokeEntry; split <;> simp
@[simp] theorem State.revokeEntry_tagCount (s : State) (serial : Serial) : (s.revokeEntry serial).tagCount = s.tagCount := by
  unfold State.revokeEntry; split <;> simp
@[simp] theorem State.revokeEntry_pp (s : State) (serial : Serial) : (s.revokeEntry serial).pp = s.pp := by
  unfold State.revokeEntry; split <;> simp
@[simp] theorem State.revokeEntry_lk (s : State) (serial : Serial) : (s.revokeEntry serial).lk = s.lk := by
  unfold State.revokeEntry; split <;> simp
@[simp] theorem State.revokeEntry_ct (s : State) (serial : Serial) : (s.revokeEntry serial).ct = s.ct := by
  unfold State.revokeEntry; split <;> simp
@[simp] theorem State.revokeEntry_pu (s : State) (serial : Serial) : (s.revokeEntry serial).pu = s.pu := by
  unfold State.revokeEntry; split <;> simp
@[simp] theorem State.revokeEntry_sc (s : State) (serial : Serial) : (s.revokeEntry serial).sc = s.sc := by
  unfold State.revokeEntry; split <;> simp
@[simp] theorem State.revokeEntry_tu (s : State) (serial : Serial) : (s.revokeEntry serial).tu = s.tu := by
  unfold State.revokeEntry; split <;> simp
@[simp] theorem State.revokeEntry_cc (s : State) (serial : Serial) : (s.revokeEntry serial).cc = s.cc := by
  unfold State.revokeEntry; split <;> simp
@[simp] theorem State.revokeEntry_pq (s : State) (serial : Serial) : (s.revokeEntry serial).pq = s.pq := by
  unfold State.revokeEntry; split <;> simp
@[simp] theorem State.revokeEntry_oe (s : State) (serial : Serial) : (s.revokeEntry serial).oe = s.oe := by
  unfold State.revokeEntry; split <;> simp
@[simp] theorem State.revokeEntry_nfu (s : State) (serial : Serial) : (s.revokeEntry serial).nfu = s.nfu := by
  unfold State.revokeEntry; split <;> simp
@[simp] theorem State.revokeEntry_sck (s : State) (serial : Serial) : (s.revokeEntry serial).sck = s.sck := by
  unfold State.revokeEntry; split <;> simp
@[simp] theorem State.revokeCardOf_pending (s : State) (p : Nat) : (s.revokeCardOf p).pending = s.pending := by
  unfold State.revokeCardOf; split <;> (try split) <;> simp
@[simp] theorem State.revokeCardOf_tagCount (s : State) (p : Nat) : (s.revokeCardOf p).tagCount = s.tagCount := by
  unfold State.revokeCardOf; split <;> (try split) <;> simp
@[simp] theorem State.revokeCardOf_pp (s : State) (p : Nat) : (s.revokeCardOf p).pp = s.pp := by
  unfold State.revokeCardOf; split <;> (try split) <;> simp
@[simp] theorem State.revokeCardOf_lk (s : State) (p : Nat) : (s.revokeCardOf p).lk = s.lk := by
  unfold State.revokeCardOf; split <;> (try split) <;> simp
@[simp] theorem State.revokeCardOf_ct (s : State) (p : Nat) : (s.revokeCardOf p).ct = s.ct := by
  unfold State.revokeCardOf; split <;> (try split) <;> simp
@[simp] theorem State.revokeCardOf_pu (s : State) (p : Nat) : (s.revokeCardOf p).pu = s.pu := by
  unfold State.revokeCardOf; split <;> (try split) <;> simp
@[simp] theorem State.revokeCardOf_sc (s : State) (p : Nat) : (s.revokeCardOf p).sc = s.sc := by
  unfold State.revokeCardOf; split <;> (try split) <;> simp
@[simp] theorem State.revokeCardOf_tu (s : State) (p : Nat) : (s.revokeCardOf p).tu = s.tu := by
  unfold State.revokeCardOf; split <;> (try split) <;> simp
@[simp] theorem State.revokeCardOf_cc (s : State) (p : Nat) : (s.revokeCardOf p).cc = s.cc := by
  unfold State.revokeCardOf; split <;> (try split) <;> simp
@[simp] theorem State.revokeCardOf_pq (s : State) (p : Nat) : (s.revokeCardOf p).pq = s.pq := by
  unfold State.revokeCardOf; split <;> (try split) <;> simp
@[simp] theorem State.revokeCardOf_oe (s : State) (p : Nat) : (s.revokeCardOf p).oe = s.oe := by
  unfold State.revokeCardOf; split <;> (try split) <;> simp
@[simp] theorem State.revokeCardOf_nfu (s : State) (p : Nat) : (s.revokeCardOf p).nfu = s.nfu := by
  unfold State.revokeCardOf; split <;> (try split) <;> simp
@[simp] theorem State.revokeCardOf_sck (s : State) (p : Nat) : (s.revokeCardOf p).sck = s.sck := by
  unfold State.revokeCardOf; split <;> (try split) <;> simp
@[simp] theorem State.leaveCabin_pending (s : State) (p : Nat) : (s.leaveCabin p).pending = s.pending := by
  unfold State.leaveCabin; split <;> (try split) <;> simp
@[simp] theorem State.leaveCabin_tagCount (s : State) (p : Nat) : (s.leaveCabin p).tagCount = s.tagCount := by
  unfold State.leaveCabin; split <;> (try split) <;> simp
@[simp] theorem State.leaveCabin_pp (s : State) (p : Nat) : (s.leaveCabin p).pp = s.pp := by
  unfold State.leaveCabin; split <;> (try split) <;> simp
@[simp] theorem State.leaveCabin_lk (s : State) (p : Nat) : (s.leaveCabin p).lk = s.lk := by
  unfold State.leaveCabin; split <;> (try split) <;> simp
@[simp] theorem State.leaveCabin_ci (s : State) (p : Nat) : (s.leaveCabin p).ci = s.ci := by
  unfold State.leaveCabin; split <;> (try split) <;> simp
@[simp] theorem State.leaveCabin_pu (s : State) (p : Nat) : (s.leaveCabin p).pu = s.pu := by
  unfold State.leaveCabin; split <;> (try split) <;> simp
@[simp] theorem State.leaveCabin_sc (s : State) (p : Nat) : (s.leaveCabin p).sc = s.sc := by
  unfold State.leaveCabin; split <;> (try split) <;> simp
@[simp] theorem State.leaveCabin_tu (s : State) (p : Nat) : (s.leaveCabin p).tu = s.tu := by
  unfold State.leaveCabin; split <;> (try split) <;> simp
@[simp] theorem State.leaveCabin_cc (s : State) (p : Nat) : (s.leaveCabin p).cc = s.cc := by
  unfold State.leaveCabin; split <;> (try split) <;> simp
@[simp] theorem State.leaveCabin_pq (s : State) (p : Nat) : (s.leaveCabin p).pq = s.pq := by
  unfold State.leaveCabin; split <;> (try split) <;> simp
@[simp] theorem State.leaveCabin_oe (s : State) (p : Nat) : (s.leaveCabin p).oe = s.oe := by
  unfold State.leaveCabin; split <;> (try split) <;> simp
@[simp] theorem State.leaveCabin_nfu (s : State) (p : Nat) : (s.leaveCabin p).nfu = s.nfu := by
  unfold State.leaveCabin; split <;> (try split) <;> simp
@[simp] theorem State.leaveCabin_sck (s : State) (p : Nat) : (s.leaveCabin p).sck = s.sck := by
  unfold State.leaveCabin; split <;> (try split) <;> simp
@[simp] theorem State.rekeyIf_pending (s : State) (c : Option Nat) : (s.rekeyIf c).pending = s.pending := by
  unfold State.rekeyIf; split <;> simp
@[simp] theorem State.rekeyIf_tagCount (s : State) (c : Option Nat) : (s.rekeyIf c).tagCount = s.tagCount := by
  unfold State.rekeyIf; split <;> simp
@[simp] theorem State.rekeyIf_pp (s : State) (c : Option Nat) : (s.rekeyIf c).pp = s.pp := by
  unfold State.rekeyIf; split <;> simp
@[simp] theorem State.rekeyIf_ci (s : State) (c : Option Nat) : (s.rekeyIf c).ci = s.ci := by
  unfold State.rekeyIf; split <;> simp
@[simp] theorem State.rekeyIf_pu (s : State) (c : Option Nat) : (s.rekeyIf c).pu = s.pu := by
  unfold State.rekeyIf; split <;> simp
@[simp] theorem State.rekeyIf_tu (s : State) (c : Option Nat) : (s.rekeyIf c).tu = s.tu := by
  unfold State.rekeyIf; split <;> simp
@[simp] theorem State.rekeyIf_cc (s : State) (c : Option Nat) : (s.rekeyIf c).cc = s.cc := by
  unfold State.rekeyIf; split <;> simp
@[simp] theorem State.rekeyIf_pq (s : State) (c : Option Nat) : (s.rekeyIf c).pq = s.pq := by
  unfold State.rekeyIf; split <;> simp
@[simp] theorem State.rekeyIf_oe (s : State) (c : Option Nat) : (s.rekeyIf c).oe = s.oe := by
  unfold State.rekeyIf; split <;> simp
@[simp] theorem State.rekeyIf_nfu_enables (s : State) (c : Option Nat) : (s.rekeyIf c).nfu.enables = s.nfu.enables := by
  unfold State.rekeyIf; split <;> simp
@[simp] theorem State.rekeyIf_nfu_status (s : State) (c : Option Nat) : (s.rekeyIf c).nfu.status = s.nfu.status := by
  unfold State.rekeyIf; split <;> simp
@[simp] theorem State.rekeyIf_nfu_masks (s : State) (c : Option Nat) : (s.rekeyIf c).nfu.masks = s.nfu.masks := by
  unfold State.rekeyIf; split <;> simp
@[simp] theorem State.rekeyIf_nfu_severe (s : State) (c : Option Nat) : (s.rekeyIf c).nfu.severe = s.nfu.severe := by
  unfold State.rekeyIf; split <;> simp
@[simp] theorem State.rekeyIf_nfu_first (s : State) (c : Option Nat) : (s.rekeyIf c).nfu.first = s.nfu.first := by
  unfold State.rekeyIf; split <;> simp
@[simp] theorem State.rekeyIf_nfu_refusalRecord (s : State) (c : Option Nat) : (s.rekeyIf c).nfu.refusalRecord = s.nfu.refusalRecord := by
  unfold State.rekeyIf; split <;> simp
@[simp] theorem State.rekeyIf_nfu_refusalNotice (s : State) (c : Option Nat) : (s.rekeyIf c).nfu.refusalNotice = s.nfu.refusalNotice := by
  unfold State.rekeyIf; split <;> simp
@[simp] theorem State.rekeyIf_sck (s : State) (c : Option Nat) : (s.rekeyIf c).sck = s.sck := by
  unfold State.rekeyIf; split <;> simp
@[simp] theorem State.removeAndRevoke_pending (s : State) (p : Nat) : (s.removeAndRevoke p).pending = s.pending := by
  unfold State.removeAndRevoke; split <;> simp
@[simp] theorem State.removeAndRevoke_tagCount (s : State) (p : Nat) : (s.removeAndRevoke p).tagCount = s.tagCount := by
  unfold State.removeAndRevoke; split <;> simp
@[simp] theorem State.removeAndRevoke_pp (s : State) (p : Nat) : (s.removeAndRevoke p).pp = s.pp := by
  unfold State.removeAndRevoke; split <;> simp
@[simp] theorem State.removeAndRevoke_pu (s : State) (p : Nat) : (s.removeAndRevoke p).pu = s.pu := by
  unfold State.removeAndRevoke; split <;> simp
@[simp] theorem State.removeAndRevoke_tu (s : State) (p : Nat) : (s.removeAndRevoke p).tu = s.tu := by
  unfold State.removeAndRevoke; split <;> simp
@[simp] theorem State.removeAndRevoke_cc (s : State) (p : Nat) : (s.removeAndRevoke p).cc = s.cc := by
  unfold State.removeAndRevoke; split <;> simp
@[simp] theorem State.removeAndRevoke_pq (s : State) (p : Nat) : (s.removeAndRevoke p).pq = s.pq := by
  unfold State.removeAndRevoke; split <;> simp
@[simp] theorem State.removeAndRevoke_oe (s : State) (p : Nat) : (s.removeAndRevoke p).oe = s.oe := by
  unfold State.removeAndRevoke; split <;> simp
@[simp] theorem State.removeAndRevoke_nfu_enables (s : State) (p : Nat) : (s.removeAndRevoke p).nfu.enables = s.nfu.enables := by
  unfold State.removeAndRevoke; split <;> simp
@[simp] theorem State.removeAndRevoke_nfu_status (s : State) (p : Nat) : (s.removeAndRevoke p).nfu.status = s.nfu.status := by
  unfold State.removeAndRevoke; split <;> simp
@[simp] theorem State.removeAndRevoke_nfu_masks (s : State) (p : Nat) : (s.removeAndRevoke p).nfu.masks = s.nfu.masks := by
  unfold State.removeAndRevoke; split <;> simp
@[simp] theorem State.removeAndRevoke_nfu_severe (s : State) (p : Nat) : (s.removeAndRevoke p).nfu.severe = s.nfu.severe := by
  unfold State.removeAndRevoke; split <;> simp
@[simp] theorem State.removeAndRevoke_nfu_first (s : State) (p : Nat) : (s.removeAndRevoke p).nfu.first = s.nfu.first := by
  unfold State.removeAndRevoke; split <;> simp
@[simp] theorem State.removeAndRevoke_nfu_refusalRecord (s : State) (p : Nat) : (s.removeAndRevoke p).nfu.refusalRecord = s.nfu.refusalRecord := by
  unfold State.removeAndRevoke; split <;> simp
@[simp] theorem State.removeAndRevoke_nfu_refusalNotice (s : State) (p : Nat) : (s.removeAndRevoke p).nfu.refusalNotice = s.nfu.refusalNotice := by
  unfold State.removeAndRevoke; split <;> simp
@[simp] theorem State.removeAndRevoke_sck (s : State) (p : Nat) : (s.removeAndRevoke p).sck = s.sck := by
  unfold State.removeAndRevoke; split <;> simp
@[simp] theorem State.roll_pending (s : State) (p : Nat) : (s.roll p).pending = s.pending := by
  unfold State.roll; (repeat' first | split | dsimp only) <;> simp
@[simp] theorem State.roll_tagCount (s : State) (p : Nat) : (s.roll p).tagCount = s.tagCount := by
  unfold State.roll; (repeat' first | split | dsimp only) <;> simp
@[simp] theorem State.roll_pp (s : State) (p : Nat) : (s.roll p).pp = s.pp := by
  unfold State.roll; (repeat' first | split | dsimp only) <;> simp
@[simp] theorem State.roll_lk (s : State) (p : Nat) : (s.roll p).lk = s.lk := by
  unfold State.roll; (repeat' first | split | dsimp only) <;> simp
@[simp] theorem State.roll_ci (s : State) (p : Nat) : (s.roll p).ci = s.ci := by
  unfold State.roll; (repeat' first | split | dsimp only) <;> simp
@[simp] theorem State.roll_ct (s : State) (p : Nat) : (s.roll p).ct = s.ct := by
  unfold State.roll; (repeat' first | split | dsimp only) <;> simp
@[simp] theorem State.roll_pu (s : State) (p : Nat) : (s.roll p).pu = s.pu := by
  unfold State.roll; (repeat' first | split | dsimp only) <;> simp
@[simp] theorem State.roll_sc (s : State) (p : Nat) : (s.roll p).sc = s.sc := by
  unfold State.roll; (repeat' first | split | dsimp only) <;> simp
@[simp] theorem State.roll_tu (s : State) (p : Nat) : (s.roll p).tu = s.tu := by
  unfold State.roll; (repeat' first | split | dsimp only) <;> simp
@[simp] theorem State.roll_cc (s : State) (p : Nat) : (s.roll p).cc = s.cc := by
  unfold State.roll; (repeat' first | split | dsimp only) <;> simp
@[simp] theorem State.roll_pq_unposted (s : State) (p : Nat) : (s.roll p).pq.unposted = s.pq.unposted := by
  unfold State.roll; (repeat' first | split | dsimp only) <;> simp
@[simp] theorem State.roll_oe (s : State) (p : Nat) : (s.roll p).oe = s.oe := by
  unfold State.roll; (repeat' first | split | dsimp only) <;> simp
@[simp] theorem State.roll_nfu_enables (s : State) (p : Nat) : (s.roll p).nfu.enables = s.nfu.enables := by
  unfold State.roll; (repeat' first | split | dsimp only) <;> simp
@[simp] theorem State.roll_nfu_status (s : State) (p : Nat) : (s.roll p).nfu.status = s.nfu.status := by
  unfold State.roll; (repeat' first | split | dsimp only) <;> simp
@[simp] theorem State.roll_nfu_masks (s : State) (p : Nat) : (s.roll p).nfu.masks = s.nfu.masks := by
  unfold State.roll; (repeat' first | split | dsimp only) <;> simp
@[simp] theorem State.roll_nfu_severe (s : State) (p : Nat) : (s.roll p).nfu.severe = s.nfu.severe := by
  unfold State.roll; (repeat' first | split | dsimp only) <;> simp
@[simp] theorem State.roll_nfu_first (s : State) (p : Nat) : (s.roll p).nfu.first = s.nfu.first := by
  unfold State.roll; (repeat' first | split | dsimp only) <;> simp
@[simp] theorem State.roll_nfu_refusalRecord (s : State) (p : Nat) : (s.roll p).nfu.refusalRecord = s.nfu.refusalRecord := by
  unfold State.roll; (repeat' first | split | dsimp only) <;> simp
@[simp] theorem State.roll_nfu_refusalNotice (s : State) (p : Nat) : (s.roll p).nfu.refusalNotice = s.nfu.refusalNotice := by
  unfold State.roll; (repeat' first | split | dsimp only) <;> simp
@[simp] theorem State.roll_sck (s : State) (p : Nat) : (s.roll p).sck = s.sck := by
  unfold State.roll; (repeat' first | split | dsimp only) <;> simp
@[simp] theorem State.releaseSegment_pending (s : State) (g : Nat) : (s.releaseSegment g).pending = s.pending := by
  simp [State.releaseSegment]
@[simp] theorem State.releaseSegment_tagCount (s : State) (g : Nat) : (s.releaseSegment g).tagCount = s.tagCount := by
  simp [State.releaseSegment]
@[simp] theorem State.releaseSegment_pp (s : State) (g : Nat) : (s.releaseSegment g).pp = s.pp := by
  simp [State.releaseSegment]
@[simp] theorem State.releaseSegment_pt (s : State) (g : Nat) : (s.releaseSegment g).pt = s.pt := by
  simp [State.releaseSegment]
@[simp] theorem State.releaseSegment_ci (s : State) (g : Nat) : (s.releaseSegment g).ci = s.ci := by
  simp [State.releaseSegment]
@[simp] theorem State.releaseSegment_ct (s : State) (g : Nat) : (s.releaseSegment g).ct = s.ct := by
  simp [State.releaseSegment]
@[simp] theorem State.releaseSegment_pu (s : State) (g : Nat) : (s.releaseSegment g).pu = s.pu := by
  simp [State.releaseSegment]
@[simp] theorem State.releaseSegment_tu (s : State) (g : Nat) : (s.releaseSegment g).tu = s.tu := by
  simp [State.releaseSegment]
@[simp] theorem State.releaseSegment_cc (s : State) (g : Nat) : (s.releaseSegment g).cc = s.cc := by
  simp [State.releaseSegment]
@[simp] theorem State.releaseSegment_pq (s : State) (g : Nat) : (s.releaseSegment g).pq = s.pq := by
  simp [State.releaseSegment]
@[simp] theorem State.releaseSegment_oe (s : State) (g : Nat) : (s.releaseSegment g).oe = s.oe := by
  simp [State.releaseSegment]
@[simp] theorem State.releaseSegment_nfu_enables (s : State) (g : Nat) : (s.releaseSegment g).nfu.enables = s.nfu.enables := by
  simp [State.releaseSegment]
@[simp] theorem State.releaseSegment_nfu_status (s : State) (g : Nat) : (s.releaseSegment g).nfu.status = s.nfu.status := by
  simp [State.releaseSegment]
@[simp] theorem State.releaseSegment_nfu_masks (s : State) (g : Nat) : (s.releaseSegment g).nfu.masks = s.nfu.masks := by
  simp [State.releaseSegment]
@[simp] theorem State.releaseSegment_nfu_severe (s : State) (g : Nat) : (s.releaseSegment g).nfu.severe = s.nfu.severe := by
  simp [State.releaseSegment]
@[simp] theorem State.releaseSegment_nfu_first (s : State) (g : Nat) : (s.releaseSegment g).nfu.first = s.nfu.first := by
  simp [State.releaseSegment]
@[simp] theorem State.releaseSegment_nfu_refusalRecord (s : State) (g : Nat) : (s.releaseSegment g).nfu.refusalRecord = s.nfu.refusalRecord := by
  simp [State.releaseSegment]
@[simp] theorem State.releaseSegment_nfu_refusalNotice (s : State) (g : Nat) : (s.releaseSegment g).nfu.refusalNotice = s.nfu.refusalNotice := by
  simp [State.releaseSegment]
@[simp] theorem State.releaseSegment_sck (s : State) (g : Nat) : (s.releaseSegment g).sck = s.sck := by
  simp [State.releaseSegment]
@[simp] theorem State.restoreSegment_pending (s : State) (g : Nat) : (s.restoreSegment g).pending = s.pending := by
  simp [State.restoreSegment]
@[simp] theorem State.restoreSegment_tagCount (s : State) (g : Nat) : (s.restoreSegment g).tagCount = s.tagCount := by
  simp [State.restoreSegment]
@[simp] theorem State.restoreSegment_pp (s : State) (g : Nat) : (s.restoreSegment g).pp = s.pp := by
  simp [State.restoreSegment]
@[simp] theorem State.restoreSegment_pt (s : State) (g : Nat) : (s.restoreSegment g).pt = s.pt := by
  simp [State.restoreSegment]
@[simp] theorem State.restoreSegment_ci (s : State) (g : Nat) : (s.restoreSegment g).ci = s.ci := by
  simp [State.restoreSegment]
@[simp] theorem State.restoreSegment_ct (s : State) (g : Nat) : (s.restoreSegment g).ct = s.ct := by
  simp [State.restoreSegment]
@[simp] theorem State.restoreSegment_pu (s : State) (g : Nat) : (s.restoreSegment g).pu = s.pu := by
  simp [State.restoreSegment]
@[simp] theorem State.restoreSegment_tu (s : State) (g : Nat) : (s.restoreSegment g).tu = s.tu := by
  simp [State.restoreSegment]
@[simp] theorem State.restoreSegment_cc (s : State) (g : Nat) : (s.restoreSegment g).cc = s.cc := by
  simp [State.restoreSegment]
@[simp] theorem State.restoreSegment_pq (s : State) (g : Nat) : (s.restoreSegment g).pq = s.pq := by
  simp [State.restoreSegment]
@[simp] theorem State.restoreSegment_oe (s : State) (g : Nat) : (s.restoreSegment g).oe = s.oe := by
  simp [State.restoreSegment]
@[simp] theorem State.restoreSegment_nfu_enables (s : State) (g : Nat) : (s.restoreSegment g).nfu.enables = s.nfu.enables := by
  simp [State.restoreSegment]
@[simp] theorem State.restoreSegment_nfu_status (s : State) (g : Nat) : (s.restoreSegment g).nfu.status = s.nfu.status := by
  simp [State.restoreSegment]
@[simp] theorem State.restoreSegment_nfu_masks (s : State) (g : Nat) : (s.restoreSegment g).nfu.masks = s.nfu.masks := by
  simp [State.restoreSegment]
@[simp] theorem State.restoreSegment_nfu_severe (s : State) (g : Nat) : (s.restoreSegment g).nfu.severe = s.nfu.severe := by
  simp [State.restoreSegment]
@[simp] theorem State.restoreSegment_nfu_first (s : State) (g : Nat) : (s.restoreSegment g).nfu.first = s.nfu.first := by
  simp [State.restoreSegment]
@[simp] theorem State.restoreSegment_nfu_refusalRecord (s : State) (g : Nat) : (s.restoreSegment g).nfu.refusalRecord = s.nfu.refusalRecord := by
  simp [State.restoreSegment]
@[simp] theorem State.restoreSegment_nfu_refusalNotice (s : State) (g : Nat) : (s.restoreSegment g).nfu.refusalNotice = s.nfu.refusalNotice := by
  simp [State.restoreSegment]
@[simp] theorem State.restoreSegment_sck (s : State) (g : Nat) : (s.restoreSegment g).sck = s.sck := by
  simp [State.restoreSegment]
@[simp] theorem State.enterMuster_pending (s : State) (keepSnapshot : Bool) : (s.enterMuster keepSnapshot).pending = s.pending := by
  simp only [State.enterMuster, segmentNumbers, List.foldl]; split <;> split <;> simp
@[simp] theorem State.enterMuster_tagCount (s : State) (keepSnapshot : Bool) : (s.enterMuster keepSnapshot).tagCount = s.tagCount := by
  simp only [State.enterMuster, segmentNumbers, List.foldl]; split <;> split <;> simp
@[simp] theorem State.enterMuster_pp (s : State) (keepSnapshot : Bool) : (s.enterMuster keepSnapshot).pp = s.pp := by
  simp only [State.enterMuster, segmentNumbers, List.foldl]; split <;> split <;> simp
@[simp] theorem State.enterMuster_ci (s : State) (keepSnapshot : Bool) : (s.enterMuster keepSnapshot).ci = s.ci := by
  simp only [State.enterMuster, segmentNumbers, List.foldl]; split <;> split <;> simp
@[simp] theorem State.enterMuster_ct (s : State) (keepSnapshot : Bool) : (s.enterMuster keepSnapshot).ct = s.ct := by
  simp only [State.enterMuster, segmentNumbers, List.foldl]; split <;> split <;> simp
@[simp] theorem State.enterMuster_pu_counts (s : State) (keepSnapshot : Bool) : (s.enterMuster keepSnapshot).pu.counts = s.pu.counts := by
  simp only [State.enterMuster, segmentNumbers, List.foldl]; split <;> split <;> simp
@[simp] theorem State.enterMuster_pu_permitWindow (s : State) (keepSnapshot : Bool) : (s.enterMuster keepSnapshot).pu.permitWindow = s.pu.permitWindow := by
  simp only [State.enterMuster, segmentNumbers, List.foldl]; split <;> split <;> simp
@[simp] theorem State.enterMuster_pu_deadline (s : State) (keepSnapshot : Bool) : (s.enterMuster keepSnapshot).pu.deadline = s.pu.deadline := by
  simp only [State.enterMuster, segmentNumbers, List.foldl]; split <;> split <;> simp
@[simp] theorem State.enterMuster_pu_evidence (s : State) (keepSnapshot : Bool) : (s.enterMuster keepSnapshot).pu.evidence = s.pu.evidence := by
  simp only [State.enterMuster, segmentNumbers, List.foldl]; split <;> split <;> simp
@[simp] theorem State.enterMuster_tu (s : State) (keepSnapshot : Bool) : (s.enterMuster keepSnapshot).tu = s.tu := by
  simp only [State.enterMuster, segmentNumbers, List.foldl]; split <;> split <;> simp
@[simp] theorem State.enterMuster_cc (s : State) (keepSnapshot : Bool) : (s.enterMuster keepSnapshot).cc = s.cc := by
  simp only [State.enterMuster, segmentNumbers, List.foldl]; split <;> split <;> simp
@[simp] theorem State.enterMuster_pq (s : State) (keepSnapshot : Bool) : (s.enterMuster keepSnapshot).pq = s.pq := by
  simp only [State.enterMuster, segmentNumbers, List.foldl]; split <;> split <;> simp
@[simp] theorem State.enterMuster_nfu_enables (s : State) (keepSnapshot : Bool) : (s.enterMuster keepSnapshot).nfu.enables = s.nfu.enables := by
  simp only [State.enterMuster, segmentNumbers, List.foldl]; split <;> split <;> simp
@[simp] theorem State.enterMuster_nfu_status (s : State) (keepSnapshot : Bool) : (s.enterMuster keepSnapshot).nfu.status = s.nfu.status := by
  simp only [State.enterMuster, segmentNumbers, List.foldl]; split <;> split <;> simp
@[simp] theorem State.enterMuster_nfu_masks (s : State) (keepSnapshot : Bool) : (s.enterMuster keepSnapshot).nfu.masks = s.nfu.masks := by
  simp only [State.enterMuster, segmentNumbers, List.foldl]; split <;> split <;> simp
@[simp] theorem State.enterMuster_nfu_severe (s : State) (keepSnapshot : Bool) : (s.enterMuster keepSnapshot).nfu.severe = s.nfu.severe := by
  simp only [State.enterMuster, segmentNumbers, List.foldl]; split <;> split <;> simp
@[simp] theorem State.enterMuster_nfu_first (s : State) (keepSnapshot : Bool) : (s.enterMuster keepSnapshot).nfu.first = s.nfu.first := by
  simp only [State.enterMuster, segmentNumbers, List.foldl]; split <;> split <;> simp
@[simp] theorem State.enterMuster_nfu_refusalRecord (s : State) (keepSnapshot : Bool) : (s.enterMuster keepSnapshot).nfu.refusalRecord = s.nfu.refusalRecord := by
  simp only [State.enterMuster, segmentNumbers, List.foldl]; split <;> split <;> simp
@[simp] theorem State.enterMuster_nfu_refusalNotice (s : State) (keepSnapshot : Bool) : (s.enterMuster keepSnapshot).nfu.refusalNotice = s.nfu.refusalNotice := by
  simp only [State.enterMuster, segmentNumbers, List.foldl]; split <;> split <;> simp
@[simp] theorem State.enterMuster_sck_clock (s : State) (keepSnapshot : Bool) : (s.enterMuster keepSnapshot).sck.clock = s.sck.clock := by
  simp only [State.enterMuster, segmentNumbers, List.foldl]; split <;> split <;> simp
@[simp] theorem State.enterMuster_sck_clockSet (s : State) (keepSnapshot : Bool) : (s.enterMuster keepSnapshot).sck.clockSet = s.sck.clockSet := by
  simp only [State.enterMuster, segmentNumbers, List.foldl]; split <;> split <;> simp
@[simp] theorem State.enterMuster_sck_ms (s : State) (keepSnapshot : Bool) : (s.enterMuster keepSnapshot).sck.ms = s.sck.ms := by
  simp only [State.enterMuster, segmentNumbers, List.foldl]; split <;> split <;> simp
@[simp] theorem State.enterMuster_sck_elapsed (s : State) (keepSnapshot : Bool) : (s.enterMuster keepSnapshot).sck.elapsed = s.sck.elapsed := by
  simp only [State.enterMuster, segmentNumbers, List.foldl]; split <;> split <;> simp
@[simp] theorem State.enterMuster_sck_openDay (s : State) (keepSnapshot : Bool) : (s.enterMuster keepSnapshot).sck.openDay = s.sck.openDay := by
  simp only [State.enterMuster, segmentNumbers, List.foldl]; split <;> split <;> simp
@[simp] theorem State.enterMuster_sck_musterLevel (s : State) (keepSnapshot : Bool) : (s.enterMuster keepSnapshot).sck.musterLevel = s.sck.musterLevel := by
  simp only [State.enterMuster, segmentNumbers, List.foldl]; split <;> split <;> simp
@[simp] theorem State.enterMuster_sck_musterLine (s : State) (keepSnapshot : Bool) : (s.enterMuster keepSnapshot).sck.musterLine = s.sck.musterLine := by
  simp only [State.enterMuster, segmentNumbers, List.foldl]; split <;> split <;> simp
@[simp] theorem State.enterMuster_sck_musterHold (s : State) (keepSnapshot : Bool) : (s.enterMuster keepSnapshot).sck.musterHold = s.sck.musterHold := by
  simp only [State.enterMuster, segmentNumbers, List.foldl]; split <;> split <;> simp
@[simp] theorem State.enterMuster_sck_supm (s : State) (keepSnapshot : Bool) : (s.enterMuster keepSnapshot).sck.supm = s.sck.supm := by
  simp only [State.enterMuster, segmentNumbers, List.foldl]; split <;> split <;> simp
@[simp] theorem State.enterMuster_sck_supb (s : State) (keepSnapshot : Bool) : (s.enterMuster keepSnapshot).sck.supb = s.sck.supb := by
  simp only [State.enterMuster, segmentNumbers, List.foldl]; split <;> split <;> simp
@[simp] theorem State.enterMuster_sck_resetLine (s : State) (keepSnapshot : Bool) : (s.enterMuster keepSnapshot).sck.resetLine = s.sck.resetLine := by
  simp only [State.enterMuster, segmentNumbers, List.foldl]; split <;> split <;> simp
@[simp] theorem State.enterMuster_sck_mark (s : State) (keepSnapshot : Bool) : (s.enterMuster keepSnapshot).sck.mark = s.sck.mark := by
  simp only [State.enterMuster, segmentNumbers, List.foldl]; split <;> split <;> simp
@[simp] theorem State.enterMuster_sck_returned (s : State) (keepSnapshot : Bool) : (s.enterMuster keepSnapshot).sck.returned = s.sck.returned := by
  simp only [State.enterMuster, segmentNumbers, List.foldl]; split <;> split <;> simp
@[simp] theorem State.enterMuster_sck_lastReset (s : State) (keepSnapshot : Bool) : (s.enterMuster keepSnapshot).sck.lastReset = s.sck.lastReset := by
  simp only [State.enterMuster, segmentNumbers, List.foldl]; split <;> split <;> simp
@[simp] theorem State.leaveMuster_pending (s : State) : (s.leaveMuster).pending = s.pending := by
  simp [State.leaveMuster, segmentNumbers]
@[simp] theorem State.leaveMuster_tagCount (s : State) : (s.leaveMuster).tagCount = s.tagCount := by
  simp [State.leaveMuster, segmentNumbers]
@[simp] theorem State.leaveMuster_pp (s : State) : (s.leaveMuster).pp = s.pp := by
  simp [State.leaveMuster, segmentNumbers]
@[simp] theorem State.leaveMuster_pt (s : State) : (s.leaveMuster).pt = s.pt := by
  simp [State.leaveMuster, segmentNumbers]
@[simp] theorem State.leaveMuster_ci (s : State) : (s.leaveMuster).ci = s.ci := by
  simp [State.leaveMuster, segmentNumbers]
@[simp] theorem State.leaveMuster_ct (s : State) : (s.leaveMuster).ct = s.ct := by
  simp [State.leaveMuster, segmentNumbers]
@[simp] theorem State.leaveMuster_pu_counts (s : State) : (s.leaveMuster).pu.counts = s.pu.counts := by
  simp [State.leaveMuster, segmentNumbers]
@[simp] theorem State.leaveMuster_pu_permitWindow (s : State) : (s.leaveMuster).pu.permitWindow = s.pu.permitWindow := by
  simp [State.leaveMuster, segmentNumbers]
@[simp] theorem State.leaveMuster_pu_deadline (s : State) : (s.leaveMuster).pu.deadline = s.pu.deadline := by
  simp [State.leaveMuster, segmentNumbers]
@[simp] theorem State.leaveMuster_pu_snapshot (s : State) : (s.leaveMuster).pu.snapshot = s.pu.snapshot := by
  simp [State.leaveMuster, segmentNumbers]
@[simp] theorem State.leaveMuster_pu_evidence (s : State) : (s.leaveMuster).pu.evidence = s.pu.evidence := by
  simp [State.leaveMuster, segmentNumbers]
@[simp] theorem State.leaveMuster_tu (s : State) : (s.leaveMuster).tu = s.tu := by
  simp [State.leaveMuster, segmentNumbers]
@[simp] theorem State.leaveMuster_cc (s : State) : (s.leaveMuster).cc = s.cc := by
  simp [State.leaveMuster, segmentNumbers]
@[simp] theorem State.leaveMuster_pq (s : State) : (s.leaveMuster).pq = s.pq := by
  simp [State.leaveMuster, segmentNumbers]
@[simp] theorem State.leaveMuster_oe (s : State) : (s.leaveMuster).oe = s.oe := by
  simp [State.leaveMuster, segmentNumbers]
@[simp] theorem State.leaveMuster_nfu_enables (s : State) : (s.leaveMuster).nfu.enables = s.nfu.enables := by
  simp [State.leaveMuster, segmentNumbers]
@[simp] theorem State.leaveMuster_nfu_status (s : State) : (s.leaveMuster).nfu.status = s.nfu.status := by
  simp [State.leaveMuster, segmentNumbers]
@[simp] theorem State.leaveMuster_nfu_masks (s : State) : (s.leaveMuster).nfu.masks = s.nfu.masks := by
  simp [State.leaveMuster, segmentNumbers]
@[simp] theorem State.leaveMuster_nfu_severe (s : State) : (s.leaveMuster).nfu.severe = s.nfu.severe := by
  simp [State.leaveMuster, segmentNumbers]
@[simp] theorem State.leaveMuster_nfu_first (s : State) : (s.leaveMuster).nfu.first = s.nfu.first := by
  simp [State.leaveMuster, segmentNumbers]
@[simp] theorem State.leaveMuster_nfu_refusalRecord (s : State) : (s.leaveMuster).nfu.refusalRecord = s.nfu.refusalRecord := by
  simp [State.leaveMuster, segmentNumbers]
@[simp] theorem State.leaveMuster_nfu_refusalNotice (s : State) : (s.leaveMuster).nfu.refusalNotice = s.nfu.refusalNotice := by
  simp [State.leaveMuster, segmentNumbers]
@[simp] theorem State.leaveMuster_sck_clock (s : State) : (s.leaveMuster).sck.clock = s.sck.clock := by
  simp [State.leaveMuster, segmentNumbers]
@[simp] theorem State.leaveMuster_sck_clockSet (s : State) : (s.leaveMuster).sck.clockSet = s.sck.clockSet := by
  simp [State.leaveMuster, segmentNumbers]
@[simp] theorem State.leaveMuster_sck_ms (s : State) : (s.leaveMuster).sck.ms = s.sck.ms := by
  simp [State.leaveMuster, segmentNumbers]
@[simp] theorem State.leaveMuster_sck_elapsed (s : State) : (s.leaveMuster).sck.elapsed = s.sck.elapsed := by
  simp [State.leaveMuster, segmentNumbers]
@[simp] theorem State.leaveMuster_sck_openDay (s : State) : (s.leaveMuster).sck.openDay = s.sck.openDay := by
  simp [State.leaveMuster, segmentNumbers]
@[simp] theorem State.leaveMuster_sck_musterLevel (s : State) : (s.leaveMuster).sck.musterLevel = s.sck.musterLevel := by
  simp [State.leaveMuster, segmentNumbers]
@[simp] theorem State.leaveMuster_sck_musterLine (s : State) : (s.leaveMuster).sck.musterLine = s.sck.musterLine := by
  simp [State.leaveMuster, segmentNumbers]
@[simp] theorem State.leaveMuster_sck_musterHold (s : State) : (s.leaveMuster).sck.musterHold = s.sck.musterHold := by
  simp [State.leaveMuster, segmentNumbers]
@[simp] theorem State.leaveMuster_sck_supm (s : State) : (s.leaveMuster).sck.supm = s.sck.supm := by
  simp [State.leaveMuster, segmentNumbers]
@[simp] theorem State.leaveMuster_sck_supb (s : State) : (s.leaveMuster).sck.supb = s.sck.supb := by
  simp [State.leaveMuster, segmentNumbers]
@[simp] theorem State.leaveMuster_sck_resetLine (s : State) : (s.leaveMuster).sck.resetLine = s.sck.resetLine := by
  simp [State.leaveMuster, segmentNumbers]
@[simp] theorem State.leaveMuster_sck_mark (s : State) : (s.leaveMuster).sck.mark = s.sck.mark := by
  simp [State.leaveMuster, segmentNumbers]
@[simp] theorem State.leaveMuster_sck_returned (s : State) : (s.leaveMuster).sck.returned = s.sck.returned := by
  simp [State.leaveMuster, segmentNumbers]
@[simp] theorem State.leaveMuster_sck_lastReset (s : State) : (s.leaveMuster).sck.lastReset = s.sck.lastReset := by
  simp [State.leaveMuster, segmentNumbers]

end Sys2Proof.Machine
end

