-- ==== Sys2Proof/Laws/Blocks.lean ====
section
/-! SUPPORT. What the blocks' own operations leave as it is: one lemma for each field.
The first lemma about an operation is elaborated before the others, so that they do not wait for each other to make the
equations that all of them unfold it by. -/

namespace Sys2Proof.Machine

set_option Elab.async false in
@[simp] theorem State.handOn_pending (s : State) (g st : Nat) (serial : Serial) (outcome : Code) : (s.handOn g st serial outcome).pending = s.pending := by
  unfold State.handOn; split <;> (try split) <;> simp
@[simp] theorem State.handOn_tagCount (s : State) (g st : Nat) (serial : Serial) (outcome : Code) : (s.handOn g st serial outcome).tagCount = s.tagCount := by
  unfold State.handOn; split <;> (try split) <;> simp
@[simp] theorem State.handOn_pp (s : State) (g st : Nat) (serial : Serial) (outcome : Code) : (s.handOn g st serial outcome).pp = s.pp := by
  unfold State.handOn; split <;> (try split) <;> simp
@[simp] theorem State.handOn_lk (s : State) (g st : Nat) (serial : Serial) (outcome : Code) : (s.handOn g st serial outcome).lk = s.lk := by
  unfold State.handOn; split <;> (try split) <;> simp
@[simp] theorem State.handOn_pt (s : State) (g st : Nat) (serial : Serial) (outcome : Code) : (s.handOn g st serial outcome).pt = s.pt := by
  unfold State.handOn; split <;> (try split) <;> simp
@[simp] theorem State.handOn_ci (s : State) (g st : Nat) (serial : Serial) (outcome : Code) : (s.handOn g st serial outcome).ci = s.ci := by
  unfold State.handOn; split <;> (try split) <;> simp
@[simp] theorem State.handOn_ct (s : State) (g st : Nat) (serial : Serial) (outcome : Code) : (s.handOn g st serial outcome).ct = s.ct := by
  unfold State.handOn; split <;> (try split) <;> simp
@[simp] theorem State.handOn_pu_counts (s : State) (g st : Nat) (serial : Serial) (outcome : Code) : (s.handOn g st serial outcome).pu.counts = s.pu.counts := by
  unfold State.handOn; split <;> (try split) <;> simp
@[simp] theorem State.handOn_pu_lanes (s : State) (g st : Nat) (serial : Serial) (outcome : Code) : (s.handOn g st serial outcome).pu.lanes = s.pu.lanes := by
  unfold State.handOn; split <;> (try split) <;> simp
@[simp] theorem State.handOn_pu_permitWindow (s : State) (g st : Nat) (serial : Serial) (outcome : Code) : (s.handOn g st serial outcome).pu.permitWindow = s.pu.permitWindow := by
  unfold State.handOn; split <;> (try split) <;> simp
@[simp] theorem State.handOn_pu_deadline (s : State) (g st : Nat) (serial : Serial) (outcome : Code) : (s.handOn g st serial outcome).pu.deadline = s.pu.deadline := by
  unfold State.handOn; split <;> (try split) <;> simp
@[simp] theorem State.handOn_pu_snapshot (s : State) (g st : Nat) (serial : Serial) (outcome : Code) : (s.handOn g st serial outcome).pu.snapshot = s.pu.snapshot := by
  unfold State.handOn; split <;> (try split) <;> simp
@[simp] theorem State.handOn_sc (s : State) (g st : Nat) (serial : Serial) (outcome : Code) : (s.handOn g st serial outcome).sc = s.sc := by
  unfold State.handOn; split <;> (try split) <;> simp
@[simp] theorem State.handOn_tu (s : State) (g st : Nat) (serial : Serial) (outcome : Code) : (s.handOn g st serial outcome).tu = s.tu := by
  unfold State.handOn; split <;> (try split) <;> simp
@[simp] theorem State.handOn_cc (s : State) (g st : Nat) (serial : Serial) (outcome : Code) : (s.handOn g st serial outcome).cc = s.cc := by
  unfold State.handOn; split <;> (try split) <;> simp
@[simp] theorem State.handOn_pq_unposted (s : State) (g st : Nat) (serial : Serial) (outcome : Code) : (s.handOn g st serial outcome).pq.unposted = s.pq.unposted := by
  unfold State.handOn; split <;> (try split) <;> simp
@[simp] theorem State.handOn_oe (s : State) (g st : Nat) (serial : Serial) (outcome : Code) : (s.handOn g st serial outcome).oe = s.oe := by
  unfold State.handOn; split <;> (try split) <;> simp
@[simp] theorem State.handOn_nfu_enables (s : State) (g st : Nat) (serial : Serial) (outcome : Code) : (s.handOn g st serial outcome).nfu.enables = s.nfu.enables := by
  unfold State.handOn; split <;> (try split) <;> simp
@[simp] theorem State.handOn_nfu_status (s : State) (g st : Nat) (serial : Serial) (outcome : Code) : (s.handOn g st serial outcome).nfu.status = s.nfu.status := by
  unfold State.handOn; split <;> (try split) <;> simp
@[simp] theorem State.handOn_nfu_masks (s : State) (g st : Nat) (serial : Serial) (outcome : Code) : (s.handOn g st serial outcome).nfu.masks = s.nfu.masks := by
  unfold State.handOn; split <;> (try split) <;> simp
@[simp] theorem State.handOn_nfu_severe (s : State) (g st : Nat) (serial : Serial) (outcome : Code) : (s.handOn g st serial outcome).nfu.severe = s.nfu.severe := by
  unfold State.handOn; split <;> (try split) <;> simp
@[simp] theorem State.handOn_nfu_first (s : State) (g st : Nat) (serial : Serial) (outcome : Code) : (s.handOn g st serial outcome).nfu.first = s.nfu.first := by
  unfold State.handOn; split <;> (try split) <;> simp
@[simp] theorem State.handOn_nfu_refusalRecord (s : State) (g st : Nat) (serial : Serial) (outcome : Code) : (s.handOn g st serial outcome).nfu.refusalRecord = s.nfu.refusalRecord := by
  unfold State.handOn; split <;> (try split) <;> simp
@[simp] theorem State.handOn_nfu_refusalNotice (s : State) (g st : Nat) (serial : Serial) (outcome : Code) : (s.handOn g st serial outcome).nfu.refusalNotice = s.nfu.refusalNotice := by
  unfold State.handOn; split <;> (try split) <;> simp
@[simp] theorem State.handOn_sck (s : State) (g st : Nat) (serial : Serial) (outcome : Code) : (s.handOn g st serial outcome).sck = s.sck := by
  unfold State.handOn; split <;> (try split) <;> simp
set_option Elab.async false in
@[simp] theorem State.contactByCard_pending (s : State) (g st : Nat) (bolt : Bool) : (s.contactByCard g st bolt).pending = s.pending := by
  simp [State.contactByCard]
@[simp] theorem State.contactByCard_tagCount (s : State) (g st : Nat) (bolt : Bool) : (s.contactByCard g st bolt).tagCount = s.tagCount := by
  simp [State.contactByCard]
@[simp] theorem State.contactByCard_pp (s : State) (g st : Nat) (bolt : Bool) : (s.contactByCard g st bolt).pp = s.pp := by
  simp [State.contactByCard]
@[simp] theorem State.contactByCard_lk (s : State) (g st : Nat) (bolt : Bool) : (s.contactByCard g st bolt).lk = s.lk := by
  simp [State.contactByCard]
@[simp] theorem State.contactByCard_pt (s : State) (g st : Nat) (bolt : Bool) : (s.contactByCard g st bolt).pt = s.pt := by
  simp [State.contactByCard]
@[simp] theorem State.contactByCard_ci (s : State) (g st : Nat) (bolt : Bool) : (s.contactByCard g st bolt).ci = s.ci := by
  simp [State.contactByCard]
@[simp] theorem State.contactByCard_ct (s : State) (g st : Nat) (bolt : Bool) : (s.contactByCard g st bolt).ct = s.ct := by
  simp [State.contactByCard]
@[simp] theorem State.contactByCard_pu (s : State) (g st : Nat) (bolt : Bool) : (s.contactByCard g st bolt).pu = s.pu := by
  simp [State.contactByCard]
@[simp] theorem State.contactByCard_tu (s : State) (g st : Nat) (bolt : Bool) : (s.contactByCard g st bolt).tu = s.tu := by
  simp [State.contactByCard]
@[simp] theorem State.contactByCard_cc (s : State) (g st : Nat) (bolt : Bool) : (s.contactByCard g st bolt).cc = s.cc := by
  simp [State.contactByCard]
@[simp] theorem State.contactByCard_pq (s : State) (g st : Nat) (bolt : Bool) : (s.contactByCard g st bolt).pq = s.pq := by
  simp [State.contactByCard]
@[simp] theorem State.contactByCard_oe (s : State) (g st : Nat) (bolt : Bool) : (s.contactByCard g st bolt).oe = s.oe := by
  simp [State.contactByCard]
@[simp] theorem State.contactByCard_nfu (s : State) (g st : Nat) (bolt : Bool) : (s.contactByCard g st bolt).nfu = s.nfu := by
  simp [State.contactByCard]
@[simp] theorem State.contactByCard_sck (s : State) (g st : Nat) (bolt : Bool) : (s.contactByCard g st bolt).sck = s.sck := by
  simp [State.contactByCard]
set_option Elab.async false in
@[simp] theorem State.present_pending (s : State) (g : Nat) (f : Frame) (serial : Serial) (gen : Nat) (bolt : Bool) : (s.present g f serial gen bolt).pending = s.pending := by
  unfold State.present; split <;> simp
@[simp] theorem State.present_tagCount (s : State) (g : Nat) (f : Frame) (serial : Serial) (gen : Nat) (bolt : Bool) : (s.present g f serial gen bolt).tagCount = s.tagCount := by
  unfold State.present; split <;> simp
@[simp] theorem State.present_pp (s : State) (g : Nat) (f : Frame) (serial : Serial) (gen : Nat) (bolt : Bool) : (s.present g f serial gen bolt).pp = s.pp := by
  unfold State.present; split <;> simp
@[simp] theorem State.present_ci (s : State) (g : Nat) (f : Frame) (serial : Serial) (gen : Nat) (bolt : Bool) : (s.present g f serial gen bolt).ci = s.ci := by
  unfold State.present; split <;> simp
@[simp] theorem State.present_ct (s : State) (g : Nat) (f : Frame) (serial : Serial) (gen : Nat) (bolt : Bool) : (s.present g f serial gen bolt).ct = s.ct := by
  unfold State.present; split <;> simp
@[simp] theorem State.present_pu_counts (s : State) (g : Nat) (f : Frame) (serial : Serial) (gen : Nat) (bolt : Bool) : (s.present g f serial gen bolt).pu.counts = s.pu.counts := by
  unfold State.present; split <;> simp
@[simp] theorem State.present_pu_permitWindow (s : State) (g : Nat) (f : Frame) (serial : Serial) (gen : Nat) (bolt : Bool) : (s.present g f serial gen bolt).pu.permitWindow = s.pu.permitWindow := by
  unfold State.present; split <;> simp
@[simp] theorem State.present_pu_deadline (s : State) (g : Nat) (f : Frame) (serial : Serial) (gen : Nat) (bolt : Bool) : (s.present g f serial gen bolt).pu.deadline = s.pu.deadline := by
  unfold State.present; split <;> simp
@[simp] theorem State.present_pu_snapshot (s : State) (g : Nat) (f : Frame) (serial : Serial) (gen : Nat) (bolt : Bool) : (s.present g f serial gen bolt).pu.snapshot = s.pu.snapshot := by
  unfold State.present; split <;> simp
@[simp] theorem State.present_tu (s : State) (g : Nat) (f : Frame) (serial : Serial) (gen : Nat) (bolt : Bool) : (s.present g f serial gen bolt).tu = s.tu := by
  unfold State.present; split <;> simp
@[simp] theorem State.present_cc (s : State) (g : Nat) (f : Frame) (serial : Serial) (gen : Nat) (bolt : Bool) : (s.present g f serial gen bolt).cc = s.cc := by
  unfold State.present; split <;> simp
@[simp] theorem State.present_pq_unposted (s : State) (g : Nat) (f : Frame) (serial : Serial) (gen : Nat) (bolt : Bool) : (s.present g f serial gen bolt).pq.unposted = s.pq.unposted := by
  unfold State.present; split <;> simp
@[simp] theorem State.present_oe (s : State) (g : Nat) (f : Frame) (serial : Serial) (gen : Nat) (bolt : Bool) : (s.present g f serial gen bolt).oe = s.oe := by
  unfold State.present; split <;> simp
@[simp] theorem State.present_nfu_enables (s : State) (g : Nat) (f : Frame) (serial : Serial) (gen : Nat) (bolt : Bool) : (s.present g f serial gen bolt).nfu.enables = s.nfu.enables := by
  unfold State.present; split <;> simp
@[simp] theorem State.present_nfu_masks (s : State) (g : Nat) (f : Frame) (serial : Serial) (gen : Nat) (bolt : Bool) : (s.present g f serial gen bolt).nfu.masks = s.nfu.masks := by
  unfold State.present; split <;> simp
@[simp] theorem State.present_nfu_severe (s : State) (g : Nat) (f : Frame) (serial : Serial) (gen : Nat) (bolt : Bool) : (s.present g f serial gen bolt).nfu.severe = s.nfu.severe := by
  unfold State.present; split <;> simp
@[simp] theorem State.present_nfu_refusalRecord (s : State) (g : Nat) (f : Frame) (serial : Serial) (gen : Nat) (bolt : Bool) : (s.present g f serial gen bolt).nfu.refusalRecord = s.nfu.refusalRecord := by
  unfold State.present; split <;> simp
@[simp] theorem State.present_nfu_refusalNotice (s : State) (g : Nat) (f : Frame) (serial : Serial) (gen : Nat) (bolt : Bool) : (s.present g f serial gen bolt).nfu.refusalNotice = s.nfu.refusalNotice := by
  unfold State.present; split <;> simp
@[simp] theorem State.present_sck (s : State) (g : Nat) (f : Frame) (serial : Serial) (gen : Nat) (bolt : Bool) : (s.present g f serial gen bolt).sck = s.sck := by
  unfold State.present; split <;> simp
set_option Elab.async false in
@[simp] theorem State.logEntry_pending (s : State) (g st : Nat) (serial : Serial) (time : Nat) (granted : Bool) : (s.logEntry g st serial time granted).pending = s.pending := by
  unfold State.logEntry; dsimp only; (repeat' first | split | dsimp only) <;> simp
@[simp] theorem State.logEntry_tagCount (s : State) (g st : Nat) (serial : Serial) (time : Nat) (granted : Bool) : (s.logEntry g st serial time granted).tagCount = s.tagCount := by
  unfold State.logEntry; dsimp only; (repeat' first | split | dsimp only) <;> simp
@[simp] theorem State.logEntry_pp (s : State) (g st : Nat) (serial : Serial) (time : Nat) (granted : Bool) : (s.logEntry g st serial time granted).pp = s.pp := by
  unfold State.logEntry; dsimp only; (repeat' first | split | dsimp only) <;> simp
@[simp] theorem State.logEntry_lk (s : State) (g st : Nat) (serial : Serial) (time : Nat) (granted : Bool) : (s.logEntry g st serial time granted).lk = s.lk := by
  unfold State.logEntry; dsimp only; (repeat' first | split | dsimp only) <;> simp
@[simp] theorem State.logEntry_pt (s : State) (g st : Nat) (serial : Serial) (time : Nat) (granted : Bool) : (s.logEntry g st serial time granted).pt = s.pt := by
  unfold State.logEntry; dsimp only; (repeat' first | split | dsimp only) <;> simp
@[simp] theorem State.logEntry_ci (s : State) (g st : Nat) (serial : Serial) (time : Nat) (granted : Bool) : (s.logEntry g st serial time granted).ci = s.ci := by
  unfold State.logEntry; dsimp only; (repeat' first | split | dsimp only) <;> simp
@[simp] theorem State.logEntry_ct (s : State) (g st : Nat) (serial : Serial) (time : Nat) (granted : Bool) : (s.logEntry g st serial time granted).ct = s.ct := by
  unfold State.logEntry; dsimp only; (repeat' first | split | dsimp only) <;> simp
@[simp] theorem State.logEntry_pu_counts (s : State) (g st : Nat) (serial : Serial) (time : Nat) (granted : Bool) : (s.logEntry g st serial time granted).pu.counts = s.pu.counts := by
  unfold State.logEntry; dsimp only; (repeat' first | split | dsimp only) <;> simp
@[simp] theorem State.logEntry_pu_lanes (s : State) (g st : Nat) (serial : Serial) (time : Nat) (granted : Bool) : (s.logEntry g st serial time granted).pu.lanes = s.pu.lanes := by
  unfold State.logEntry; dsimp only; (repeat' first | split | dsimp only) <;> simp
@[simp] theorem State.logEntry_pu_permitWindow (s : State) (g st : Nat) (serial : Serial) (time : Nat) (granted : Bool) : (s.logEntry g st serial time granted).pu.permitWindow = s.pu.permitWindow := by
  unfold State.logEntry; dsimp only; (repeat' first | split | dsimp only) <;> simp
@[simp] theorem State.logEntry_pu_deadline (s : State) (g st : Nat) (serial : Serial) (time : Nat) (granted : Bool) : (s.logEntry g st serial time granted).pu.deadline = s.pu.deadline := by
  unfold State.logEntry; dsimp only; (repeat' first | split | dsimp only) <;> simp
@[simp] theorem State.logEntry_pu_snapshot (s : State) (g st : Nat) (serial : Serial) (time : Nat) (granted : Bool) : (s.logEntry g st serial time granted).pu.snapshot = s.pu.snapshot := by
  unfold State.logEntry; dsimp only; (repeat' first | split | dsimp only) <;> simp
@[simp] theorem State.logEntry_sc (s : State) (g st : Nat) (serial : Serial) (time : Nat) (granted : Bool) : (s.logEntry g st serial time granted).sc = s.sc := by
  unfold State.logEntry; dsimp only; (repeat' first | split | dsimp only) <;> simp
@[simp] theorem State.logEntry_tu (s : State) (g st : Nat) (serial : Serial) (time : Nat) (granted : Bool) : (s.logEntry g st serial time granted).tu = s.tu := by
  unfold State.logEntry; dsimp only; (repeat' first | split | dsimp only) <;> simp
@[simp] theorem State.logEntry_cc (s : State) (g st : Nat) (serial : Serial) (time : Nat) (granted : Bool) : (s.logEntry g st serial time granted).cc = s.cc := by
  unfold State.logEntry; dsimp only; (repeat' first | split | dsimp only) <;> simp
@[simp] theorem State.logEntry_pq_unposted (s : State) (g st : Nat) (serial : Serial) (time : Nat) (granted : Bool) : (s.logEntry g st serial time granted).pq.unposted = s.pq.unposted := by
  unfold State.logEntry; dsimp only; (repeat' first | split | dsimp only) <;> simp
@[simp] theorem State.logEntry_oe (s : State) (g st : Nat) (serial : Serial) (time : Nat) (granted : Bool) : (s.logEntry g st serial time granted).oe = s.oe := by
  unfold State.logEntry; dsimp only; (repeat' first | split | dsimp only) <;> simp
@[simp] theorem State.logEntry_nfu_enables (s : State) (g st : Nat) (serial : Serial) (time : Nat) (granted : Bool) : (s.logEntry g st serial time granted).nfu.enables = s.nfu.enables := by
  unfold State.logEntry; dsimp only; (repeat' first | split | dsimp only) <;> simp
@[simp] theorem State.logEntry_nfu_status (s : State) (g st : Nat) (serial : Serial) (time : Nat) (granted : Bool) : (s.logEntry g st serial time granted).nfu.status = s.nfu.status := by
  unfold State.logEntry; dsimp only; (repeat' first | split | dsimp only) <;> simp
@[simp] theorem State.logEntry_nfu_masks (s : State) (g st : Nat) (serial : Serial) (time : Nat) (granted : Bool) : (s.logEntry g st serial time granted).nfu.masks = s.nfu.masks := by
  unfold State.logEntry; dsimp only; (repeat' first | split | dsimp only) <;> simp
@[simp] theorem State.logEntry_nfu_severe (s : State) (g st : Nat) (serial : Serial) (time : Nat) (granted : Bool) : (s.logEntry g st serial time granted).nfu.severe = s.nfu.severe := by
  unfold State.logEntry; dsimp only; (repeat' first | split | dsimp only) <;> simp
@[simp] theorem State.logEntry_nfu_first (s : State) (g st : Nat) (serial : Serial) (time : Nat) (granted : Bool) : (s.logEntry g st serial time granted).nfu.first = s.nfu.first := by
  unfold State.logEntry; dsimp only; (repeat' first | split | dsimp only) <;> simp
@[simp] theorem State.logEntry_nfu_refusalRecord (s : State) (g st : Nat) (serial : Serial) (time : Nat) (granted : Bool) : (s.logEntry g st serial time granted).nfu.refusalRecord = s.nfu.refusalRecord := by
  unfold State.logEntry; dsimp only; (repeat' first | split | dsimp only) <;> simp
@[simp] theorem State.logEntry_nfu_refusalNotice (s : State) (g st : Nat) (serial : Serial) (time : Nat) (granted : Bool) : (s.logEntry g st serial time granted).nfu.refusalNotice = s.nfu.refusalNotice := by
  unfold State.logEntry; dsimp only; (repeat' first | split | dsimp only) <;> simp
@[simp] theorem State.logEntry_sck (s : State) (g st : Nat) (serial : Serial) (time : Nat) (granted : Bool) : (s.logEntry g st serial time granted).sck = s.sck := by
  unfold State.logEntry; dsimp only; (repeat' first | split | dsimp only) <;> simp
set_option Elab.async false in
@[simp] theorem State.grantPermit_pending (s : State) (n p : Nat) (d : Direction) (r : Person) : (s.grantPermit n p d r).pending = s.pending := by
  simp [State.grantPermit]
@[simp] theorem State.grantPermit_tagCount (s : State) (n p : Nat) (d : Direction) (r : Person) : (s.grantPermit n p d r).tagCount = s.tagCount := by
  simp [State.grantPermit]
@[simp] theorem State.grantPermit_pp (s : State) (n p : Nat) (d : Direction) (r : Person) : (s.grantPermit n p d r).pp = s.pp := by
  simp [State.grantPermit]
@[simp] theorem State.grantPermit_lk (s : State) (n p : Nat) (d : Direction) (r : Person) : (s.grantPermit n p d r).lk = s.lk := by
  simp [State.grantPermit]
@[simp] theorem State.grantPermit_ci (s : State) (n p : Nat) (d : Direction) (r : Person) : (s.grantPermit n p d r).ci = s.ci := by
  simp [State.grantPermit]
@[simp] theorem State.grantPermit_ct (s : State) (n p : Nat) (d : Direction) (r : Person) : (s.grantPermit n p d r).ct = s.ct := by
  simp [State.grantPermit]
@[simp] theorem State.grantPermit_pu_counts (s : State) (n p : Nat) (d : Direction) (r : Person) : (s.grantPermit n p d r).pu.counts = s.pu.counts := by
  simp [State.grantPermit]
@[simp] theorem State.grantPermit_pu_permitWindow (s : State) (n p : Nat) (d : Direction) (r : Person) : (s.grantPermit n p d r).pu.permitWindow = s.pu.permitWindow := by
  simp [State.grantPermit]
@[simp] theorem State.grantPermit_pu_deadline (s : State) (n p : Nat) (d : Direction) (r : Person) : (s.grantPermit n p d r).pu.deadline = s.pu.deadline := by
  simp [State.grantPermit]
@[simp] theorem State.grantPermit_pu_snapshot (s : State) (n p : Nat) (d : Direction) (r : Person) : (s.grantPermit n p d r).pu.snapshot = s.pu.snapshot := by
  simp [State.grantPermit]
@[simp] theorem State.grantPermit_pu_evidence (s : State) (n p : Nat) (d : Direction) (r : Person) : (s.grantPermit n p d r).pu.evidence = s.pu.evidence := by
  simp [State.grantPermit]
@[simp] theorem State.grantPermit_sc (s : State) (n p : Nat) (d : Direction) (r : Person) : (s.grantPermit n p d r).sc = s.sc := by
  simp [State.grantPermit]
@[simp] theorem State.grantPermit_tu (s : State) (n p : Nat) (d : Direction) (r : Person) : (s.grantPermit n p d r).tu = s.tu := by
  simp [State.grantPermit]
@[simp] theorem State.grantPermit_cc (s : State) (n p : Nat) (d : Direction) (r : Person) : (s.grantPermit n p d r).cc = s.cc := by
  simp [State.grantPermit]
@[simp] theorem State.grantPermit_pq (s : State) (n p : Nat) (d : Direction) (r : Person) : (s.grantPermit n p d r).pq = s.pq := by
  simp [State.grantPermit]
@[simp] theorem State.grantPermit_oe (s : State) (n p : Nat) (d : Direction) (r : Person) : (s.grantPermit n p d r).oe = s.oe := by
  simp [State.grantPermit]
@[simp] theorem State.grantPermit_nfu (s : State) (n p : Nat) (d : Direction) (r : Person) : (s.grantPermit n p d r).nfu = s.nfu := by
  simp [State.grantPermit]
@[simp] theorem State.grantPermit_sck (s : State) (n p : Nat) (d : Direction) (r : Person) : (s.grantPermit n p d r).sck = s.sck := by
  simp [State.grantPermit]
set_option Elab.async false in
@[simp] theorem State.consumePermit_pending (s : State) (n : Nat) (p : Permit) (f : Tallies → Tallies) : (s.consumePermit n p f).pending = s.pending := by
  simp [State.consumePermit]
@[simp] theorem State.consumePermit_tagCount (s : State) (n : Nat) (p : Permit) (f : Tallies → Tallies) : (s.consumePermit n p f).tagCount = s.tagCount := by
  simp [State.consumePermit]
@[simp] theorem State.consumePermit_pp (s : State) (n : Nat) (p : Permit) (f : Tallies → Tallies) : (s.consumePermit n p f).pp = s.pp := by
  simp [State.consumePermit]
@[simp] theorem State.consumePermit_lk (s : State) (n : Nat) (p : Permit) (f : Tallies → Tallies) : (s.consumePermit n p f).lk = s.lk := by
  simp [State.consumePermit]
@[simp] theorem State.consumePermit_ci (s : State) (n : Nat) (p : Permit) (f : Tallies → Tallies) : (s.consumePermit n p f).ci = s.ci := by
  simp [State.consumePermit]
@[simp] theorem State.consumePermit_ct (s : State) (n : Nat) (p : Permit) (f : Tallies → Tallies) : (s.consumePermit n p f).ct = s.ct := by
  simp [State.consumePermit]
@[simp] theorem State.consumePermit_pu_counts (s : State) (n : Nat) (p : Permit) (f : Tallies → Tallies) : (s.consumePermit n p f).pu.counts = s.pu.counts := by
  simp [State.consumePermit]
@[simp] theorem State.consumePermit_pu_permitWindow (s : State) (n : Nat) (p : Permit) (f : Tallies → Tallies) : (s.consumePermit n p f).pu.permitWindow = s.pu.permitWindow := by
  simp [State.consumePermit]
@[simp] theorem State.consumePermit_pu_deadline (s : State) (n : Nat) (p : Permit) (f : Tallies → Tallies) : (s.consumePermit n p f).pu.deadline = s.pu.deadline := by
  simp [State.consumePermit]
@[simp] theorem State.consumePermit_pu_snapshot (s : State) (n : Nat) (p : Permit) (f : Tallies → Tallies) : (s.consumePermit n p f).pu.snapshot = s.pu.snapshot := by
  simp [State.consumePermit]
@[simp] theorem State.consumePermit_pu_evidence (s : State) (n : Nat) (p : Permit) (f : Tallies → Tallies) : (s.consumePermit n p f).pu.evidence = s.pu.evidence := by
  simp [State.consumePermit]
@[simp] theorem State.consumePermit_sc (s : State) (n : Nat) (p : Permit) (f : Tallies → Tallies) : (s.consumePermit n p f).sc = s.sc := by
  simp [State.consumePermit]
@[simp] theorem State.consumePermit_tu (s : State) (n : Nat) (p : Permit) (f : Tallies → Tallies) : (s.consumePermit n p f).tu = s.tu := by
  simp [State.consumePermit]
@[simp] theorem State.consumePermit_cc (s : State) (n : Nat) (p : Permit) (f : Tallies → Tallies) : (s.consumePermit n p f).cc = s.cc := by
  simp [State.consumePermit]
@[simp] theorem State.consumePermit_pq (s : State) (n : Nat) (p : Permit) (f : Tallies → Tallies) : (s.consumePermit n p f).pq = s.pq := by
  simp [State.consumePermit]
@[simp] theorem State.consumePermit_oe (s : State) (n : Nat) (p : Permit) (f : Tallies → Tallies) : (s.consumePermit n p f).oe = s.oe := by
  simp [State.consumePermit]
@[simp] theorem State.consumePermit_nfu (s : State) (n : Nat) (p : Permit) (f : Tallies → Tallies) : (s.consumePermit n p f).nfu = s.nfu := by
  simp [State.consumePermit]
@[simp] theorem State.consumePermit_sck (s : State) (n : Nat) (p : Permit) (f : Tallies → Tallies) : (s.consumePermit n p f).sck = s.sck := by
  simp [State.consumePermit]
set_option Elab.async false in
@[simp] theorem State.commitCrossing_pending (s : State) (n : Nat) (p : Permit) : (s.commitCrossing n p).pending = s.pending := by
  unfold State.commitCrossing; dsimp only; split <;> simp
@[simp] theorem State.commitCrossing_tagCount (s : State) (n : Nat) (p : Permit) : (s.commitCrossing n p).tagCount = s.tagCount := by
  unfold State.commitCrossing; dsimp only; split <;> simp
@[simp] theorem State.commitCrossing_pp (s : State) (n : Nat) (p : Permit) : (s.commitCrossing n p).pp = s.pp := by
  unfold State.commitCrossing; dsimp only; split <;> simp
@[simp] theorem State.commitCrossing_lk (s : State) (n : Nat) (p : Permit) : (s.commitCrossing n p).lk = s.lk := by
  unfold State.commitCrossing; dsimp only; split <;> simp
@[simp] theorem State.commitCrossing_ci (s : State) (n : Nat) (p : Permit) : (s.commitCrossing n p).ci = s.ci := by
  unfold State.commitCrossing; dsimp only; split <;> simp
@[simp] theorem State.commitCrossing_ct (s : State) (n : Nat) (p : Permit) : (s.commitCrossing n p).ct = s.ct := by
  unfold State.commitCrossing; dsimp only; split <;> simp
@[simp] theorem State.commitCrossing_pu_permitWindow (s : State) (n : Nat) (p : Permit) : (s.commitCrossing n p).pu.permitWindow = s.pu.permitWindow := by
  unfold State.commitCrossing; dsimp only; split <;> simp
@[simp] theorem State.commitCrossing_pu_deadline (s : State) (n : Nat) (p : Permit) : (s.commitCrossing n p).pu.deadline = s.pu.deadline := by
  unfold State.commitCrossing; dsimp only; split <;> simp
@[simp] theorem State.commitCrossing_pu_snapshot (s : State) (n : Nat) (p : Permit) : (s.commitCrossing n p).pu.snapshot = s.pu.snapshot := by
  unfold State.commitCrossing; dsimp only; split <;> simp
@[simp] theorem State.commitCrossing_pu_evidence (s : State) (n : Nat) (p : Permit) : (s.commitCrossing n p).pu.evidence = s.pu.evidence := by
  unfold State.commitCrossing; dsimp only; split <;> simp
@[simp] theorem State.commitCrossing_sc (s : State) (n : Nat) (p : Permit) : (s.commitCrossing n p).sc = s.sc := by
  unfold State.commitCrossing; dsimp only; split <;> simp
@[simp] theorem State.commitCrossing_tu (s : State) (n : Nat) (p : Permit) : (s.commitCrossing n p).tu = s.tu := by
  unfold State.commitCrossing; dsimp only; split <;> simp
@[simp] theorem State.commitCrossing_cc (s : State) (n : Nat) (p : Permit) : (s.commitCrossing n p).cc = s.cc := by
  unfold State.commitCrossing; dsimp only; split <;> simp
@[simp] theorem State.commitCrossing_oe (s : State) (n : Nat) (p : Permit) : (s.commitCrossing n p).oe = s.oe := by
  unfold State.commitCrossing; dsimp only; split <;> simp
@[simp] theorem State.commitCrossing_nfu_enables (s : State) (n : Nat) (p : Permit) : (s.commitCrossing n p).nfu.enables = s.nfu.enables := by
  unfold State.commitCrossing; dsimp only; split <;> simp
@[simp] theorem State.commitCrossing_nfu_status (s : State) (n : Nat) (p : Permit) : (s.commitCrossing n p).nfu.status = s.nfu.status := by
  unfold State.commitCrossing; dsimp only; split <;> simp
@[simp] theorem State.commitCrossing_nfu_masks (s : State) (n : Nat) (p : Permit) : (s.commitCrossing n p).nfu.masks = s.nfu.masks := by
  unfold State.commitCrossing; dsimp only; split <;> simp
@[simp] theorem State.commitCrossing_nfu_severe (s : State) (n : Nat) (p : Permit) : (s.commitCrossing n p).nfu.severe = s.nfu.severe := by
  unfold State.commitCrossing; dsimp only; split <;> simp
@[simp] theorem State.commitCrossing_nfu_first (s : State) (n : Nat) (p : Permit) : (s.commitCrossing n p).nfu.first = s.nfu.first := by
  unfold State.commitCrossing; dsimp only; split <;> simp
@[simp] theorem State.commitCrossing_nfu_refusalRecord (s : State) (n : Nat) (p : Permit) : (s.commitCrossing n p).nfu.refusalRecord = s.nfu.refusalRecord := by
  unfold State.commitCrossing; dsimp only; split <;> simp
@[simp] theorem State.commitCrossing_nfu_refusalNotice (s : State) (n : Nat) (p : Permit) : (s.commitCrossing n p).nfu.refusalNotice = s.nfu.refusalNotice := by
  unfold State.commitCrossing; dsimp only; split <;> simp
@[simp] theorem State.commitCrossing_sck (s : State) (n : Nat) (p : Permit) : (s.commitCrossing n p).sck = s.sck := by
  unfold State.commitCrossing; dsimp only; split <;> simp
set_option Elab.async false in
@[simp] theorem State.stalePassage_pending (s : State) (n : Nat) (p : Permit) : (s.stalePassage n p).pending = s.pending := by
  simp [State.stalePassage]
@[simp] theorem State.stalePassage_tagCount (s : State) (n : Nat) (p : Permit) : (s.stalePassage n p).tagCount = s.tagCount := by
  simp [State.stalePassage]
@[simp] theorem State.stalePassage_pp (s : State) (n : Nat) (p : Permit) : (s.stalePassage n p).pp = s.pp := by
  simp [State.stalePassage]
@[simp] theorem State.stalePassage_lk (s : State) (n : Nat) (p : Permit) : (s.stalePassage n p).lk = s.lk := by
  simp [State.stalePassage]
@[simp] theorem State.stalePassage_ci (s : State) (n : Nat) (p : Permit) : (s.stalePassage n p).ci = s.ci := by
  simp [State.stalePassage]
@[simp] theorem State.stalePassage_ct (s : State) (n : Nat) (p : Permit) : (s.stalePassage n p).ct = s.ct := by
  simp [State.stalePassage]
@[simp] theorem State.stalePassage_pu_counts (s : State) (n : Nat) (p : Permit) : (s.stalePassage n p).pu.counts = s.pu.counts := by
  simp [State.stalePassage]
@[simp] theorem State.stalePassage_pu_permitWindow (s : State) (n : Nat) (p : Permit) : (s.stalePassage n p).pu.permitWindow = s.pu.permitWindow := by
  simp [State.stalePassage]
@[simp] theorem State.stalePassage_pu_deadline (s : State) (n : Nat) (p : Permit) : (s.stalePassage n p).pu.deadline = s.pu.deadline := by
  simp [State.stalePassage]
@[simp] theorem State.stalePassage_pu_snapshot (s : State) (n : Nat) (p : Permit) : (s.stalePassage n p).pu.snapshot = s.pu.snapshot := by
  simp [State.stalePassage]
@[simp] theorem State.stalePassage_pu_evidence (s : State) (n : Nat) (p : Permit) : (s.stalePassage n p).pu.evidence = s.pu.evidence := by
  simp [State.stalePassage]
@[simp] theorem State.stalePassage_sc (s : State) (n : Nat) (p : Permit) : (s.stalePassage n p).sc = s.sc := by
  simp [State.stalePassage]
@[simp] theorem State.stalePassage_tu (s : State) (n : Nat) (p : Permit) : (s.stalePassage n p).tu = s.tu := by
  simp [State.stalePassage]
@[simp] theorem State.stalePassage_cc (s : State) (n : Nat) (p : Permit) : (s.stalePassage n p).cc = s.cc := by
  simp [State.stalePassage]
@[simp] theorem State.stalePassage_oe (s : State) (n : Nat) (p : Permit) : (s.stalePassage n p).oe = s.oe := by
  simp [State.stalePassage]
@[simp] theorem State.stalePassage_nfu_enables (s : State) (n : Nat) (p : Permit) : (s.stalePassage n p).nfu.enables = s.nfu.enables := by
  simp [State.stalePassage]
@[simp] theorem State.stalePassage_nfu_status (s : State) (n : Nat) (p : Permit) : (s.stalePassage n p).nfu.status = s.nfu.status := by
  simp [State.stalePassage]
@[simp] theorem State.stalePassage_nfu_masks (s : State) (n : Nat) (p : Permit) : (s.stalePassage n p).nfu.masks = s.nfu.masks := by
  simp [State.stalePassage]
@[simp] theorem State.stalePassage_nfu_severe (s : State) (n : Nat) (p : Permit) : (s.stalePassage n p).nfu.severe = s.nfu.severe := by
  simp [State.stalePassage]
@[simp] theorem State.stalePassage_nfu_first (s : State) (n : Nat) (p : Permit) : (s.stalePassage n p).nfu.first = s.nfu.first := by
  simp [State.stalePassage]
@[simp] theorem State.stalePassage_nfu_refusalRecord (s : State) (n : Nat) (p : Permit) : (s.stalePassage n p).nfu.refusalRecord = s.nfu.refusalRecord := by
  simp [State.stalePassage]
@[simp] theorem State.stalePassage_nfu_refusalNotice (s : State) (n : Nat) (p : Permit) : (s.stalePassage n p).nfu.refusalNotice = s.nfu.refusalNotice := by
  simp [State.stalePassage]
@[simp] theorem State.stalePassage_sck (s : State) (n : Nat) (p : Permit) : (s.stalePassage n p).sck = s.sck := by
  simp [State.stalePassage]
set_option Elab.async false in
@[simp] theorem State.unscannedPassage_pending (s : State) (n : Nat) (d : Direction) : (s.unscannedPassage n d).pending = s.pending := by
  simp [State.unscannedPassage]
@[simp] theorem State.unscannedPassage_tagCount (s : State) (n : Nat) (d : Direction) : (s.unscannedPassage n d).tagCount = s.tagCount := by
  simp [State.unscannedPassage]
@[simp] theorem State.unscannedPassage_pp (s : State) (n : Nat) (d : Direction) : (s.unscannedPassage n d).pp = s.pp := by
  simp [State.unscannedPassage]
@[simp] theorem State.unscannedPassage_lk (s : State) (n : Nat) (d : Direction) : (s.unscannedPassage n d).lk = s.lk := by
  simp [State.unscannedPassage]
@[simp] theorem State.unscannedPassage_pt (s : State) (n : Nat) (d : Direction) : (s.unscannedPassage n d).pt = s.pt := by
  simp [State.unscannedPassage]
@[simp] theorem State.unscannedPassage_ci (s : State) (n : Nat) (d : Direction) : (s.unscannedPassage n d).ci = s.ci := by
  simp [State.unscannedPassage]
@[simp] theorem State.unscannedPassage_ct (s : State) (n : Nat) (d : Direction) : (s.unscannedPassage n d).ct = s.ct := by
  simp [State.unscannedPassage]
@[simp] theorem State.unscannedPassage_pu_counts (s : State) (n : Nat) (d : Direction) : (s.unscannedPassage n d).pu.counts = s.pu.counts := by
  simp [State.unscannedPassage]
@[simp] theorem State.unscannedPassage_pu_permitWindow (s : State) (n : Nat) (d : Direction) : (s.unscannedPassage n d).pu.permitWindow = s.pu.permitWindow := by
  simp [State.unscannedPassage]
@[simp] theorem State.unscannedPassage_pu_deadline (s : State) (n : Nat) (d : Direction) : (s.unscannedPassage n d).pu.deadline = s.pu.deadline := by
  simp [State.unscannedPassage]
@[simp] theorem State.unscannedPassage_pu_snapshot (s : State) (n : Nat) (d : Direction) : (s.unscannedPassage n d).pu.snapshot = s.pu.snapshot := by
  simp [State.unscannedPassage]
@[simp] theorem State.unscannedPassage_pu_evidence (s : State) (n : Nat) (d : Direction) : (s.unscannedPassage n d).pu.evidence = s.pu.evidence := by
  simp [State.unscannedPassage]
@[simp] theorem State.unscannedPassage_sc (s : State) (n : Nat) (d : Direction) : (s.unscannedPassage n d).sc = s.sc := by
  simp [State.unscannedPassage]
@[simp] theorem State.unscannedPassage_tu (s : State) (n : Nat) (d : Direction) : (s.unscannedPassage n d).tu = s.tu := by
  simp [State.unscannedPassage]
@[simp] theorem State.unscannedPassage_cc (s : State) (n : Nat) (d : Direction) : (s.unscannedPassage n d).cc = s.cc := by
  simp [State.unscannedPassage]
@[simp] theorem State.unscannedPassage_oe (s : State) (n : Nat) (d : Direction) : (s.unscannedPassage n d).oe = s.oe := by
  simp [State.unscannedPassage]
@[simp] theorem State.unscannedPassage_nfu_enables (s : State) (n : Nat) (d : Direction) : (s.unscannedPassage n d).nfu.enables = s.nfu.enables := by
  simp [State.unscannedPassage]
@[simp] theorem State.unscannedPassage_nfu_status (s : State) (n : Nat) (d : Direction) : (s.unscannedPassage n d).nfu.status = s.nfu.status := by
  simp [State.unscannedPassage]
@[simp] theorem State.unscannedPassage_nfu_masks (s : State) (n : Nat) (d : Direction) : (s.unscannedPassage n d).nfu.masks = s.nfu.masks := by
  simp [State.unscannedPassage]
@[simp] theorem State.unscannedPassage_nfu_severe (s : State) (n : Nat) (d : Direction) : (s.unscannedPassage n d).nfu.severe = s.nfu.severe := by
  simp [State.unscannedPassage]
@[simp] theorem State.unscannedPassage_nfu_first (s : State) (n : Nat) (d : Direction) : (s.unscannedPassage n d).nfu.first = s.nfu.first := by
  simp [State.unscannedPassage]
@[simp] theorem State.unscannedPassage_nfu_refusalRecord (s : State) (n : Nat) (d : Direction) : (s.unscannedPassage n d).nfu.refusalRecord = s.nfu.refusalRecord := by
  simp [State.unscannedPassage]
@[simp] theorem State.unscannedPassage_nfu_refusalNotice (s : State) (n : Nat) (d : Direction) : (s.unscannedPassage n d).nfu.refusalNotice = s.nfu.refusalNotice := by
  simp [State.unscannedPassage]
@[simp] theorem State.unscannedPassage_sck (s : State) (n : Nat) (d : Direction) : (s.unscannedPassage n d).sck = s.sck := by
  simp [State.unscannedPassage]
set_option Elab.async false in
@[simp] theorem State.answerLane_pending (s : State) (f : Frame) (body : List Byte) : (s.answerLane f body).pending = s.pending := by
  simp [State.answerLane]
@[simp] theorem State.answerLane_tagCount (s : State) (f : Frame) (body : List Byte) : (s.answerLane f body).tagCount = s.tagCount := by
  simp [State.answerLane]
@[simp] theorem State.answerLane_pp (s : State) (f : Frame) (body : List Byte) : (s.answerLane f body).pp = s.pp := by
  simp [State.answerLane]
@[simp] theorem State.answerLane_pt (s : State) (f : Frame) (body : List Byte) : (s.answerLane f body).pt = s.pt := by
  simp [State.answerLane]
@[simp] theorem State.answerLane_ci (s : State) (f : Frame) (body : List Byte) : (s.answerLane f body).ci = s.ci := by
  simp [State.answerLane]
@[simp] theorem State.answerLane_ct (s : State) (f : Frame) (body : List Byte) : (s.answerLane f body).ct = s.ct := by
  simp [State.answerLane]
@[simp] theorem State.answerLane_pu (s : State) (f : Frame) (body : List Byte) : (s.answerLane f body).pu = s.pu := by
  simp [State.answerLane]
@[simp] theorem State.answerLane_sc (s : State) (f : Frame) (body : List Byte) : (s.answerLane f body).sc = s.sc := by
  simp [State.answerLane]
@[simp] theorem State.answerLane_tu (s : State) (f : Frame) (body : List Byte) : (s.answerLane f body).tu = s.tu := by
  simp [State.answerLane]
@[simp] theorem State.answerLane_cc (s : State) (f : Frame) (body : List Byte) : (s.answerLane f body).cc = s.cc := by
  simp [State.answerLane]
@[simp] theorem State.answerLane_pq (s : State) (f : Frame) (body : List Byte) : (s.answerLane f body).pq = s.pq := by
  simp [State.answerLane]
@[simp] theorem State.answerLane_oe (s : State) (f : Frame) (body : List Byte) : (s.answerLane f body).oe = s.oe := by
  simp [State.answerLane]
@[simp] theorem State.answerLane_nfu (s : State) (f : Frame) (body : List Byte) : (s.answerLane f body).nfu = s.nfu := by
  simp [State.answerLane]
@[simp] theorem State.answerLane_sck (s : State) (f : Frame) (body : List Byte) : (s.answerLane f body).sck = s.sck := by
  simp [State.answerLane]
set_option Elab.async false in
@[simp] theorem State.takeEvidence_pending (s : State) (e : Evidence) : (s.takeEvidence e).pending = s.pending := by
  unfold State.takeEvidence; split <;> (try split) <;> simp
@[simp] theorem State.takeEvidence_tagCount (s : State) (e : Evidence) : (s.takeEvidence e).tagCount = s.tagCount := by
  unfold State.takeEvidence; split <;> (try split) <;> simp
@[simp] theorem State.takeEvidence_pp (s : State) (e : Evidence) : (s.takeEvidence e).pp = s.pp := by
  unfold State.takeEvidence; split <;> (try split) <;> simp
@[simp] theorem State.takeEvidence_lk (s : State) (e : Evidence) : (s.takeEvidence e).lk = s.lk := by
  unfold State.takeEvidence; split <;> (try split) <;> simp
@[simp] theorem State.takeEvidence_ci (s : State) (e : Evidence) : (s.takeEvidence e).ci = s.ci := by
  unfold State.takeEvidence; split <;> (try split) <;> simp
@[simp] theorem State.takeEvidence_ct (s : State) (e : Evidence) : (s.takeEvidence e).ct = s.ct := by
  unfold State.takeEvidence; split <;> (try split) <;> simp
@[simp] theorem State.takeEvidence_pu_lanes (s : State) (e : Evidence) : (s.takeEvidence e).pu.lanes = s.pu.lanes := by
  unfold State.takeEvidence; split <;> (try split) <;> simp
@[simp] theorem State.takeEvidence_pu_permitWindow (s : State) (e : Evidence) : (s.takeEvidence e).pu.permitWindow = s.pu.permitWindow := by
  unfold State.takeEvidence; split <;> (try split) <;> simp
@[simp] theorem State.takeEvidence_pu_deadline (s : State) (e : Evidence) : (s.takeEvidence e).pu.deadline = s.pu.deadline := by
  unfold State.takeEvidence; split <;> (try split) <;> simp
@[simp] theorem State.takeEvidence_pu_snapshot (s : State) (e : Evidence) : (s.takeEvidence e).pu.snapshot = s.pu.snapshot := by
  unfold State.takeEvidence; split <;> (try split) <;> simp
@[simp] theorem State.takeEvidence_pu_evidence (s : State) (e : Evidence) : (s.takeEvidence e).pu.evidence = s.pu.evidence := by
  unfold State.takeEvidence; split <;> (try split) <;> simp
@[simp] theorem State.takeEvidence_sc (s : State) (e : Evidence) : (s.takeEvidence e).sc = s.sc := by
  unfold State.takeEvidence; split <;> (try split) <;> simp
@[simp] theorem State.takeEvidence_tu (s : State) (e : Evidence) : (s.takeEvidence e).tu = s.tu := by
  unfold State.takeEvidence; split <;> (try split) <;> simp
@[simp] theorem State.takeEvidence_cc (s : State) (e : Evidence) : (s.takeEvidence e).cc = s.cc := by
  unfold State.takeEvidence; split <;> (try split) <;> simp
@[simp] theorem State.takeEvidence_pq_unposted (s : State) (e : Evidence) : (s.takeEvidence e).pq.unposted = s.pq.unposted := by
  unfold State.takeEvidence; split <;> (try split) <;> simp
@[simp] theorem State.takeEvidence_oe (s : State) (e : Evidence) : (s.takeEvidence e).oe = s.oe := by
  unfold State.takeEvidence; split <;> (try split) <;> simp
@[simp] theorem State.takeEvidence_nfu_enables (s : State) (e : Evidence) : (s.takeEvidence e).nfu.enables = s.nfu.enables := by
  unfold State.takeEvidence; split <;> (try split) <;> simp
@[simp] theorem State.takeEvidence_nfu_status (s : State) (e : Evidence) : (s.takeEvidence e).nfu.status = s.nfu.status := by
  unfold State.takeEvidence; split <;> (try split) <;> simp
@[simp] theorem State.takeEvidence_nfu_masks (s : State) (e : Evidence) : (s.takeEvidence e).nfu.masks = s.nfu.masks := by
  unfold State.takeEvidence; split <;> (try split) <;> simp
@[simp] theorem State.takeEvidence_nfu_severe (s : State) (e : Evidence) : (s.takeEvidence e).nfu.severe = s.nfu.severe := by
  unfold State.takeEvidence; split <;> (try split) <;> simp
@[simp] theorem State.takeEvidence_nfu_first (s : State) (e : Evidence) : (s.takeEvidence e).nfu.first = s.nfu.first := by
  unfold State.takeEvidence; split <;> (try split) <;> simp
@[simp] theorem State.takeEvidence_nfu_refusalRecord (s : State) (e : Evidence) : (s.takeEvidence e).nfu.refusalRecord = s.nfu.refusalRecord := by
  unfold State.takeEvidence; split <;> (try split) <;> simp
@[simp] theorem State.takeEvidence_nfu_refusalNotice (s : State) (e : Evidence) : (s.takeEvidence e).nfu.refusalNotice = s.nfu.refusalNotice := by
  unfold State.takeEvidence; split <;> (try split) <;> simp
@[simp] theorem State.takeEvidence_sck (s : State) (e : Evidence) : (s.takeEvidence e).sck = s.sck := by
  unfold State.takeEvidence; split <;> (try split) <;> simp
set_option Elab.async false in
@[simp] theorem State.nextEvidence_pending (s : State) : (s.nextEvidence).pending = s.pending := by
  unfold State.nextEvidence; split <;> simp
@[simp] theorem State.nextEvidence_tagCount (s : State) : (s.nextEvidence).tagCount = s.tagCount := by
  unfold State.nextEvidence; split <;> simp
@[simp] theorem State.nextEvidence_pp (s : State) : (s.nextEvidence).pp = s.pp := by
  unfold State.nextEvidence; split <;> simp
@[simp] theorem State.nextEvidence_lk (s : State) : (s.nextEvidence).lk = s.lk := by
  unfold State.nextEvidence; split <;> simp
@[simp] theorem State.nextEvidence_ci (s : State) : (s.nextEvidence).ci = s.ci := by
  unfold State.nextEvidence; split <;> simp
@[simp] theorem State.nextEvidence_ct (s : State) : (s.nextEvidence).ct = s.ct := by
  unfold State.nextEvidence; split <;> simp
@[simp] theorem State.nextEvidence_pu_lanes (s : State) : (s.nextEvidence).pu.lanes = s.pu.lanes := by
  unfold State.nextEvidence; split <;> simp
@[simp] theorem State.nextEvidence_pu_permitWindow (s : State) : (s.nextEvidence).pu.permitWindow = s.pu.permitWindow := by
  unfold State.nextEvidence; split <;> simp
@[simp] theorem State.nextEvidence_pu_deadline (s : State) : (s.nextEvidence).pu.deadline = s.pu.deadline := by
  unfold State.nextEvidence; split <;> simp
@[simp] theorem State.nextEvidence_pu_snapshot (s : State) : (s.nextEvidence).pu.snapshot = s.pu.snapshot := by
  unfold State.nextEvidence; split <;> simp
@[simp] theorem State.nextEvidence_sc (s : State) : (s.nextEvidence).sc = s.sc := by
  unfold State.nextEvidence; split <;> simp
@[simp] theorem State.nextEvidence_tu (s : State) : (s.nextEvidence).tu = s.tu := by
  unfold State.nextEvidence; split <;> simp
@[simp] theorem State.nextEvidence_cc (s : State) : (s.nextEvidence).cc = s.cc := by
  unfold State.nextEvidence; split <;> simp
@[simp] theorem State.nextEvidence_pq_unposted (s : State) : (s.nextEvidence).pq.unposted = s.pq.unposted := by
  unfold State.nextEvidence; split <;> simp
@[simp] theorem State.nextEvidence_oe (s : State) : (s.nextEvidence).oe = s.oe := by
  unfold State.nextEvidence; split <;> simp
@[simp] theorem State.nextEvidence_nfu_enables (s : State) : (s.nextEvidence).nfu.enables = s.nfu.enables := by
  unfold State.nextEvidence; split <;> simp
@[simp] theorem State.nextEvidence_nfu_status (s : State) : (s.nextEvidence).nfu.status = s.nfu.status := by
  unfold State.nextEvidence; split <;> simp
@[simp] theorem State.nextEvidence_nfu_masks (s : State) : (s.nextEvidence).nfu.masks = s.nfu.masks := by
  unfold State.nextEvidence; split <;> simp
@[simp] theorem State.nextEvidence_nfu_severe (s : State) : (s.nextEvidence).nfu.severe = s.nfu.severe := by
  unfold State.nextEvidence; split <;> simp
@[simp] theorem State.nextEvidence_nfu_first (s : State) : (s.nextEvidence).nfu.first = s.nfu.first := by
  unfold State.nextEvidence; split <;> simp
@[simp] theorem State.nextEvidence_nfu_refusalRecord (s : State) : (s.nextEvidence).nfu.refusalRecord = s.nfu.refusalRecord := by
  unfold State.nextEvidence; split <;> simp
@[simp] theorem State.nextEvidence_nfu_refusalNotice (s : State) : (s.nextEvidence).nfu.refusalNotice = s.nfu.refusalNotice := by
  unfold State.nextEvidence; split <;> simp
@[simp] theorem State.nextEvidence_sck (s : State) : (s.nextEvidence).sck = s.sck := by
  unfold State.nextEvidence; split <;> simp
set_option Elab.async false in
@[simp] theorem State.sendAnswer_pending (s : State) (n : Nat) : (s.sendAnswer n).pending = s.pending := by
  unfold State.sendAnswer; split <;> simp
@[simp] theorem State.sendAnswer_tagCount (s : State) (n : Nat) : (s.sendAnswer n).tagCount = s.tagCount := by
  unfold State.sendAnswer; split <;> simp
@[simp] theorem State.sendAnswer_pp (s : State) (n : Nat) : (s.sendAnswer n).pp = s.pp := by
  unfold State.sendAnswer; split <;> simp
@[simp] theorem State.sendAnswer_pt (s : State) (n : Nat) : (s.sendAnswer n).pt = s.pt := by
  unfold State.sendAnswer; split <;> simp
@[simp] theorem State.sendAnswer_ci (s : State) (n : Nat) : (s.sendAnswer n).ci = s.ci := by
  unfold State.sendAnswer; split <;> simp
@[simp] theorem State.sendAnswer_ct (s : State) (n : Nat) : (s.sendAnswer n).ct = s.ct := by
  unfold State.sendAnswer; split <;> simp
@[simp] theorem State.sendAnswer_pu (s : State) (n : Nat) : (s.sendAnswer n).pu = s.pu := by
  unfold State.sendAnswer; split <;> simp
@[simp] theorem State.sendAnswer_sc (s : State) (n : Nat) : (s.sendAnswer n).sc = s.sc := by
  unfold State.sendAnswer; split <;> simp
@[simp] theorem State.sendAnswer_tu (s : State) (n : Nat) : (s.sendAnswer n).tu = s.tu := by
  unfold State.sendAnswer; split <;> simp
@[simp] theorem State.sendAnswer_cc (s : State) (n : Nat) : (s.sendAnswer n).cc = s.cc := by
  unfold State.sendAnswer; split <;> simp
@[simp] theorem State.sendAnswer_pq (s : State) (n : Nat) : (s.sendAnswer n).pq = s.pq := by
  unfold State.sendAnswer; split <;> simp
@[simp] theorem State.sendAnswer_oe (s : State) (n : Nat) : (s.sendAnswer n).oe = s.oe := by
  unfold State.sendAnswer; split <;> simp
@[simp] theorem State.sendAnswer_nfu (s : State) (n : Nat) : (s.sendAnswer n).nfu = s.nfu := by
  unfold State.sendAnswer; split <;> simp
@[simp] theorem State.sendAnswer_sck (s : State) (n : Nat) : (s.sendAnswer n).sck = s.sck := by
  unfold State.sendAnswer; split <;> simp
set_option Elab.async false in
@[simp] theorem State.makeStale_pending (s : State) (g st : Nat) : (s.makeStale g st).pending = s.pending := by
  simp [State.makeStale]
@[simp] theorem State.makeStale_tagCount (s : State) (g st : Nat) : (s.makeStale g st).tagCount = s.tagCount := by
  simp [State.makeStale]
@[simp] theorem State.makeStale_pp (s : State) (g st : Nat) : (s.makeStale g st).pp = s.pp := by
  simp [State.makeStale]
@[simp] theorem State.makeStale_lk (s : State) (g st : Nat) : (s.makeStale g st).lk = s.lk := by
  simp [State.makeStale]
@[simp] theorem State.makeStale_pt (s : State) (g st : Nat) : (s.makeStale g st).pt = s.pt := by
  simp [State.makeStale]
@[simp] theorem State.makeStale_ci (s : State) (g st : Nat) : (s.makeStale g st).ci = s.ci := by
  simp [State.makeStale]
@[simp] theorem State.makeStale_ct (s : State) (g st : Nat) : (s.makeStale g st).ct = s.ct := by
  simp [State.makeStale]
@[simp] theorem State.makeStale_pu (s : State) (g st : Nat) : (s.makeStale g st).pu = s.pu := by
  simp [State.makeStale]
@[simp] theorem State.makeStale_tu (s : State) (g st : Nat) : (s.makeStale g st).tu = s.tu := by
  simp [State.makeStale]
@[simp] theorem State.makeStale_cc (s : State) (g st : Nat) : (s.makeStale g st).cc = s.cc := by
  simp [State.makeStale]
@[simp] theorem State.makeStale_pq (s : State) (g st : Nat) : (s.makeStale g st).pq = s.pq := by
  simp [State.makeStale]
@[simp] theorem State.makeStale_oe (s : State) (g st : Nat) : (s.makeStale g st).oe = s.oe := by
  simp [State.makeStale]
@[simp] theorem State.makeStale_nfu_enables (s : State) (g st : Nat) : (s.makeStale g st).nfu.enables = s.nfu.enables := by
  simp [State.makeStale]
@[simp] theorem State.makeStale_nfu_status (s : State) (g st : Nat) : (s.makeStale g st).nfu.status = s.nfu.status := by
  simp [State.makeStale]
@[simp] theorem State.makeStale_nfu_masks (s : State) (g st : Nat) : (s.makeStale g st).nfu.masks = s.nfu.masks := by
  simp [State.makeStale]
@[simp] theorem State.makeStale_nfu_severe (s : State) (g st : Nat) : (s.makeStale g st).nfu.severe = s.nfu.severe := by
  simp [State.makeStale]
@[simp] theorem State.makeStale_nfu_first (s : State) (g st : Nat) : (s.makeStale g st).nfu.first = s.nfu.first := by
  simp [State.makeStale]
@[simp] theorem State.makeStale_nfu_refusalRecord (s : State) (g st : Nat) : (s.makeStale g st).nfu.refusalRecord = s.nfu.refusalRecord := by
  simp [State.makeStale]
@[simp] theorem State.makeStale_nfu_refusalNotice (s : State) (g st : Nat) : (s.makeStale g st).nfu.refusalNotice = s.nfu.refusalNotice := by
  simp [State.makeStale]
@[simp] theorem State.makeStale_sck (s : State) (g st : Nat) : (s.makeStale g st).sck = s.sck := by
  simp [State.makeStale]
set_option Elab.async false in
@[simp] theorem State.settleStale_pending (s : State) (g : Nat) : (s.settleStale g).pending = s.pending := by
  unfold State.settleStale; refine @State.foldl_keeps Nat _ (fun s => s.pending) _ ?_ _ _; intro s a; split <;> simp
@[simp] theorem State.settleStale_tagCount (s : State) (g : Nat) : (s.settleStale g).tagCount = s.tagCount := by
  unfold State.settleStale; refine @State.foldl_keeps Nat _ (fun s => s.tagCount) _ ?_ _ _; intro s a; split <;> simp
@[simp] theorem State.settleStale_pp (s : State) (g : Nat) : (s.settleStale g).pp = s.pp := by
  unfold State.settleStale; refine @State.foldl_keeps Nat _ (fun s => s.pp) _ ?_ _ _; intro s a; split <;> simp
@[simp] theorem State.settleStale_lk (s : State) (g : Nat) : (s.settleStale g).lk = s.lk := by
  unfold State.settleStale; refine @State.foldl_keeps Nat _ (fun s => s.lk) _ ?_ _ _; intro s a; split <;> simp
@[simp] theorem State.settleStale_pt (s : State) (g : Nat) : (s.settleStale g).pt = s.pt := by
  unfold State.settleStale; refine @State.foldl_keeps Nat _ (fun s => s.pt) _ ?_ _ _; intro s a; split <;> simp
@[simp] theorem State.settleStale_ci (s : State) (g : Nat) : (s.settleStale g).ci = s.ci := by
  unfold State.settleStale; refine @State.foldl_keeps Nat _ (fun s => s.ci) _ ?_ _ _; intro s a; split <;> simp
@[simp] theorem State.settleStale_ct (s : State) (g : Nat) : (s.settleStale g).ct = s.ct := by
  unfold State.settleStale; refine @State.foldl_keeps Nat _ (fun s => s.ct) _ ?_ _ _; intro s a; split <;> simp
@[simp] theorem State.settleStale_pu (s : State) (g : Nat) : (s.settleStale g).pu = s.pu := by
  unfold State.settleStale; refine @State.foldl_keeps Nat _ (fun s => s.pu) _ ?_ _ _; intro s a; split <;> simp
@[simp] theorem State.settleStale_tu (s : State) (g : Nat) : (s.settleStale g).tu = s.tu := by
  unfold State.settleStale; refine @State.foldl_keeps Nat _ (fun s => s.tu) _ ?_ _ _; intro s a; split <;> simp
@[simp] theorem State.settleStale_cc (s : State) (g : Nat) : (s.settleStale g).cc = s.cc := by
  unfold State.settleStale; refine @State.foldl_keeps Nat _ (fun s => s.cc) _ ?_ _ _; intro s a; split <;> simp
@[simp] theorem State.settleStale_pq (s : State) (g : Nat) : (s.settleStale g).pq = s.pq := by
  unfold State.settleStale; refine @State.foldl_keeps Nat _ (fun s => s.pq) _ ?_ _ _; intro s a; split <;> simp
@[simp] theorem State.settleStale_oe (s : State) (g : Nat) : (s.settleStale g).oe = s.oe := by
  unfold State.settleStale; refine @State.foldl_keeps Nat _ (fun s => s.oe) _ ?_ _ _; intro s a; split <;> simp
@[simp] theorem State.settleStale_nfu_enables (s : State) (g : Nat) : (s.settleStale g).nfu.enables = s.nfu.enables := by
  unfold State.settleStale; refine @State.foldl_keeps Nat _ (fun s => s.nfu.enables) _ ?_ _ _; intro s a; split <;> simp
@[simp] theorem State.settleStale_nfu_status (s : State) (g : Nat) : (s.settleStale g).nfu.status = s.nfu.status := by
  unfold State.settleStale; refine @State.foldl_keeps Nat _ (fun s => s.nfu.status) _ ?_ _ _; intro s a; split <;> simp
@[simp] theorem State.settleStale_nfu_masks (s : State) (g : Nat) : (s.settleStale g).nfu.masks = s.nfu.masks := by
  unfold State.settleStale; refine @State.foldl_keeps Nat _ (fun s => s.nfu.masks) _ ?_ _ _; intro s a; split <;> simp
@[simp] theorem State.settleStale_nfu_severe (s : State) (g : Nat) : (s.settleStale g).nfu.severe = s.nfu.severe := by
  unfold State.settleStale; refine @State.foldl_keeps Nat _ (fun s => s.nfu.severe) _ ?_ _ _; intro s a; split <;> simp
@[simp] theorem State.settleStale_nfu_first (s : State) (g : Nat) : (s.settleStale g).nfu.first = s.nfu.first := by
  unfold State.settleStale; refine @State.foldl_keeps Nat _ (fun s => s.nfu.first) _ ?_ _ _; intro s a; split <;> simp
@[simp] theorem State.settleStale_nfu_refusalRecord (s : State) (g : Nat) : (s.settleStale g).nfu.refusalRecord = s.nfu.refusalRecord := by
  unfold State.settleStale; refine @State.foldl_keeps Nat _ (fun s => s.nfu.refusalRecord) _ ?_ _ _; intro s a; split <;> simp
@[simp] theorem State.settleStale_nfu_refusalNotice (s : State) (g : Nat) : (s.settleStale g).nfu.refusalNotice = s.nfu.refusalNotice := by
  unfold State.settleStale; refine @State.foldl_keeps Nat _ (fun s => s.nfu.refusalNotice) _ ?_ _ _; intro s a; split <;> simp
@[simp] theorem State.settleStale_sck (s : State) (g : Nat) : (s.settleStale g).sck = s.sck := by
  unfold State.settleStale; refine @State.foldl_keeps Nat _ (fun s => s.sck) _ ?_ _ _; intro s a; split <;> simp
set_option Elab.async false in
@[simp] theorem State.deriveWindow_pending (s : State) (g : Nat) : (s.deriveWindow g).pending = s.pending := by
  simp [State.deriveWindow]
@[simp] theorem State.deriveWindow_tagCount (s : State) (g : Nat) : (s.deriveWindow g).tagCount = s.tagCount := by
  simp [State.deriveWindow]
@[simp] theorem State.deriveWindow_pp (s : State) (g : Nat) : (s.deriveWindow g).pp = s.pp := by
  simp [State.deriveWindow]
@[simp] theorem State.deriveWindow_lk (s : State) (g : Nat) : (s.deriveWindow g).lk = s.lk := by
  simp [State.deriveWindow]
@[simp] theorem State.deriveWindow_pt (s : State) (g : Nat) : (s.deriveWindow g).pt = s.pt := by
  simp [State.deriveWindow]
@[simp] theorem State.deriveWindow_ci (s : State) (g : Nat) : (s.deriveWindow g).ci = s.ci := by
  simp [State.deriveWindow]
@[simp] theorem State.deriveWindow_ct (s : State) (g : Nat) : (s.deriveWindow g).ct = s.ct := by
  simp [State.deriveWindow]
@[simp] theorem State.deriveWindow_pu (s : State) (g : Nat) : (s.deriveWindow g).pu = s.pu := by
  simp [State.deriveWindow]
@[simp] theorem State.deriveWindow_tu (s : State) (g : Nat) : (s.deriveWindow g).tu = s.tu := by
  simp [State.deriveWindow]
@[simp] theorem State.deriveWindow_cc (s : State) (g : Nat) : (s.deriveWindow g).cc = s.cc := by
  simp [State.deriveWindow]
@[simp] theorem State.deriveWindow_pq (s : State) (g : Nat) : (s.deriveWindow g).pq = s.pq := by
  simp [State.deriveWindow]
@[simp] theorem State.deriveWindow_oe (s : State) (g : Nat) : (s.deriveWindow g).oe = s.oe := by
  simp [State.deriveWindow]
@[simp] theorem State.deriveWindow_nfu_enables (s : State) (g : Nat) : (s.deriveWindow g).nfu.enables = s.nfu.enables := by
  simp [State.deriveWindow]
@[simp] theorem State.deriveWindow_nfu_status (s : State) (g : Nat) : (s.deriveWindow g).nfu.status = s.nfu.status := by
  simp [State.deriveWindow]
@[simp] theorem State.deriveWindow_nfu_masks (s : State) (g : Nat) : (s.deriveWindow g).nfu.masks = s.nfu.masks := by
  simp [State.deriveWindow]
@[simp] theorem State.deriveWindow_nfu_severe (s : State) (g : Nat) : (s.deriveWindow g).nfu.severe = s.nfu.severe := by
  simp [State.deriveWindow]
@[simp] theorem State.deriveWindow_nfu_first (s : State) (g : Nat) : (s.deriveWindow g).nfu.first = s.nfu.first := by
  simp [State.deriveWindow]
@[simp] theorem State.deriveWindow_nfu_refusalRecord (s : State) (g : Nat) : (s.deriveWindow g).nfu.refusalRecord = s.nfu.refusalRecord := by
  simp [State.deriveWindow]
@[simp] theorem State.deriveWindow_nfu_refusalNotice (s : State) (g : Nat) : (s.deriveWindow g).nfu.refusalNotice = s.nfu.refusalNotice := by
  simp [State.deriveWindow]
@[simp] theorem State.deriveWindow_sck (s : State) (g : Nat) : (s.deriveWindow g).sck = s.sck := by
  simp [State.deriveWindow]
set_option Elab.async false in
@[simp] theorem State.bindLock_pending (s : State) (kind : LockKind) (l : Option (Nat × Nat)) : (s.bindLock kind l).pending = s.pending := by
  unfold State.bindLock; split <;> simp
@[simp] theorem State.bindLock_tagCount (s : State) (kind : LockKind) (l : Option (Nat × Nat)) : (s.bindLock kind l).tagCount = s.tagCount := by
  unfold State.bindLock; split <;> simp
@[simp] theorem State.bindLock_pp (s : State) (kind : LockKind) (l : Option (Nat × Nat)) : (s.bindLock kind l).pp = s.pp := by
  unfold State.bindLock; split <;> simp
@[simp] theorem State.bindLock_lk (s : State) (kind : LockKind) (l : Option (Nat × Nat)) : (s.bindLock kind l).lk = s.lk := by
  unfold State.bindLock; split <;> simp
@[simp] theorem State.bindLock_pt (s : State) (kind : LockKind) (l : Option (Nat × Nat)) : (s.bindLock kind l).pt = s.pt := by
  unfold State.bindLock; split <;> simp
@[simp] theorem State.bindLock_ci (s : State) (kind : LockKind) (l : Option (Nat × Nat)) : (s.bindLock kind l).ci = s.ci := by
  unfold State.bindLock; split <;> simp
@[simp] theorem State.bindLock_pu (s : State) (kind : LockKind) (l : Option (Nat × Nat)) : (s.bindLock kind l).pu = s.pu := by
  unfold State.bindLock; split <;> simp
@[simp] theorem State.bindLock_sc (s : State) (kind : LockKind) (l : Option (Nat × Nat)) : (s.bindLock kind l).sc = s.sc := by
  unfold State.bindLock; split <;> simp
@[simp] theorem State.bindLock_tu (s : State) (kind : LockKind) (l : Option (Nat × Nat)) : (s.bindLock kind l).tu = s.tu := by
  unfold State.bindLock; split <;> simp
@[simp] theorem State.bindLock_cc (s : State) (kind : LockKind) (l : Option (Nat × Nat)) : (s.bindLock kind l).cc = s.cc := by
  unfold State.bindLock; split <;> simp
@[simp] theorem State.bindLock_pq (s : State) (kind : LockKind) (l : Option (Nat × Nat)) : (s.bindLock kind l).pq = s.pq := by
  unfold State.bindLock; split <;> simp
@[simp] theorem State.bindLock_oe (s : State) (kind : LockKind) (l : Option (Nat × Nat)) : (s.bindLock kind l).oe = s.oe := by
  unfold State.bindLock; split <;> simp
@[simp] theorem State.bindLock_nfu (s : State) (kind : LockKind) (l : Option (Nat × Nat)) : (s.bindLock kind l).nfu = s.nfu := by
  unfold State.bindLock; split <;> simp
@[simp] theorem State.bindLock_sck (s : State) (kind : LockKind) (l : Option (Nat × Nat)) : (s.bindLock kind l).sck = s.sck := by
  unfold State.bindLock; split <;> simp
set_option Elab.async false in
@[simp] theorem State.sendStation_pending (s : State) (g : Nat) (f : Frame) : (s.sendStation g f).pending = s.pending := by
  simp [State.sendStation]
@[simp] theorem State.sendStation_tagCount (s : State) (g : Nat) (f : Frame) : (s.sendStation g f).tagCount = s.tagCount := by
  simp [State.sendStation]
@[simp] theorem State.sendStation_pp (s : State) (g : Nat) (f : Frame) : (s.sendStation g f).pp = s.pp := by
  simp [State.sendStation]
@[simp] theorem State.sendStation_pt (s : State) (g : Nat) (f : Frame) : (s.sendStation g f).pt = s.pt := by
  simp [State.sendStation]
@[simp] theorem State.sendStation_ci (s : State) (g : Nat) (f : Frame) : (s.sendStation g f).ci = s.ci := by
  simp [State.sendStation]
@[simp] theorem State.sendStation_ct (s : State) (g : Nat) (f : Frame) : (s.sendStation g f).ct = s.ct := by
  simp [State.sendStation]
@[simp] theorem State.sendStation_pu (s : State) (g : Nat) (f : Frame) : (s.sendStation g f).pu = s.pu := by
  simp [State.sendStation]
@[simp] theorem State.sendStation_tu (s : State) (g : Nat) (f : Frame) : (s.sendStation g f).tu = s.tu := by
  simp [State.sendStation]
@[simp] theorem State.sendStation_cc (s : State) (g : Nat) (f : Frame) : (s.sendStation g f).cc = s.cc := by
  simp [State.sendStation]
@[simp] theorem State.sendStation_pq (s : State) (g : Nat) (f : Frame) : (s.sendStation g f).pq = s.pq := by
  simp [State.sendStation]
@[simp] theorem State.sendStation_oe (s : State) (g : Nat) (f : Frame) : (s.sendStation g f).oe = s.oe := by
  simp [State.sendStation]
@[simp] theorem State.sendStation_nfu (s : State) (g : Nat) (f : Frame) : (s.sendStation g f).nfu = s.nfu := by
  simp [State.sendStation]
@[simp] theorem State.sendStation_sck (s : State) (g : Nat) (f : Frame) : (s.sendStation g f).sck = s.sck := by
  simp [State.sendStation]
set_option Elab.async false in
@[simp] theorem State.sendDoorAnswer_pending (s : State) (g : Nat) : (s.sendDoorAnswer g).pending = s.pending := by
  unfold State.sendDoorAnswer; split <;> simp
@[simp] theorem State.sendDoorAnswer_tagCount (s : State) (g : Nat) : (s.sendDoorAnswer g).tagCount = s.tagCount := by
  unfold State.sendDoorAnswer; split <;> simp
@[simp] theorem State.sendDoorAnswer_pp (s : State) (g : Nat) : (s.sendDoorAnswer g).pp = s.pp := by
  unfold State.sendDoorAnswer; split <;> simp
@[simp] theorem State.sendDoorAnswer_pt (s : State) (g : Nat) : (s.sendDoorAnswer g).pt = s.pt := by
  unfold State.sendDoorAnswer; split <;> simp
@[simp] theorem State.sendDoorAnswer_ci (s : State) (g : Nat) : (s.sendDoorAnswer g).ci = s.ci := by
  unfold State.sendDoorAnswer; split <;> simp
@[simp] theorem State.sendDoorAnswer_ct (s : State) (g : Nat) : (s.sendDoorAnswer g).ct = s.ct := by
  unfold State.sendDoorAnswer; split <;> simp
@[simp] theorem State.sendDoorAnswer_pu (s : State) (g : Nat) : (s.sendDoorAnswer g).pu = s.pu := by
  unfold State.sendDoorAnswer; split <;> simp
@[simp] theorem State.sendDoorAnswer_tu (s : State) (g : Nat) : (s.sendDoorAnswer g).tu = s.tu := by
  unfold State.sendDoorAnswer; split <;> simp
@[simp] theorem State.sendDoorAnswer_cc (s : State) (g : Nat) : (s.sendDoorAnswer g).cc = s.cc := by
  unfold State.sendDoorAnswer; split <;> simp
@[simp] theorem State.sendDoorAnswer_pq (s : State) (g : Nat) : (s.sendDoorAnswer g).pq = s.pq := by
  unfold State.sendDoorAnswer; split <;> simp
@[simp] theorem State.sendDoorAnswer_oe (s : State) (g : Nat) : (s.sendDoorAnswer g).oe = s.oe := by
  unfold State.sendDoorAnswer; split <;> simp
@[simp] theorem State.sendDoorAnswer_nfu (s : State) (g : Nat) : (s.sendDoorAnswer g).nfu = s.nfu := by
  unfold State.sendDoorAnswer; split <;> simp
@[simp] theorem State.sendDoorAnswer_sck (s : State) (g : Nat) : (s.sendDoorAnswer g).sck = s.sck := by
  unfold State.sendDoorAnswer; split <;> simp
set_option Elab.async false in
@[simp] theorem State.sendBroadcast_pending (s : State) (g : Nat) : (s.sendBroadcast g).pending = s.pending := by
  simp [State.sendBroadcast]
@[simp] theorem State.sendBroadcast_pp (s : State) (g : Nat) : (s.sendBroadcast g).pp = s.pp := by
  simp [State.sendBroadcast]
@[simp] theorem State.sendBroadcast_pt (s : State) (g : Nat) : (s.sendBroadcast g).pt = s.pt := by
  simp [State.sendBroadcast]
@[simp] theorem State.sendBroadcast_ci (s : State) (g : Nat) : (s.sendBroadcast g).ci = s.ci := by
  simp [State.sendBroadcast]
@[simp] theorem State.sendBroadcast_ct (s : State) (g : Nat) : (s.sendBroadcast g).ct = s.ct := by
  simp [State.sendBroadcast]
@[simp] theorem State.sendBroadcast_pu (s : State) (g : Nat) : (s.sendBroadcast g).pu = s.pu := by
  simp [State.sendBroadcast]
@[simp] theorem State.sendBroadcast_tu (s : State) (g : Nat) : (s.sendBroadcast g).tu = s.tu := by
  simp [State.sendBroadcast]
@[simp] theorem State.sendBroadcast_cc (s : State) (g : Nat) : (s.sendBroadcast g).cc = s.cc := by
  simp [State.sendBroadcast]
@[simp] theorem State.sendBroadcast_pq (s : State) (g : Nat) : (s.sendBroadcast g).pq = s.pq := by
  simp [State.sendBroadcast]
@[simp] theorem State.sendBroadcast_oe (s : State) (g : Nat) : (s.sendBroadcast g).oe = s.oe := by
  simp [State.sendBroadcast]
@[simp] theorem State.sendBroadcast_nfu (s : State) (g : Nat) : (s.sendBroadcast g).nfu = s.nfu := by
  simp [State.sendBroadcast]
@[simp] theorem State.sendBroadcast_sck (s : State) (g : Nat) : (s.sendBroadcast g).sck = s.sck := by
  simp [State.sendBroadcast]
set_option Elab.async false in
@[simp] theorem State.sendAsked_pending (s : State) (g : Nat) (asked : Asked) (f : Frame) : (s.sendAsked g asked f).pending = s.pending := by
  simp [State.sendAsked]
@[simp] theorem State.sendAsked_pp (s : State) (g : Nat) (asked : Asked) (f : Frame) : (s.sendAsked g asked f).pp = s.pp := by
  simp [State.sendAsked]
@[simp] theorem State.sendAsked_pt (s : State) (g : Nat) (asked : Asked) (f : Frame) : (s.sendAsked g asked f).pt = s.pt := by
  simp [State.sendAsked]
@[simp] theorem State.sendAsked_ci (s : State) (g : Nat) (asked : Asked) (f : Frame) : (s.sendAsked g asked f).ci = s.ci := by
  simp [State.sendAsked]
@[simp] theorem State.sendAsked_ct (s : State) (g : Nat) (asked : Asked) (f : Frame) : (s.sendAsked g asked f).ct = s.ct := by
  simp [State.sendAsked]
@[simp] theorem State.sendAsked_pu (s : State) (g : Nat) (asked : Asked) (f : Frame) : (s.sendAsked g asked f).pu = s.pu := by
  simp [State.sendAsked]
@[simp] theorem State.sendAsked_tu (s : State) (g : Nat) (asked : Asked) (f : Frame) : (s.sendAsked g asked f).tu = s.tu := by
  simp [State.sendAsked]
@[simp] theorem State.sendAsked_cc (s : State) (g : Nat) (asked : Asked) (f : Frame) : (s.sendAsked g asked f).cc = s.cc := by
  simp [State.sendAsked]
@[simp] theorem State.sendAsked_pq (s : State) (g : Nat) (asked : Asked) (f : Frame) : (s.sendAsked g asked f).pq = s.pq := by
  simp [State.sendAsked]
@[simp] theorem State.sendAsked_oe (s : State) (g : Nat) (asked : Asked) (f : Frame) : (s.sendAsked g asked f).oe = s.oe := by
  simp [State.sendAsked]
@[simp] theorem State.sendAsked_nfu (s : State) (g : Nat) (asked : Asked) (f : Frame) : (s.sendAsked g asked f).nfu = s.nfu := by
  simp [State.sendAsked]
@[simp] theorem State.sendAsked_sck (s : State) (g : Nat) (asked : Asked) (f : Frame) : (s.sendAsked g asked f).sck = s.sck := by
  simp [State.sendAsked]
set_option Elab.async false in
@[simp] theorem State.sendPush_pending (s : State) (g : Nat) : (s.sendPush g).pending = s.pending := by
  unfold State.sendPush; split <;> simp
@[simp] theorem State.sendPush_pp (s : State) (g : Nat) : (s.sendPush g).pp = s.pp := by
  unfold State.sendPush; split <;> simp
@[simp] theorem State.sendPush_pt (s : State) (g : Nat) : (s.sendPush g).pt = s.pt := by
  unfold State.sendPush; split <;> simp
@[simp] theorem State.sendPush_ci (s : State) (g : Nat) : (s.sendPush g).ci = s.ci := by
  unfold State.sendPush; split <;> simp
@[simp] theorem State.sendPush_ct (s : State) (g : Nat) : (s.sendPush g).ct = s.ct := by
  unfold State.sendPush; split <;> simp
@[simp] theorem State.sendPush_pu (s : State) (g : Nat) : (s.sendPush g).pu = s.pu := by
  unfold State.sendPush; split <;> simp
@[simp] theorem State.sendPush_tu (s : State) (g : Nat) : (s.sendPush g).tu = s.tu := by
  unfold State.sendPush; split <;> simp
@[simp] theorem State.sendPush_cc (s : State) (g : Nat) : (s.sendPush g).cc = s.cc := by
  unfold State.sendPush; split <;> simp
@[simp] theorem State.sendPush_pq (s : State) (g : Nat) : (s.sendPush g).pq = s.pq := by
  unfold State.sendPush; split <;> simp
@[simp] theorem State.sendPush_oe (s : State) (g : Nat) : (s.sendPush g).oe = s.oe := by
  unfold State.sendPush; split <;> simp
@[simp] theorem State.sendPush_nfu (s : State) (g : Nat) : (s.sendPush g).nfu = s.nfu := by
  unfold State.sendPush; split <;> simp
@[simp] theorem State.sendPush_sck (s : State) (g : Nat) : (s.sendPush g).sck = s.sck := by
  unfold State.sendPush; split <;> simp
set_option Elab.async false in
@[simp] theorem State.sendFetch_pending (s : State) (g : Nat) : (s.sendFetch g).pending = s.pending := by
  unfold State.sendFetch; split <;> simp
@[simp] theorem State.sendFetch_pp (s : State) (g : Nat) : (s.sendFetch g).pp = s.pp := by
  unfold State.sendFetch; split <;> simp
@[simp] theorem State.sendFetch_pt (s : State) (g : Nat) : (s.sendFetch g).pt = s.pt := by
  unfold State.sendFetch; split <;> simp
@[simp] theorem State.sendFetch_ci (s : State) (g : Nat) : (s.sendFetch g).ci = s.ci := by
  unfold State.sendFetch; split <;> simp
@[simp] theorem State.sendFetch_ct (s : State) (g : Nat) : (s.sendFetch g).ct = s.ct := by
  unfold State.sendFetch; split <;> simp
@[simp] theorem State.sendFetch_pu (s : State) (g : Nat) : (s.sendFetch g).pu = s.pu := by
  unfold State.sendFetch; split <;> simp
@[simp] theorem State.sendFetch_tu (s : State) (g : Nat) : (s.sendFetch g).tu = s.tu := by
  unfold State.sendFetch; split <;> simp
@[simp] theorem State.sendFetch_cc (s : State) (g : Nat) : (s.sendFetch g).cc = s.cc := by
  unfold State.sendFetch; split <;> simp
@[simp] theorem State.sendFetch_pq (s : State) (g : Nat) : (s.sendFetch g).pq = s.pq := by
  unfold State.sendFetch; split <;> simp
@[simp] theorem State.sendFetch_oe (s : State) (g : Nat) : (s.sendFetch g).oe = s.oe := by
  unfold State.sendFetch; split <;> simp
@[simp] theorem State.sendFetch_nfu (s : State) (g : Nat) : (s.sendFetch g).nfu = s.nfu := by
  unfold State.sendFetch; split <;> simp
@[simp] theorem State.sendFetch_sck (s : State) (g : Nat) : (s.sendFetch g).sck = s.sck := by
  unfold State.sendFetch; split <;> simp
set_option Elab.async false in
@[simp] theorem State.sendPoll_pending (s : State) (g : Nat) : (s.sendPoll g).pending = s.pending := by
  unfold State.sendPoll; split <;> simp
@[simp] theorem State.sendPoll_pp (s : State) (g : Nat) : (s.sendPoll g).pp = s.pp := by
  unfold State.sendPoll; split <;> simp
@[simp] theorem State.sendPoll_pt (s : State) (g : Nat) : (s.sendPoll g).pt = s.pt := by
  unfold State.sendPoll; split <;> simp
@[simp] theorem State.sendPoll_ci (s : State) (g : Nat) : (s.sendPoll g).ci = s.ci := by
  unfold State.sendPoll; split <;> simp
@[simp] theorem State.sendPoll_ct (s : State) (g : Nat) : (s.sendPoll g).ct = s.ct := by
  unfold State.sendPoll; split <;> simp
@[simp] theorem State.sendPoll_pu (s : State) (g : Nat) : (s.sendPoll g).pu = s.pu := by
  unfold State.sendPoll; split <;> simp
@[simp] theorem State.sendPoll_tu (s : State) (g : Nat) : (s.sendPoll g).tu = s.tu := by
  unfold State.sendPoll; split <;> simp
@[simp] theorem State.sendPoll_cc (s : State) (g : Nat) : (s.sendPoll g).cc = s.cc := by
  unfold State.sendPoll; split <;> simp
@[simp] theorem State.sendPoll_pq (s : State) (g : Nat) : (s.sendPoll g).pq = s.pq := by
  unfold State.sendPoll; split <;> simp
@[simp] theorem State.sendPoll_oe (s : State) (g : Nat) : (s.sendPoll g).oe = s.oe := by
  unfold State.sendPoll; split <;> simp
@[simp] theorem State.sendPoll_nfu (s : State) (g : Nat) : (s.sendPoll g).nfu = s.nfu := by
  unfold State.sendPoll; split <;> simp
@[simp] theorem State.sendPoll_sck (s : State) (g : Nat) : (s.sendPoll g).sck = s.sck := by
  unfold State.sendPoll; split <;> simp
set_option Elab.async false in
@[simp] theorem State.resendFrame_pending (s : State) (g : Nat) (o : Outstanding) : (s.resendFrame g o).pending = s.pending := by
  unfold State.resendFrame; dsimp only; split <;> simp
@[simp] theorem State.resendFrame_tagCount (s : State) (g : Nat) (o : Outstanding) : (s.resendFrame g o).tagCount = s.tagCount := by
  unfold State.resendFrame; dsimp only; split <;> simp
@[simp] theorem State.resendFrame_pp (s : State) (g : Nat) (o : Outstanding) : (s.resendFrame g o).pp = s.pp := by
  unfold State.resendFrame; dsimp only; split <;> simp
@[simp] theorem State.resendFrame_pt (s : State) (g : Nat) (o : Outstanding) : (s.resendFrame g o).pt = s.pt := by
  unfold State.resendFrame; dsimp only; split <;> simp
@[simp] theorem State.resendFrame_ci (s : State) (g : Nat) (o : Outstanding) : (s.resendFrame g o).ci = s.ci := by
  unfold State.resendFrame; dsimp only; split <;> simp
@[simp] theorem State.resendFrame_ct (s : State) (g : Nat) (o : Outstanding) : (s.resendFrame g o).ct = s.ct := by
  unfold State.resendFrame; dsimp only; split <;> simp
@[simp] theorem State.resendFrame_pu (s : State) (g : Nat) (o : Outstanding) : (s.resendFrame g o).pu = s.pu := by
  unfold State.resendFrame; dsimp only; split <;> simp
@[simp] theorem State.resendFrame_tu (s : State) (g : Nat) (o : Outstanding) : (s.resendFrame g o).tu = s.tu := by
  unfold State.resendFrame; dsimp only; split <;> simp
@[simp] theorem State.resendFrame_cc (s : State) (g : Nat) (o : Outstanding) : (s.resendFrame g o).cc = s.cc := by
  unfold State.resendFrame; dsimp only; split <;> simp
@[simp] theorem State.resendFrame_pq (s : State) (g : Nat) (o : Outstanding) : (s.resendFrame g o).pq = s.pq := by
  unfold State.resendFrame; dsimp only; split <;> simp
@[simp] theorem State.resendFrame_oe (s : State) (g : Nat) (o : Outstanding) : (s.resendFrame g o).oe = s.oe := by
  unfold State.resendFrame; dsimp only; split <;> simp
@[simp] theorem State.resendFrame_nfu (s : State) (g : Nat) (o : Outstanding) : (s.resendFrame g o).nfu = s.nfu := by
  unfold State.resendFrame; dsimp only; split <;> simp
@[simp] theorem State.resendFrame_sck (s : State) (g : Nat) (o : Outstanding) : (s.resendFrame g o).sck = s.sck := by
  unfold State.resendFrame; dsimp only; split <;> simp
set_option Elab.async false in
@[simp] theorem State.timeOut_pending (s : State) (g : Nat) (o : Outstanding) : (s.timeOut g o).pending = s.pending := by
  unfold State.timeOut; dsimp only; (repeat' first | split | dsimp only) <;> simp
@[simp] theorem State.timeOut_tagCount (s : State) (g : Nat) (o : Outstanding) : (s.timeOut g o).tagCount = s.tagCount := by
  unfold State.timeOut; dsimp only; (repeat' first | split | dsimp only) <;> simp
@[simp] theorem State.timeOut_pp (s : State) (g : Nat) (o : Outstanding) : (s.timeOut g o).pp = s.pp := by
  unfold State.timeOut; dsimp only; (repeat' first | split | dsimp only) <;> simp
@[simp] theorem State.timeOut_ci (s : State) (g : Nat) (o : Outstanding) : (s.timeOut g o).ci = s.ci := by
  unfold State.timeOut; dsimp only; (repeat' first | split | dsimp only) <;> simp
@[simp] theorem State.timeOut_ct (s : State) (g : Nat) (o : Outstanding) : (s.timeOut g o).ct = s.ct := by
  unfold State.timeOut; dsimp only; (repeat' first | split | dsimp only) <;> simp
@[simp] theorem State.timeOut_pu_counts (s : State) (g : Nat) (o : Outstanding) : (s.timeOut g o).pu.counts = s.pu.counts := by
  unfold State.timeOut; dsimp only; (repeat' first | split | dsimp only) <;> simp
@[simp] theorem State.timeOut_pu_permitWindow (s : State) (g : Nat) (o : Outstanding) : (s.timeOut g o).pu.permitWindow = s.pu.permitWindow := by
  unfold State.timeOut; dsimp only; (repeat' first | split | dsimp only) <;> simp
@[simp] theorem State.timeOut_pu_deadline (s : State) (g : Nat) (o : Outstanding) : (s.timeOut g o).pu.deadline = s.pu.deadline := by
  unfold State.timeOut; dsimp only; (repeat' first | split | dsimp only) <;> simp
@[simp] theorem State.timeOut_pu_snapshot (s : State) (g : Nat) (o : Outstanding) : (s.timeOut g o).pu.snapshot = s.pu.snapshot := by
  unfold State.timeOut; dsimp only; (repeat' first | split | dsimp only) <;> simp
@[simp] theorem State.timeOut_pu_evidence (s : State) (g : Nat) (o : Outstanding) : (s.timeOut g o).pu.evidence = s.pu.evidence := by
  unfold State.timeOut; dsimp only; (repeat' first | split | dsimp only) <;> simp
@[simp] theorem State.timeOut_tu (s : State) (g : Nat) (o : Outstanding) : (s.timeOut g o).tu = s.tu := by
  unfold State.timeOut; dsimp only; (repeat' first | split | dsimp only) <;> simp
@[simp] theorem State.timeOut_cc (s : State) (g : Nat) (o : Outstanding) : (s.timeOut g o).cc = s.cc := by
  unfold State.timeOut; dsimp only; (repeat' first | split | dsimp only) <;> simp
@[simp] theorem State.timeOut_pq (s : State) (g : Nat) (o : Outstanding) : (s.timeOut g o).pq = s.pq := by
  unfold State.timeOut; dsimp only; (repeat' first | split | dsimp only) <;> simp
@[simp] theorem State.timeOut_oe (s : State) (g : Nat) (o : Outstanding) : (s.timeOut g o).oe = s.oe := by
  unfold State.timeOut; dsimp only; (repeat' first | split | dsimp only) <;> simp
@[simp] theorem State.timeOut_nfu_enables (s : State) (g : Nat) (o : Outstanding) : (s.timeOut g o).nfu.enables = s.nfu.enables := by
  unfold State.timeOut; dsimp only; (repeat' first | split | dsimp only) <;> simp
@[simp] theorem State.timeOut_nfu_masks (s : State) (g : Nat) (o : Outstanding) : (s.timeOut g o).nfu.masks = s.nfu.masks := by
  unfold State.timeOut; dsimp only; (repeat' first | split | dsimp only) <;> simp
@[simp] theorem State.timeOut_nfu_severe (s : State) (g : Nat) (o : Outstanding) : (s.timeOut g o).nfu.severe = s.nfu.severe := by
  unfold State.timeOut; dsimp only; (repeat' first | split | dsimp only) <;> simp
@[simp] theorem State.timeOut_nfu_refusalRecord (s : State) (g : Nat) (o : Outstanding) : (s.timeOut g o).nfu.refusalRecord = s.nfu.refusalRecord := by
  unfold State.timeOut; dsimp only; (repeat' first | split | dsimp only) <;> simp
@[simp] theorem State.timeOut_nfu_refusalNotice (s : State) (g : Nat) (o : Outstanding) : (s.timeOut g o).nfu.refusalNotice = s.nfu.refusalNotice := by
  unfold State.timeOut; dsimp only; (repeat' first | split | dsimp only) <;> simp
@[simp] theorem State.timeOut_sck (s : State) (g : Nat) (o : Outstanding) : (s.timeOut g o).sck = s.sck := by
  unfold State.timeOut; dsimp only; (repeat' first | split | dsimp only) <;> simp
set_option Elab.async false in
@[simp] theorem State.endWait_pending (s : State) (g : Nat) : (s.endWait g).pending = s.pending := by
  unfold State.endWait; (repeat' first | split | dsimp only) <;> simp
@[simp] theorem State.endWait_tagCount (s : State) (g : Nat) : (s.endWait g).tagCount = s.tagCount := by
  unfold State.endWait; (repeat' first | split | dsimp only) <;> simp
@[simp] theorem State.endWait_pp (s : State) (g : Nat) : (s.endWait g).pp = s.pp := by
  unfold State.endWait; (repeat' first | split | dsimp only) <;> simp
@[simp] theorem State.endWait_ci (s : State) (g : Nat) : (s.endWait g).ci = s.ci := by
  unfold State.endWait; (repeat' first | split | dsimp only) <;> simp
@[simp] theorem State.endWait_ct (s : State) (g : Nat) : (s.endWait g).ct = s.ct := by
  unfold State.endWait; (repeat' first | split | dsimp only) <;> simp
@[simp] theorem State.endWait_pu_counts (s : State) (g : Nat) : (s.endWait g).pu.counts = s.pu.counts := by
  unfold State.endWait; (repeat' first | split | dsimp only) <;> simp
@[simp] theorem State.endWait_pu_permitWindow (s : State) (g : Nat) : (s.endWait g).pu.permitWindow = s.pu.permitWindow := by
  unfold State.endWait; (repeat' first | split | dsimp only) <;> simp
@[simp] theorem State.endWait_pu_deadline (s : State) (g : Nat) : (s.endWait g).pu.deadline = s.pu.deadline := by
  unfold State.endWait; (repeat' first | split | dsimp only) <;> simp
@[simp] theorem State.endWait_pu_snapshot (s : State) (g : Nat) : (s.endWait g).pu.snapshot = s.pu.snapshot := by
  unfold State.endWait; (repeat' first | split | dsimp only) <;> simp
@[simp] theorem State.endWait_pu_evidence (s : State) (g : Nat) : (s.endWait g).pu.evidence = s.pu.evidence := by
  unfold State.endWait; (repeat' first | split | dsimp only) <;> simp
@[simp] theorem State.endWait_tu (s : State) (g : Nat) : (s.endWait g).tu = s.tu := by
  unfold State.endWait; (repeat' first | split | dsimp only) <;> simp
@[simp] theorem State.endWait_cc (s : State) (g : Nat) : (s.endWait g).cc = s.cc := by
  unfold State.endWait; (repeat' first | split | dsimp only) <;> simp
@[simp] theorem State.endWait_pq (s : State) (g : Nat) : (s.endWait g).pq = s.pq := by
  unfold State.endWait; (repeat' first | split | dsimp only) <;> simp
@[simp] theorem State.endWait_oe (s : State) (g : Nat) : (s.endWait g).oe = s.oe := by
  unfold State.endWait; (repeat' first | split | dsimp only) <;> simp
@[simp] theorem State.endWait_nfu_enables (s : State) (g : Nat) : (s.endWait g).nfu.enables = s.nfu.enables := by
  unfold State.endWait; (repeat' first | split | dsimp only) <;> simp
@[simp] theorem State.endWait_nfu_masks (s : State) (g : Nat) : (s.endWait g).nfu.masks = s.nfu.masks := by
  unfold State.endWait; (repeat' first | split | dsimp only) <;> simp
@[simp] theorem State.endWait_nfu_severe (s : State) (g : Nat) : (s.endWait g).nfu.severe = s.nfu.severe := by
  unfold State.endWait; (repeat' first | split | dsimp only) <;> simp
@[simp] theorem State.endWait_nfu_refusalRecord (s : State) (g : Nat) : (s.endWait g).nfu.refusalRecord = s.nfu.refusalRecord := by
  unfold State.endWait; (repeat' first | split | dsimp only) <;> simp
@[simp] theorem State.endWait_nfu_refusalNotice (s : State) (g : Nat) : (s.endWait g).nfu.refusalNotice = s.nfu.refusalNotice := by
  unfold State.endWait; (repeat' first | split | dsimp only) <;> simp
@[simp] theorem State.endWait_sck (s : State) (g : Nat) : (s.endWait g).sck = s.sck := by
  unfold State.endWait; (repeat' first | split | dsimp only) <;> simp
set_option Elab.async false in
@[simp] theorem State.sendHeldBack_pending (s : State) (g : Nat) : (s.sendHeldBack g).pending = s.pending := by
  unfold State.sendHeldBack; split <;> simp
@[simp] theorem State.sendHeldBack_tagCount (s : State) (g : Nat) : (s.sendHeldBack g).tagCount = s.tagCount := by
  unfold State.sendHeldBack; split <;> simp
@[simp] theorem State.sendHeldBack_pp (s : State) (g : Nat) : (s.sendHeldBack g).pp = s.pp := by
  unfold State.sendHeldBack; split <;> simp
@[simp] theorem State.sendHeldBack_pt (s : State) (g : Nat) : (s.sendHeldBack g).pt = s.pt := by
  unfold State.sendHeldBack; split <;> simp
@[simp] theorem State.sendHeldBack_ci (s : State) (g : Nat) : (s.sendHeldBack g).ci = s.ci := by
  unfold State.sendHeldBack; split <;> simp
@[simp] theorem State.sendHeldBack_ct (s : State) (g : Nat) : (s.sendHeldBack g).ct = s.ct := by
  unfold State.sendHeldBack; split <;> simp
@[simp] theorem State.sendHeldBack_pu (s : State) (g : Nat) : (s.sendHeldBack g).pu = s.pu := by
  unfold State.sendHeldBack; split <;> simp
@[simp] theorem State.sendHeldBack_tu (s : State) (g : Nat) : (s.sendHeldBack g).tu = s.tu := by
  unfold State.sendHeldBack; split <;> simp
@[simp] theorem State.sendHeldBack_cc (s : State) (g : Nat) : (s.sendHeldBack g).cc = s.cc := by
  unfold State.sendHeldBack; split <;> simp
@[simp] theorem State.sendHeldBack_pq (s : State) (g : Nat) : (s.sendHeldBack g).pq = s.pq := by
  unfold State.sendHeldBack; split <;> simp
@[simp] theorem State.sendHeldBack_oe (s : State) (g : Nat) : (s.sendHeldBack g).oe = s.oe := by
  unfold State.sendHeldBack; split <;> simp
@[simp] theorem State.sendHeldBack_nfu (s : State) (g : Nat) : (s.sendHeldBack g).nfu = s.nfu := by
  unfold State.sendHeldBack; split <;> simp
@[simp] theorem State.sendHeldBack_sck (s : State) (g : Nat) : (s.sendHeldBack g).sck = s.sck := by
  unfold State.sendHeldBack; split <;> simp
set_option Elab.async false in
@[simp] theorem State.raiseGen_pending (s : State) (c floor : Nat) : (s.raiseGen c floor).pending = s.pending := by
  unfold State.raiseGen; dsimp only; split <;> simp
@[simp] theorem State.raiseGen_tagCount (s : State) (c floor : Nat) : (s.raiseGen c floor).tagCount = s.tagCount := by
  unfold State.raiseGen; dsimp only; split <;> simp
@[simp] theorem State.raiseGen_pp (s : State) (c floor : Nat) : (s.raiseGen c floor).pp = s.pp := by
  unfold State.raiseGen; dsimp only; split <;> simp
@[simp] theorem State.raiseGen_lk (s : State) (c floor : Nat) : (s.raiseGen c floor).lk = s.lk := by
  unfold State.raiseGen; dsimp only; split <;> simp
@[simp] theorem State.raiseGen_ci (s : State) (c floor : Nat) : (s.raiseGen c floor).ci = s.ci := by
  unfold State.raiseGen; dsimp only; split <;> simp
@[simp] theorem State.raiseGen_pu (s : State) (c floor : Nat) : (s.raiseGen c floor).pu = s.pu := by
  unfold State.raiseGen; dsimp only; split <;> simp
@[simp] theorem State.raiseGen_sc (s : State) (c floor : Nat) : (s.raiseGen c floor).sc = s.sc := by
  unfold State.raiseGen; dsimp only; split <;> simp
@[simp] theorem State.raiseGen_tu (s : State) (c floor : Nat) : (s.raiseGen c floor).tu = s.tu := by
  unfold State.raiseGen; dsimp only; split <;> simp
@[simp] theorem State.raiseGen_cc (s : State) (c floor : Nat) : (s.raiseGen c floor).cc = s.cc := by
  unfold State.raiseGen; dsimp only; split <;> simp
@[simp] theorem State.raiseGen_pq (s : State) (c floor : Nat) : (s.raiseGen c floor).pq = s.pq := by
  unfold State.raiseGen; dsimp only; split <;> simp
@[simp] theorem State.raiseGen_oe (s : State) (c floor : Nat) : (s.raiseGen c floor).oe = s.oe := by
  unfold State.raiseGen; dsimp only; split <;> simp
@[simp] theorem State.raiseGen_nfu (s : State) (c floor : Nat) : (s.raiseGen c floor).nfu = s.nfu := by
  unfold State.raiseGen; dsimp only; split <;> simp
@[simp] theorem State.raiseGen_sck (s : State) (c floor : Nat) : (s.raiseGen c floor).sck = s.sck := by
  unfold State.raiseGen; dsimp only; split <;> simp
set_option Elab.async false in
@[simp] theorem State.takeFloor_pending (s : State) (g st : Nat) (kind : LockKind) (floor : Nat) : (s.takeFloor g st kind floor).pending = s.pending := by
  unfold State.takeFloor; dsimp only; split <;> simp
@[simp] theorem State.takeFloor_tagCount (s : State) (g st : Nat) (kind : LockKind) (floor : Nat) : (s.takeFloor g st kind floor).tagCount = s.tagCount := by
  unfold State.takeFloor; dsimp only; split <;> simp
@[simp] theorem State.takeFloor_pp (s : State) (g st : Nat) (kind : LockKind) (floor : Nat) : (s.takeFloor g st kind floor).pp = s.pp := by
  unfold State.takeFloor; dsimp only; split <;> simp
@[simp] theorem State.takeFloor_lk (s : State) (g st : Nat) (kind : LockKind) (floor : Nat) : (s.takeFloor g st kind floor).lk = s.lk := by
  unfold State.takeFloor; dsimp only; split <;> simp
@[simp] theorem State.takeFloor_ci (s : State) (g st : Nat) (kind : LockKind) (floor : Nat) : (s.takeFloor g st kind floor).ci = s.ci := by
  unfold State.takeFloor; dsimp only; split <;> simp
@[simp] theorem State.takeFloor_pu (s : State) (g st : Nat) (kind : LockKind) (floor : Nat) : (s.takeFloor g st kind floor).pu = s.pu := by
  unfold State.takeFloor; dsimp only; split <;> simp
@[simp] theorem State.takeFloor_tu (s : State) (g st : Nat) (kind : LockKind) (floor : Nat) : (s.takeFloor g st kind floor).tu = s.tu := by
  unfold State.takeFloor; dsimp only; split <;> simp
@[simp] theorem State.takeFloor_cc (s : State) (g st : Nat) (kind : LockKind) (floor : Nat) : (s.takeFloor g st kind floor).cc = s.cc := by
  unfold State.takeFloor; dsimp only; split <;> simp
@[simp] theorem State.takeFloor_pq (s : State) (g st : Nat) (kind : LockKind) (floor : Nat) : (s.takeFloor g st kind floor).pq = s.pq := by
  unfold State.takeFloor; dsimp only; split <;> simp
@[simp] theorem State.takeFloor_oe (s : State) (g st : Nat) (kind : LockKind) (floor : Nat) : (s.takeFloor g st kind floor).oe = s.oe := by
  unfold State.takeFloor; dsimp only; split <;> simp
@[simp] theorem State.takeFloor_nfu (s : State) (g st : Nat) (kind : LockKind) (floor : Nat) : (s.takeFloor g st kind floor).nfu = s.nfu := by
  unfold State.takeFloor; dsimp only; split <;> simp
@[simp] theorem State.takeFloor_sck (s : State) (g st : Nat) (kind : LockKind) (floor : Nat) : (s.takeFloor g st kind floor).sck = s.sck := by
  unfold State.takeFloor; dsimp only; split <;> simp
set_option Elab.async false in
@[simp] theorem State.takePollReply_pending (s : State) (g st : Nat) (k : Lock) (r : PollReport) : (s.takePollReply g st k r).pending = s.pending := by
  unfold State.takePollReply; dsimp only; split <;> simp
@[simp] theorem State.takePollReply_tagCount (s : State) (g st : Nat) (k : Lock) (r : PollReport) : (s.takePollReply g st k r).tagCount = s.tagCount := by
  unfold State.takePollReply; dsimp only; split <;> simp
@[simp] theorem State.takePollReply_pp (s : State) (g st : Nat) (k : Lock) (r : PollReport) : (s.takePollReply g st k r).pp = s.pp := by
  unfold State.takePollReply; dsimp only; split <;> simp
@[simp] theorem State.takePollReply_lk (s : State) (g st : Nat) (k : Lock) (r : PollReport) : (s.takePollReply g st k r).lk = s.lk := by
  unfold State.takePollReply; dsimp only; split <;> simp
@[simp] theorem State.takePollReply_ci (s : State) (g st : Nat) (k : Lock) (r : PollReport) : (s.takePollReply g st k r).ci = s.ci := by
  unfold State.takePollReply; dsimp only; split <;> simp
@[simp] theorem State.takePollReply_pu (s : State) (g st : Nat) (k : Lock) (r : PollReport) : (s.takePollReply g st k r).pu = s.pu := by
  unfold State.takePollReply; dsimp only; split <;> simp
@[simp] theorem State.takePollReply_tu (s : State) (g st : Nat) (k : Lock) (r : PollReport) : (s.takePollReply g st k r).tu = s.tu := by
  unfold State.takePollReply; dsimp only; split <;> simp
@[simp] theorem State.takePollReply_cc (s : State) (g st : Nat) (k : Lock) (r : PollReport) : (s.takePollReply g st k r).cc = s.cc := by
  unfold State.takePollReply; dsimp only; split <;> simp
@[simp] theorem State.takePollReply_pq (s : State) (g st : Nat) (k : Lock) (r : PollReport) : (s.takePollReply g st k r).pq = s.pq := by
  unfold State.takePollReply; dsimp only; split <;> simp
@[simp] theorem State.takePollReply_oe (s : State) (g st : Nat) (k : Lock) (r : PollReport) : (s.takePollReply g st k r).oe = s.oe := by
  unfold State.takePollReply; dsimp only; split <;> simp
@[simp] theorem State.takePollReply_nfu_enables (s : State) (g st : Nat) (k : Lock) (r : PollReport) : (s.takePollReply g st k r).nfu.enables = s.nfu.enables := by
  unfold State.takePollReply; dsimp only; split <;> simp
@[simp] theorem State.takePollReply_nfu_status (s : State) (g st : Nat) (k : Lock) (r : PollReport) : (s.takePollReply g st k r).nfu.status = s.nfu.status := by
  unfold State.takePollReply; dsimp only; split <;> simp
@[simp] theorem State.takePollReply_nfu_masks (s : State) (g st : Nat) (k : Lock) (r : PollReport) : (s.takePollReply g st k r).nfu.masks = s.nfu.masks := by
  unfold State.takePollReply; dsimp only; split <;> simp
@[simp] theorem State.takePollReply_nfu_severe (s : State) (g st : Nat) (k : Lock) (r : PollReport) : (s.takePollReply g st k r).nfu.severe = s.nfu.severe := by
  unfold State.takePollReply; dsimp only; split <;> simp
@[simp] theorem State.takePollReply_nfu_first (s : State) (g st : Nat) (k : Lock) (r : PollReport) : (s.takePollReply g st k r).nfu.first = s.nfu.first := by
  unfold State.takePollReply; dsimp only; split <;> simp
@[simp] theorem State.takePollReply_nfu_refusalRecord (s : State) (g st : Nat) (k : Lock) (r : PollReport) : (s.takePollReply g st k r).nfu.refusalRecord = s.nfu.refusalRecord := by
  unfold State.takePollReply; dsimp only; split <;> simp
@[simp] theorem State.takePollReply_nfu_refusalNotice (s : State) (g st : Nat) (k : Lock) (r : PollReport) : (s.takePollReply g st k r).nfu.refusalNotice = s.nfu.refusalNotice := by
  unfold State.takePollReply; dsimp only; split <;> simp
@[simp] theorem State.takePollReply_sck (s : State) (g st : Nat) (k : Lock) (r : PollReport) : (s.takePollReply g st k r).sck = s.sck := by
  unfold State.takePollReply; dsimp only; split <;> simp
set_option Elab.async false in
@[simp] theorem State.takePushAck_pending (s : State) (g st : Nat) (k : Lock) (floor : Nat) : (s.takePushAck g st k floor).pending = s.pending := by
  unfold State.takePushAck; dsimp only; split <;> simp
@[simp] theorem State.takePushAck_tagCount (s : State) (g st : Nat) (k : Lock) (floor : Nat) : (s.takePushAck g st k floor).tagCount = s.tagCount := by
  unfold State.takePushAck; dsimp only; split <;> simp
@[simp] theorem State.takePushAck_pp (s : State) (g st : Nat) (k : Lock) (floor : Nat) : (s.takePushAck g st k floor).pp = s.pp := by
  unfold State.takePushAck; dsimp only; split <;> simp
@[simp] theorem State.takePushAck_lk (s : State) (g st : Nat) (k : Lock) (floor : Nat) : (s.takePushAck g st k floor).lk = s.lk := by
  unfold State.takePushAck; dsimp only; split <;> simp
@[simp] theorem State.takePushAck_ci (s : State) (g st : Nat) (k : Lock) (floor : Nat) : (s.takePushAck g st k floor).ci = s.ci := by
  unfold State.takePushAck; dsimp only; split <;> simp
@[simp] theorem State.takePushAck_pu (s : State) (g st : Nat) (k : Lock) (floor : Nat) : (s.takePushAck g st k floor).pu = s.pu := by
  unfold State.takePushAck; dsimp only; split <;> simp
@[simp] theorem State.takePushAck_tu (s : State) (g st : Nat) (k : Lock) (floor : Nat) : (s.takePushAck g st k floor).tu = s.tu := by
  unfold State.takePushAck; dsimp only; split <;> simp
@[simp] theorem State.takePushAck_cc (s : State) (g st : Nat) (k : Lock) (floor : Nat) : (s.takePushAck g st k floor).cc = s.cc := by
  unfold State.takePushAck; dsimp only; split <;> simp
@[simp] theorem State.takePushAck_pq (s : State) (g st : Nat) (k : Lock) (floor : Nat) : (s.takePushAck g st k floor).pq = s.pq := by
  unfold State.takePushAck; dsimp only; split <;> simp
@[simp] theorem State.takePushAck_oe (s : State) (g st : Nat) (k : Lock) (floor : Nat) : (s.takePushAck g st k floor).oe = s.oe := by
  unfold State.takePushAck; dsimp only; split <;> simp
@[simp] theorem State.takePushAck_nfu (s : State) (g st : Nat) (k : Lock) (floor : Nat) : (s.takePushAck g st k floor).nfu = s.nfu := by
  unfold State.takePushAck; dsimp only; split <;> simp
@[simp] theorem State.takePushAck_sck (s : State) (g st : Nat) (k : Lock) (floor : Nat) : (s.takePushAck g st k floor).sck = s.sck := by
  unfold State.takePushAck; dsimp only; split <;> simp
set_option Elab.async false in
@[simp] theorem State.takeLogReply_pending (s : State) (g st : Nat) (r : LogReport) : (s.takeLogReply g st r).pending = s.pending := by
  unfold State.takeLogReply; dsimp only; split <;> split <;> simp
@[simp] theorem State.takeLogReply_tagCount (s : State) (g st : Nat) (r : LogReport) : (s.takeLogReply g st r).tagCount = s.tagCount := by
  unfold State.takeLogReply; dsimp only; split <;> split <;> simp
@[simp] theorem State.takeLogReply_pp (s : State) (g st : Nat) (r : LogReport) : (s.takeLogReply g st r).pp = s.pp := by
  unfold State.takeLogReply; dsimp only; split <;> split <;> simp
@[simp] theorem State.takeLogReply_lk (s : State) (g st : Nat) (r : LogReport) : (s.takeLogReply g st r).lk = s.lk := by
  unfold State.takeLogReply; dsimp only; split <;> split <;> simp
@[simp] theorem State.takeLogReply_pt (s : State) (g st : Nat) (r : LogReport) : (s.takeLogReply g st r).pt = s.pt := by
  unfold State.takeLogReply; dsimp only; split <;> split <;> simp
@[simp] theorem State.takeLogReply_ci (s : State) (g st : Nat) (r : LogReport) : (s.takeLogReply g st r).ci = s.ci := by
  unfold State.takeLogReply; dsimp only; split <;> split <;> simp
@[simp] theorem State.takeLogReply_ct (s : State) (g st : Nat) (r : LogReport) : (s.takeLogReply g st r).ct = s.ct := by
  unfold State.takeLogReply; dsimp only; split <;> split <;> simp
@[simp] theorem State.takeLogReply_pu_counts (s : State) (g st : Nat) (r : LogReport) : (s.takeLogReply g st r).pu.counts = s.pu.counts := by
  unfold State.takeLogReply; dsimp only; split <;> split <;> simp
@[simp] theorem State.takeLogReply_pu_lanes (s : State) (g st : Nat) (r : LogReport) : (s.takeLogReply g st r).pu.lanes = s.pu.lanes := by
  unfold State.takeLogReply; dsimp only; split <;> split <;> simp
@[simp] theorem State.takeLogReply_pu_permitWindow (s : State) (g st : Nat) (r : LogReport) : (s.takeLogReply g st r).pu.permitWindow = s.pu.permitWindow := by
  unfold State.takeLogReply; dsimp only; split <;> split <;> simp
@[simp] theorem State.takeLogReply_pu_deadline (s : State) (g st : Nat) (r : LogReport) : (s.takeLogReply g st r).pu.deadline = s.pu.deadline := by
  unfold State.takeLogReply; dsimp only; split <;> split <;> simp
@[simp] theorem State.takeLogReply_pu_snapshot (s : State) (g st : Nat) (r : LogReport) : (s.takeLogReply g st r).pu.snapshot = s.pu.snapshot := by
  unfold State.takeLogReply; dsimp only; split <;> split <;> simp
@[simp] theorem State.takeLogReply_tu (s : State) (g st : Nat) (r : LogReport) : (s.takeLogReply g st r).tu = s.tu := by
  unfold State.takeLogReply; dsimp only; split <;> split <;> simp
@[simp] theorem State.takeLogReply_cc (s : State) (g st : Nat) (r : LogReport) : (s.takeLogReply g st r).cc = s.cc := by
  unfold State.takeLogReply; dsimp only; split <;> split <;> simp
@[simp] theorem State.takeLogReply_pq_unposted (s : State) (g st : Nat) (r : LogReport) : (s.takeLogReply g st r).pq.unposted = s.pq.unposted := by
  unfold State.takeLogReply; dsimp only; split <;> split <;> simp
@[simp] theorem State.takeLogReply_oe (s : State) (g st : Nat) (r : LogReport) : (s.takeLogReply g st r).oe = s.oe := by
  unfold State.takeLogReply; dsimp only; split <;> split <;> simp
@[simp] theorem State.takeLogReply_nfu_enables (s : State) (g st : Nat) (r : LogReport) : (s.takeLogReply g st r).nfu.enables = s.nfu.enables := by
  unfold State.takeLogReply; dsimp only; split <;> split <;> simp
@[simp] theorem State.takeLogReply_nfu_status (s : State) (g st : Nat) (r : LogReport) : (s.takeLogReply g st r).nfu.status = s.nfu.status := by
  unfold State.takeLogReply; dsimp only; split <;> split <;> simp
@[simp] theorem State.takeLogReply_nfu_masks (s : State) (g st : Nat) (r : LogReport) : (s.takeLogReply g st r).nfu.masks = s.nfu.masks := by
  unfold State.takeLogReply; dsimp only; split <;> split <;> simp
@[simp] theorem State.takeLogReply_nfu_severe (s : State) (g st : Nat) (r : LogReport) : (s.takeLogReply g st r).nfu.severe = s.nfu.severe := by
  unfold State.takeLogReply; dsimp only; split <;> split <;> simp
@[simp] theorem State.takeLogReply_nfu_first (s : State) (g st : Nat) (r : LogReport) : (s.takeLogReply g st r).nfu.first = s.nfu.first := by
  unfold State.takeLogReply; dsimp only; split <;> split <;> simp
@[simp] theorem State.takeLogReply_nfu_refusalRecord (s : State) (g st : Nat) (r : LogReport) : (s.takeLogReply g st r).nfu.refusalRecord = s.nfu.refusalRecord := by
  unfold State.takeLogReply; dsimp only; split <;> split <;> simp
@[simp] theorem State.takeLogReply_nfu_refusalNotice (s : State) (g st : Nat) (r : LogReport) : (s.takeLogReply g st r).nfu.refusalNotice = s.nfu.refusalNotice := by
  unfold State.takeLogReply; dsimp only; split <;> split <;> simp
@[simp] theorem State.takeLogReply_sck (s : State) (g st : Nat) (r : LogReport) : (s.takeLogReply g st r).sck = s.sck := by
  unfold State.takeLogReply; dsimp only; split <;> split <;> simp
set_option Elab.async false in
@[simp] theorem State.endMeasure_pending (s : State) (g : Nat) : (s.endMeasure g).pending = s.pending := by
  unfold State.endMeasure; dsimp only; split <;> simp
@[simp] theorem State.endMeasure_pp (s : State) (g : Nat) : (s.endMeasure g).pp = s.pp := by
  unfold State.endMeasure; dsimp only; split <;> simp
@[simp] theorem State.endMeasure_pt (s : State) (g : Nat) : (s.endMeasure g).pt = s.pt := by
  unfold State.endMeasure; dsimp only; split <;> simp
@[simp] theorem State.endMeasure_ci (s : State) (g : Nat) : (s.endMeasure g).ci = s.ci := by
  unfold State.endMeasure; dsimp only; split <;> simp
@[simp] theorem State.endMeasure_ct (s : State) (g : Nat) : (s.endMeasure g).ct = s.ct := by
  unfold State.endMeasure; dsimp only; split <;> simp
@[simp] theorem State.endMeasure_pu (s : State) (g : Nat) : (s.endMeasure g).pu = s.pu := by
  unfold State.endMeasure; dsimp only; split <;> simp
@[simp] theorem State.endMeasure_tu (s : State) (g : Nat) : (s.endMeasure g).tu = s.tu := by
  unfold State.endMeasure; dsimp only; split <;> simp
@[simp] theorem State.endMeasure_cc (s : State) (g : Nat) : (s.endMeasure g).cc = s.cc := by
  unfold State.endMeasure; dsimp only; split <;> simp
@[simp] theorem State.endMeasure_pq (s : State) (g : Nat) : (s.endMeasure g).pq = s.pq := by
  unfold State.endMeasure; dsimp only; split <;> simp
@[simp] theorem State.endMeasure_oe (s : State) (g : Nat) : (s.endMeasure g).oe = s.oe := by
  unfold State.endMeasure; dsimp only; split <;> simp
@[simp] theorem State.endMeasure_nfu_enables (s : State) (g : Nat) : (s.endMeasure g).nfu.enables = s.nfu.enables := by
  unfold State.endMeasure; dsimp only; split <;> simp
@[simp] theorem State.endMeasure_nfu_status (s : State) (g : Nat) : (s.endMeasure g).nfu.status = s.nfu.status := by
  unfold State.endMeasure; dsimp only; split <;> simp
@[simp] theorem State.endMeasure_nfu_masks (s : State) (g : Nat) : (s.endMeasure g).nfu.masks = s.nfu.masks := by
  unfold State.endMeasure; dsimp only; split <;> simp
@[simp] theorem State.endMeasure_nfu_severe (s : State) (g : Nat) : (s.endMeasure g).nfu.severe = s.nfu.severe := by
  unfold State.endMeasure; dsimp only; split <;> simp
@[simp] theorem State.endMeasure_nfu_first (s : State) (g : Nat) : (s.endMeasure g).nfu.first = s.nfu.first := by
  unfold State.endMeasure; dsimp only; split <;> simp
@[simp] theorem State.endMeasure_nfu_refusalRecord (s : State) (g : Nat) : (s.endMeasure g).nfu.refusalRecord = s.nfu.refusalRecord := by
  unfold State.endMeasure; dsimp only; split <;> simp
@[simp] theorem State.endMeasure_nfu_refusalNotice (s : State) (g : Nat) : (s.endMeasure g).nfu.refusalNotice = s.nfu.refusalNotice := by
  unfold State.endMeasure; dsimp only; split <;> simp
@[simp] theorem State.endMeasure_sck (s : State) (g : Nat) : (s.endMeasure g).sck = s.sck := by
  unfold State.endMeasure; dsimp only; split <;> simp
set_option Elab.async false in
@[simp] theorem State.sendTrain_pending (s : State) (n : Nat) : (s.sendTrain n).pending = s.pending := by
  simp [State.sendTrain]
@[simp] theorem State.sendTrain_pp (s : State) (n : Nat) : (s.sendTrain n).pp = s.pp := by
  simp [State.sendTrain]
@[simp] theorem State.sendTrain_pt (s : State) (n : Nat) : (s.sendTrain n).pt = s.pt := by
  simp [State.sendTrain]
@[simp] theorem State.sendTrain_ci (s : State) (n : Nat) : (s.sendTrain n).ci = s.ci := by
  simp [State.sendTrain]
@[simp] theorem State.sendTrain_ct (s : State) (n : Nat) : (s.sendTrain n).ct = s.ct := by
  simp [State.sendTrain]
@[simp] theorem State.sendTrain_pu (s : State) (n : Nat) : (s.sendTrain n).pu = s.pu := by
  simp [State.sendTrain]
@[simp] theorem State.sendTrain_sc (s : State) (n : Nat) : (s.sendTrain n).sc = s.sc := by
  simp [State.sendTrain]
@[simp] theorem State.sendTrain_tu (s : State) (n : Nat) : (s.sendTrain n).tu = s.tu := by
  simp [State.sendTrain]
@[simp] theorem State.sendTrain_cc (s : State) (n : Nat) : (s.sendTrain n).cc = s.cc := by
  simp [State.sendTrain]
@[simp] theorem State.sendTrain_pq (s : State) (n : Nat) : (s.sendTrain n).pq = s.pq := by
  simp [State.sendTrain]
@[simp] theorem State.sendTrain_oe (s : State) (n : Nat) : (s.sendTrain n).oe = s.oe := by
  simp [State.sendTrain]
@[simp] theorem State.sendTrain_nfu (s : State) (n : Nat) : (s.sendTrain n).nfu = s.nfu := by
  simp [State.sendTrain]
@[simp] theorem State.sendTrain_sck (s : State) (n : Nat) : (s.sendTrain n).sck = s.sck := by
  simp [State.sendTrain]
set_option Elab.async false in
@[simp] theorem State.endAttempt_pending (s : State) (n : Nat) : (s.endAttempt n).pending = s.pending := by
  unfold State.endAttempt; split <;> simp
@[simp] theorem State.endAttempt_tagCount (s : State) (n : Nat) : (s.endAttempt n).tagCount = s.tagCount := by
  unfold State.endAttempt; split <;> simp
@[simp] theorem State.endAttempt_pp (s : State) (n : Nat) : (s.endAttempt n).pp = s.pp := by
  unfold State.endAttempt; split <;> simp
@[simp] theorem State.endAttempt_ci (s : State) (n : Nat) : (s.endAttempt n).ci = s.ci := by
  unfold State.endAttempt; split <;> simp
@[simp] theorem State.endAttempt_ct (s : State) (n : Nat) : (s.endAttempt n).ct = s.ct := by
  unfold State.endAttempt; split <;> simp
@[simp] theorem State.endAttempt_pu_counts (s : State) (n : Nat) : (s.endAttempt n).pu.counts = s.pu.counts := by
  unfold State.endAttempt; split <;> simp
@[simp] theorem State.endAttempt_pu_permitWindow (s : State) (n : Nat) : (s.endAttempt n).pu.permitWindow = s.pu.permitWindow := by
  unfold State.endAttempt; split <;> simp
@[simp] theorem State.endAttempt_pu_deadline (s : State) (n : Nat) : (s.endAttempt n).pu.deadline = s.pu.deadline := by
  unfold State.endAttempt; split <;> simp
@[simp] theorem State.endAttempt_pu_snapshot (s : State) (n : Nat) : (s.endAttempt n).pu.snapshot = s.pu.snapshot := by
  unfold State.endAttempt; split <;> simp
@[simp] theorem State.endAttempt_pu_evidence (s : State) (n : Nat) : (s.endAttempt n).pu.evidence = s.pu.evidence := by
  unfold State.endAttempt; split <;> simp
@[simp] theorem State.endAttempt_tu (s : State) (n : Nat) : (s.endAttempt n).tu = s.tu := by
  unfold State.endAttempt; split <;> simp
@[simp] theorem State.endAttempt_cc (s : State) (n : Nat) : (s.endAttempt n).cc = s.cc := by
  unfold State.endAttempt; split <;> simp
@[simp] theorem State.endAttempt_pq (s : State) (n : Nat) : (s.endAttempt n).pq = s.pq := by
  unfold State.endAttempt; split <;> simp
@[simp] theorem State.endAttempt_oe (s : State) (n : Nat) : (s.endAttempt n).oe = s.oe := by
  unfold State.endAttempt; split <;> simp
@[simp] theorem State.endAttempt_nfu_enables (s : State) (n : Nat) : (s.endAttempt n).nfu.enables = s.nfu.enables := by
  unfold State.endAttempt; split <;> simp
@[simp] theorem State.endAttempt_nfu_masks (s : State) (n : Nat) : (s.endAttempt n).nfu.masks = s.nfu.masks := by
  unfold State.endAttempt; split <;> simp
@[simp] theorem State.endAttempt_nfu_severe (s : State) (n : Nat) : (s.endAttempt n).nfu.severe = s.nfu.severe := by
  unfold State.endAttempt; split <;> simp
@[simp] theorem State.endAttempt_nfu_refusalRecord (s : State) (n : Nat) : (s.endAttempt n).nfu.refusalRecord = s.nfu.refusalRecord := by
  unfold State.endAttempt; split <;> simp
@[simp] theorem State.endAttempt_nfu_refusalNotice (s : State) (n : Nat) : (s.endAttempt n).nfu.refusalNotice = s.nfu.refusalNotice := by
  unfold State.endAttempt; split <;> simp
@[simp] theorem State.endAttempt_sck (s : State) (n : Nat) : (s.endAttempt n).sck = s.sck := by
  unfold State.endAttempt; split <;> simp
set_option Elab.async false in
@[simp] theorem State.sendKeepAlive_pending (s : State) (n : Nat) : (s.sendKeepAlive n).pending = s.pending := by
  simp [State.sendKeepAlive]
@[simp] theorem State.sendKeepAlive_pp (s : State) (n : Nat) : (s.sendKeepAlive n).pp = s.pp := by
  simp [State.sendKeepAlive]
@[simp] theorem State.sendKeepAlive_pt (s : State) (n : Nat) : (s.sendKeepAlive n).pt = s.pt := by
  simp [State.sendKeepAlive]
@[simp] theorem State.sendKeepAlive_ci (s : State) (n : Nat) : (s.sendKeepAlive n).ci = s.ci := by
  simp [State.sendKeepAlive]
@[simp] theorem State.sendKeepAlive_ct (s : State) (n : Nat) : (s.sendKeepAlive n).ct = s.ct := by
  simp [State.sendKeepAlive]
@[simp] theorem State.sendKeepAlive_pu (s : State) (n : Nat) : (s.sendKeepAlive n).pu = s.pu := by
  simp [State.sendKeepAlive]
@[simp] theorem State.sendKeepAlive_sc (s : State) (n : Nat) : (s.sendKeepAlive n).sc = s.sc := by
  simp [State.sendKeepAlive]
@[simp] theorem State.sendKeepAlive_tu (s : State) (n : Nat) : (s.sendKeepAlive n).tu = s.tu := by
  simp [State.sendKeepAlive]
@[simp] theorem State.sendKeepAlive_cc (s : State) (n : Nat) : (s.sendKeepAlive n).cc = s.cc := by
  simp [State.sendKeepAlive]
@[simp] theorem State.sendKeepAlive_pq (s : State) (n : Nat) : (s.sendKeepAlive n).pq = s.pq := by
  simp [State.sendKeepAlive]
@[simp] theorem State.sendKeepAlive_oe (s : State) (n : Nat) : (s.sendKeepAlive n).oe = s.oe := by
  simp [State.sendKeepAlive]
@[simp] theorem State.sendKeepAlive_nfu (s : State) (n : Nat) : (s.sendKeepAlive n).nfu = s.nfu := by
  simp [State.sendKeepAlive]
@[simp] theorem State.sendKeepAlive_sck (s : State) (n : Nat) : (s.sendKeepAlive n).sck = s.sck := by
  simp [State.sendKeepAlive]
set_option Elab.async false in
@[simp] theorem State.goSilent_pending (s : State) (n : Nat) : (s.goSilent n).pending = s.pending := by
  simp [State.goSilent]
@[simp] theorem State.goSilent_tagCount (s : State) (n : Nat) : (s.goSilent n).tagCount = s.tagCount := by
  simp [State.goSilent]
@[simp] theorem State.goSilent_pp (s : State) (n : Nat) : (s.goSilent n).pp = s.pp := by
  simp [State.goSilent]
@[simp] theorem State.goSilent_ci (s : State) (n : Nat) : (s.goSilent n).ci = s.ci := by
  simp [State.goSilent]
@[simp] theorem State.goSilent_ct (s : State) (n : Nat) : (s.goSilent n).ct = s.ct := by
  simp [State.goSilent]
@[simp] theorem State.goSilent_pu_counts (s : State) (n : Nat) : (s.goSilent n).pu.counts = s.pu.counts := by
  simp [State.goSilent]
@[simp] theorem State.goSilent_pu_permitWindow (s : State) (n : Nat) : (s.goSilent n).pu.permitWindow = s.pu.permitWindow := by
  simp [State.goSilent]
@[simp] theorem State.goSilent_pu_deadline (s : State) (n : Nat) : (s.goSilent n).pu.deadline = s.pu.deadline := by
  simp [State.goSilent]
@[simp] theorem State.goSilent_pu_snapshot (s : State) (n : Nat) : (s.goSilent n).pu.snapshot = s.pu.snapshot := by
  simp [State.goSilent]
@[simp] theorem State.goSilent_pu_evidence (s : State) (n : Nat) : (s.goSilent n).pu.evidence = s.pu.evidence := by
  simp [State.goSilent]
@[simp] theorem State.goSilent_tu (s : State) (n : Nat) : (s.goSilent n).tu = s.tu := by
  simp [State.goSilent]
@[simp] theorem State.goSilent_cc (s : State) (n : Nat) : (s.goSilent n).cc = s.cc := by
  simp [State.goSilent]
@[simp] theorem State.goSilent_pq (s : State) (n : Nat) : (s.goSilent n).pq = s.pq := by
  simp [State.goSilent]
@[simp] theorem State.goSilent_oe (s : State) (n : Nat) : (s.goSilent n).oe = s.oe := by
  simp [State.goSilent]
@[simp] theorem State.goSilent_nfu_enables (s : State) (n : Nat) : (s.goSilent n).nfu.enables = s.nfu.enables := by
  simp [State.goSilent]
@[simp] theorem State.goSilent_nfu_masks (s : State) (n : Nat) : (s.goSilent n).nfu.masks = s.nfu.masks := by
  simp [State.goSilent]
@[simp] theorem State.goSilent_nfu_severe (s : State) (n : Nat) : (s.goSilent n).nfu.severe = s.nfu.severe := by
  simp [State.goSilent]
@[simp] theorem State.goSilent_nfu_refusalRecord (s : State) (n : Nat) : (s.goSilent n).nfu.refusalRecord = s.nfu.refusalRecord := by
  simp [State.goSilent]
@[simp] theorem State.goSilent_nfu_refusalNotice (s : State) (n : Nat) : (s.goSilent n).nfu.refusalNotice = s.nfu.refusalNotice := by
  simp [State.goSilent]
@[simp] theorem State.goSilent_sck (s : State) (n : Nat) : (s.goSilent n).sck = s.sck := by
  simp [State.goSilent]
set_option Elab.async false in
@[simp] theorem State.intakeFrame_pending (s : State) (n : Nat) (f : Frame) : (s.intakeFrame n f).pending = s.pending := by
  unfold State.intakeFrame; dsimp only; split <;> simp
@[simp] theorem State.intakeFrame_tagCount (s : State) (n : Nat) (f : Frame) : (s.intakeFrame n f).tagCount = s.tagCount := by
  unfold State.intakeFrame; dsimp only; split <;> simp
@[simp] theorem State.intakeFrame_pp (s : State) (n : Nat) (f : Frame) : (s.intakeFrame n f).pp = s.pp := by
  unfold State.intakeFrame; dsimp only; split <;> simp
@[simp] theorem State.intakeFrame_ci (s : State) (n : Nat) (f : Frame) : (s.intakeFrame n f).ci = s.ci := by
  unfold State.intakeFrame; dsimp only; split <;> simp
@[simp] theorem State.intakeFrame_ct (s : State) (n : Nat) (f : Frame) : (s.intakeFrame n f).ct = s.ct := by
  unfold State.intakeFrame; dsimp only; split <;> simp
@[simp] theorem State.intakeFrame_pu_counts (s : State) (n : Nat) (f : Frame) : (s.intakeFrame n f).pu.counts = s.pu.counts := by
  unfold State.intakeFrame; dsimp only; split <;> simp
@[simp] theorem State.intakeFrame_pu_permitWindow (s : State) (n : Nat) (f : Frame) : (s.intakeFrame n f).pu.permitWindow = s.pu.permitWindow := by
  unfold State.intakeFrame; dsimp only; split <;> simp
@[simp] theorem State.intakeFrame_pu_deadline (s : State) (n : Nat) (f : Frame) : (s.intakeFrame n f).pu.deadline = s.pu.deadline := by
  unfold State.intakeFrame; dsimp only; split <;> simp
@[simp] theorem State.intakeFrame_pu_snapshot (s : State) (n : Nat) (f : Frame) : (s.intakeFrame n f).pu.snapshot = s.pu.snapshot := by
  unfold State.intakeFrame; dsimp only; split <;> simp
@[simp] theorem State.intakeFrame_pu_evidence (s : State) (n : Nat) (f : Frame) : (s.intakeFrame n f).pu.evidence = s.pu.evidence := by
  unfold State.intakeFrame; dsimp only; split <;> simp
@[simp] theorem State.intakeFrame_tu (s : State) (n : Nat) (f : Frame) : (s.intakeFrame n f).tu = s.tu := by
  unfold State.intakeFrame; dsimp only; split <;> simp
@[simp] theorem State.intakeFrame_cc (s : State) (n : Nat) (f : Frame) : (s.intakeFrame n f).cc = s.cc := by
  unfold State.intakeFrame; dsimp only; split <;> simp
@[simp] theorem State.intakeFrame_pq (s : State) (n : Nat) (f : Frame) : (s.intakeFrame n f).pq = s.pq := by
  unfold State.intakeFrame; dsimp only; split <;> simp
@[simp] theorem State.intakeFrame_oe (s : State) (n : Nat) (f : Frame) : (s.intakeFrame n f).oe = s.oe := by
  unfold State.intakeFrame; dsimp only; split <;> simp
@[simp] theorem State.intakeFrame_nfu_enables (s : State) (n : Nat) (f : Frame) : (s.intakeFrame n f).nfu.enables = s.nfu.enables := by
  unfold State.intakeFrame; dsimp only; split <;> simp
@[simp] theorem State.intakeFrame_nfu_masks (s : State) (n : Nat) (f : Frame) : (s.intakeFrame n f).nfu.masks = s.nfu.masks := by
  unfold State.intakeFrame; dsimp only; split <;> simp
@[simp] theorem State.intakeFrame_nfu_severe (s : State) (n : Nat) (f : Frame) : (s.intakeFrame n f).nfu.severe = s.nfu.severe := by
  unfold State.intakeFrame; dsimp only; split <;> simp
@[simp] theorem State.intakeFrame_nfu_refusalRecord (s : State) (n : Nat) (f : Frame) : (s.intakeFrame n f).nfu.refusalRecord = s.nfu.refusalRecord := by
  unfold State.intakeFrame; dsimp only; split <;> simp
@[simp] theorem State.intakeFrame_nfu_refusalNotice (s : State) (n : Nat) (f : Frame) : (s.intakeFrame n f).nfu.refusalNotice = s.nfu.refusalNotice := by
  unfold State.intakeFrame; dsimp only; split <;> simp
@[simp] theorem State.intakeFrame_sck (s : State) (n : Nat) (f : Frame) : (s.intakeFrame n f).sck = s.sck := by
  unfold State.intakeFrame; dsimp only; split <;> simp
set_option Elab.async false in
@[simp] theorem State.goodArrival_pending (s : State) (n : Nat) (f : Frame) : (s.goodArrival n f).pending = s.pending := by
  unfold State.goodArrival; split <;> simp
@[simp] theorem State.goodArrival_tagCount (s : State) (n : Nat) (f : Frame) : (s.goodArrival n f).tagCount = s.tagCount := by
  unfold State.goodArrival; split <;> simp
@[simp] theorem State.goodArrival_pp (s : State) (n : Nat) (f : Frame) : (s.goodArrival n f).pp = s.pp := by
  unfold State.goodArrival; split <;> simp
@[simp] theorem State.goodArrival_ci (s : State) (n : Nat) (f : Frame) : (s.goodArrival n f).ci = s.ci := by
  unfold State.goodArrival; split <;> simp
@[simp] theorem State.goodArrival_ct (s : State) (n : Nat) (f : Frame) : (s.goodArrival n f).ct = s.ct := by
  unfold State.goodArrival; split <;> simp
@[simp] theorem State.goodArrival_pu_counts (s : State) (n : Nat) (f : Frame) : (s.goodArrival n f).pu.counts = s.pu.counts := by
  unfold State.goodArrival; split <;> simp
@[simp] theorem State.goodArrival_pu_permitWindow (s : State) (n : Nat) (f : Frame) : (s.goodArrival n f).pu.permitWindow = s.pu.permitWindow := by
  unfold State.goodArrival; split <;> simp
@[simp] theorem State.goodArrival_pu_deadline (s : State) (n : Nat) (f : Frame) : (s.goodArrival n f).pu.deadline = s.pu.deadline := by
  unfold State.goodArrival; split <;> simp
@[simp] theorem State.goodArrival_pu_snapshot (s : State) (n : Nat) (f : Frame) : (s.goodArrival n f).pu.snapshot = s.pu.snapshot := by
  unfold State.goodArrival; split <;> simp
@[simp] theorem State.goodArrival_pu_evidence (s : State) (n : Nat) (f : Frame) : (s.goodArrival n f).pu.evidence = s.pu.evidence := by
  unfold State.goodArrival; split <;> simp
@[simp] theorem State.goodArrival_tu (s : State) (n : Nat) (f : Frame) : (s.goodArrival n f).tu = s.tu := by
  unfold State.goodArrival; split <;> simp
@[simp] theorem State.goodArrival_cc (s : State) (n : Nat) (f : Frame) : (s.goodArrival n f).cc = s.cc := by
  unfold State.goodArrival; split <;> simp
@[simp] theorem State.goodArrival_pq (s : State) (n : Nat) (f : Frame) : (s.goodArrival n f).pq = s.pq := by
  unfold State.goodArrival; split <;> simp
@[simp] theorem State.goodArrival_oe (s : State) (n : Nat) (f : Frame) : (s.goodArrival n f).oe = s.oe := by
  unfold State.goodArrival; split <;> simp
@[simp] theorem State.goodArrival_nfu_enables (s : State) (n : Nat) (f : Frame) : (s.goodArrival n f).nfu.enables = s.nfu.enables := by
  unfold State.goodArrival; split <;> simp
@[simp] theorem State.goodArrival_nfu_masks (s : State) (n : Nat) (f : Frame) : (s.goodArrival n f).nfu.masks = s.nfu.masks := by
  unfold State.goodArrival; split <;> simp
@[simp] theorem State.goodArrival_nfu_severe (s : State) (n : Nat) (f : Frame) : (s.goodArrival n f).nfu.severe = s.nfu.severe := by
  unfold State.goodArrival; split <;> simp
@[simp] theorem State.goodArrival_nfu_refusalRecord (s : State) (n : Nat) (f : Frame) : (s.goodArrival n f).nfu.refusalRecord = s.nfu.refusalRecord := by
  unfold State.goodArrival; split <;> simp
@[simp] theorem State.goodArrival_nfu_refusalNotice (s : State) (n : Nat) (f : Frame) : (s.goodArrival n f).nfu.refusalNotice = s.nfu.refusalNotice := by
  unfold State.goodArrival; split <;> simp
@[simp] theorem State.goodArrival_sck (s : State) (n : Nat) (f : Frame) : (s.goodArrival n f).sck = s.sck := by
  unfold State.goodArrival; split <;> simp
set_option Elab.async false in
@[simp] theorem State.trainingArrival_pending (s : State) (n : Nat) (bs : List Byte) : (s.trainingArrival n bs).pending = s.pending := by
  unfold State.trainingArrival; split <;> (try split) <;> simp
@[simp] theorem State.trainingArrival_tagCount (s : State) (n : Nat) (bs : List Byte) : (s.trainingArrival n bs).tagCount = s.tagCount := by
  unfold State.trainingArrival; split <;> (try split) <;> simp
@[simp] theorem State.trainingArrival_pp (s : State) (n : Nat) (bs : List Byte) : (s.trainingArrival n bs).pp = s.pp := by
  unfold State.trainingArrival; split <;> (try split) <;> simp
@[simp] theorem State.trainingArrival_pt (s : State) (n : Nat) (bs : List Byte) : (s.trainingArrival n bs).pt = s.pt := by
  unfold State.trainingArrival; split <;> (try split) <;> simp
@[simp] theorem State.trainingArrival_ci (s : State) (n : Nat) (bs : List Byte) : (s.trainingArrival n bs).ci = s.ci := by
  unfold State.trainingArrival; split <;> (try split) <;> simp
@[simp] theorem State.trainingArrival_ct (s : State) (n : Nat) (bs : List Byte) : (s.trainingArrival n bs).ct = s.ct := by
  unfold State.trainingArrival; split <;> (try split) <;> simp
@[simp] theorem State.trainingArrival_pu (s : State) (n : Nat) (bs : List Byte) : (s.trainingArrival n bs).pu = s.pu := by
  unfold State.trainingArrival; split <;> (try split) <;> simp
@[simp] theorem State.trainingArrival_tu (s : State) (n : Nat) (bs : List Byte) : (s.trainingArrival n bs).tu = s.tu := by
  unfold State.trainingArrival; split <;> (try split) <;> simp
@[simp] theorem State.trainingArrival_cc (s : State) (n : Nat) (bs : List Byte) : (s.trainingArrival n bs).cc = s.cc := by
  unfold State.trainingArrival; split <;> (try split) <;> simp
@[simp] theorem State.trainingArrival_pq (s : State) (n : Nat) (bs : List Byte) : (s.trainingArrival n bs).pq = s.pq := by
  unfold State.trainingArrival; split <;> (try split) <;> simp
@[simp] theorem State.trainingArrival_oe (s : State) (n : Nat) (bs : List Byte) : (s.trainingArrival n bs).oe = s.oe := by
  unfold State.trainingArrival; split <;> (try split) <;> simp
@[simp] theorem State.trainingArrival_nfu_enables (s : State) (n : Nat) (bs : List Byte) : (s.trainingArrival n bs).nfu.enables = s.nfu.enables := by
  unfold State.trainingArrival; split <;> (try split) <;> simp
@[simp] theorem State.trainingArrival_nfu_status (s : State) (n : Nat) (bs : List Byte) : (s.trainingArrival n bs).nfu.status = s.nfu.status := by
  unfold State.trainingArrival; split <;> (try split) <;> simp
@[simp] theorem State.trainingArrival_nfu_masks (s : State) (n : Nat) (bs : List Byte) : (s.trainingArrival n bs).nfu.masks = s.nfu.masks := by
  unfold State.trainingArrival; split <;> (try split) <;> simp
@[simp] theorem State.trainingArrival_nfu_severe (s : State) (n : Nat) (bs : List Byte) : (s.trainingArrival n bs).nfu.severe = s.nfu.severe := by
  unfold State.trainingArrival; split <;> (try split) <;> simp
@[simp] theorem State.trainingArrival_nfu_first (s : State) (n : Nat) (bs : List Byte) : (s.trainingArrival n bs).nfu.first = s.nfu.first := by
  unfold State.trainingArrival; split <;> (try split) <;> simp
@[simp] theorem State.trainingArrival_nfu_refusalRecord (s : State) (n : Nat) (bs : List Byte) : (s.trainingArrival n bs).nfu.refusalRecord = s.nfu.refusalRecord := by
  unfold State.trainingArrival; split <;> (try split) <;> simp
@[simp] theorem State.trainingArrival_nfu_refusalNotice (s : State) (n : Nat) (bs : List Byte) : (s.trainingArrival n bs).nfu.refusalNotice = s.nfu.refusalNotice := by
  unfold State.trainingArrival; split <;> (try split) <;> simp
@[simp] theorem State.trainingArrival_sck (s : State) (n : Nat) (bs : List Byte) : (s.trainingArrival n bs).sck = s.sck := by
  unfold State.trainingArrival; split <;> (try split) <;> simp
set_option Elab.async false in
@[simp] theorem State.frameArrives_pending (s : State) (n : Nat) (bs : List Byte) : (s.frameArrives n bs).pending = s.pending := by
  unfold State.frameArrives; split <;> (try split) <;> simp
@[simp] theorem State.frameArrives_tagCount (s : State) (n : Nat) (bs : List Byte) : (s.frameArrives n bs).tagCount = s.tagCount := by
  unfold State.frameArrives; split <;> (try split) <;> simp
@[simp] theorem State.frameArrives_pp (s : State) (n : Nat) (bs : List Byte) : (s.frameArrives n bs).pp = s.pp := by
  unfold State.frameArrives; split <;> (try split) <;> simp
@[simp] theorem State.frameArrives_ci (s : State) (n : Nat) (bs : List Byte) : (s.frameArrives n bs).ci = s.ci := by
  unfold State.frameArrives; split <;> (try split) <;> simp
@[simp] theorem State.frameArrives_ct (s : State) (n : Nat) (bs : List Byte) : (s.frameArrives n bs).ct = s.ct := by
  unfold State.frameArrives; split <;> (try split) <;> simp
@[simp] theorem State.frameArrives_pu_counts (s : State) (n : Nat) (bs : List Byte) : (s.frameArrives n bs).pu.counts = s.pu.counts := by
  unfold State.frameArrives; split <;> (try split) <;> simp
@[simp] theorem State.frameArrives_pu_permitWindow (s : State) (n : Nat) (bs : List Byte) : (s.frameArrives n bs).pu.permitWindow = s.pu.permitWindow := by
  unfold State.frameArrives; split <;> (try split) <;> simp
@[simp] theorem State.frameArrives_pu_deadline (s : State) (n : Nat) (bs : List Byte) : (s.frameArrives n bs).pu.deadline = s.pu.deadline := by
  unfold State.frameArrives; split <;> (try split) <;> simp
@[simp] theorem State.frameArrives_pu_snapshot (s : State) (n : Nat) (bs : List Byte) : (s.frameArrives n bs).pu.snapshot = s.pu.snapshot := by
  unfold State.frameArrives; split <;> (try split) <;> simp
@[simp] theorem State.frameArrives_pu_evidence (s : State) (n : Nat) (bs : List Byte) : (s.frameArrives n bs).pu.evidence = s.pu.evidence := by
  unfold State.frameArrives; split <;> (try split) <;> simp
@[simp] theorem State.frameArrives_tu (s : State) (n : Nat) (bs : List Byte) : (s.frameArrives n bs).tu = s.tu := by
  unfold State.frameArrives; split <;> (try split) <;> simp
@[simp] theorem State.frameArrives_cc (s : State) (n : Nat) (bs : List Byte) : (s.frameArrives n bs).cc = s.cc := by
  unfold State.frameArrives; split <;> (try split) <;> simp
@[simp] theorem State.frameArrives_pq (s : State) (n : Nat) (bs : List Byte) : (s.frameArrives n bs).pq = s.pq := by
  unfold State.frameArrives; split <;> (try split) <;> simp
@[simp] theorem State.frameArrives_oe (s : State) (n : Nat) (bs : List Byte) : (s.frameArrives n bs).oe = s.oe := by
  unfold State.frameArrives; split <;> (try split) <;> simp
@[simp] theorem State.frameArrives_nfu_enables (s : State) (n : Nat) (bs : List Byte) : (s.frameArrives n bs).nfu.enables = s.nfu.enables := by
  unfold State.frameArrives; split <;> (try split) <;> simp
@[simp] theorem State.frameArrives_nfu_masks (s : State) (n : Nat) (bs : List Byte) : (s.frameArrives n bs).nfu.masks = s.nfu.masks := by
  unfold State.frameArrives; split <;> (try split) <;> simp
@[simp] theorem State.frameArrives_nfu_severe (s : State) (n : Nat) (bs : List Byte) : (s.frameArrives n bs).nfu.severe = s.nfu.severe := by
  unfold State.frameArrives; split <;> (try split) <;> simp
@[simp] theorem State.frameArrives_nfu_refusalRecord (s : State) (n : Nat) (bs : List Byte) : (s.frameArrives n bs).nfu.refusalRecord = s.nfu.refusalRecord := by
  unfold State.frameArrives; split <;> (try split) <;> simp
@[simp] theorem State.frameArrives_nfu_refusalNotice (s : State) (n : Nat) (bs : List Byte) : (s.frameArrives n bs).nfu.refusalNotice = s.nfu.refusalNotice := by
  unfold State.frameArrives; split <;> (try split) <;> simp
@[simp] theorem State.frameArrives_sck (s : State) (n : Nat) (bs : List Byte) : (s.frameArrives n bs).sck = s.sck := by
  unfold State.frameArrives; split <;> (try split) <;> simp
set_option Elab.async false in
@[simp] theorem State.trainReplyArrives_pending (s : State) (n hubKind : Nat) : (s.trainReplyArrives n hubKind).pending = s.pending := by
  unfold State.trainReplyArrives; split <;> (try split) <;> simp
@[simp] theorem State.trainReplyArrives_tagCount (s : State) (n hubKind : Nat) : (s.trainReplyArrives n hubKind).tagCount = s.tagCount := by
  unfold State.trainReplyArrives; split <;> (try split) <;> simp
@[simp] theorem State.trainReplyArrives_pp (s : State) (n hubKind : Nat) : (s.trainReplyArrives n hubKind).pp = s.pp := by
  unfold State.trainReplyArrives; split <;> (try split) <;> simp
@[simp] theorem State.trainReplyArrives_pt (s : State) (n hubKind : Nat) : (s.trainReplyArrives n hubKind).pt = s.pt := by
  unfold State.trainReplyArrives; split <;> (try split) <;> simp
@[simp] theorem State.trainReplyArrives_ci (s : State) (n hubKind : Nat) : (s.trainReplyArrives n hubKind).ci = s.ci := by
  unfold State.trainReplyArrives; split <;> (try split) <;> simp
@[simp] theorem State.trainReplyArrives_ct (s : State) (n hubKind : Nat) : (s.trainReplyArrives n hubKind).ct = s.ct := by
  unfold State.trainReplyArrives; split <;> (try split) <;> simp
@[simp] theorem State.trainReplyArrives_pu (s : State) (n hubKind : Nat) : (s.trainReplyArrives n hubKind).pu = s.pu := by
  unfold State.trainReplyArrives; split <;> (try split) <;> simp
@[simp] theorem State.trainReplyArrives_tu (s : State) (n hubKind : Nat) : (s.trainReplyArrives n hubKind).tu = s.tu := by
  unfold State.trainReplyArrives; split <;> (try split) <;> simp
@[simp] theorem State.trainReplyArrives_cc (s : State) (n hubKind : Nat) : (s.trainReplyArrives n hubKind).cc = s.cc := by
  unfold State.trainReplyArrives; split <;> (try split) <;> simp
@[simp] theorem State.trainReplyArrives_pq (s : State) (n hubKind : Nat) : (s.trainReplyArrives n hubKind).pq = s.pq := by
  unfold State.trainReplyArrives; split <;> (try split) <;> simp
@[simp] theorem State.trainReplyArrives_oe (s : State) (n hubKind : Nat) : (s.trainReplyArrives n hubKind).oe = s.oe := by
  unfold State.trainReplyArrives; split <;> (try split) <;> simp
@[simp] theorem State.trainReplyArrives_nfu_enables (s : State) (n hubKind : Nat) : (s.trainReplyArrives n hubKind).nfu.enables = s.nfu.enables := by
  unfold State.trainReplyArrives; split <;> (try split) <;> simp
@[simp] theorem State.trainReplyArrives_nfu_status (s : State) (n hubKind : Nat) : (s.trainReplyArrives n hubKind).nfu.status = s.nfu.status := by
  unfold State.trainReplyArrives; split <;> (try split) <;> simp
@[simp] theorem State.trainReplyArrives_nfu_masks (s : State) (n hubKind : Nat) : (s.trainReplyArrives n hubKind).nfu.masks = s.nfu.masks := by
  unfold State.trainReplyArrives; split <;> (try split) <;> simp
@[simp] theorem State.trainReplyArrives_nfu_severe (s : State) (n hubKind : Nat) : (s.trainReplyArrives n hubKind).nfu.severe = s.nfu.severe := by
  unfold State.trainReplyArrives; split <;> (try split) <;> simp
@[simp] theorem State.trainReplyArrives_nfu_first (s : State) (n hubKind : Nat) : (s.trainReplyArrives n hubKind).nfu.first = s.nfu.first := by
  unfold State.trainReplyArrives; split <;> (try split) <;> simp
@[simp] theorem State.trainReplyArrives_nfu_refusalRecord (s : State) (n hubKind : Nat) : (s.trainReplyArrives n hubKind).nfu.refusalRecord = s.nfu.refusalRecord := by
  unfold State.trainReplyArrives; split <;> (try split) <;> simp
@[simp] theorem State.trainReplyArrives_nfu_refusalNotice (s : State) (n hubKind : Nat) : (s.trainReplyArrives n hubKind).nfu.refusalNotice = s.nfu.refusalNotice := by
  unfold State.trainReplyArrives; split <;> (try split) <;> simp
@[simp] theorem State.trainReplyArrives_sck (s : State) (n hubKind : Nat) : (s.trainReplyArrives n hubKind).sck = s.sck := by
  unfold State.trainReplyArrives; split <;> (try split) <;> simp
set_option Elab.async false in
@[simp] theorem State.restartTraining_pending (s : State) (n : Nat) : (s.restartTraining n).pending = s.pending := by
  simp [State.restartTraining]
@[simp] theorem State.restartTraining_tagCount (s : State) (n : Nat) : (s.restartTraining n).tagCount = s.tagCount := by
  simp [State.restartTraining]
@[simp] theorem State.restartTraining_pp (s : State) (n : Nat) : (s.restartTraining n).pp = s.pp := by
  simp [State.restartTraining]
@[simp] theorem State.restartTraining_pt (s : State) (n : Nat) : (s.restartTraining n).pt = s.pt := by
  simp [State.restartTraining]
@[simp] theorem State.restartTraining_ci (s : State) (n : Nat) : (s.restartTraining n).ci = s.ci := by
  simp [State.restartTraining]
@[simp] theorem State.restartTraining_ct (s : State) (n : Nat) : (s.restartTraining n).ct = s.ct := by
  simp [State.restartTraining]
@[simp] theorem State.restartTraining_pu (s : State) (n : Nat) : (s.restartTraining n).pu = s.pu := by
  simp [State.restartTraining]
@[simp] theorem State.restartTraining_sc (s : State) (n : Nat) : (s.restartTraining n).sc = s.sc := by
  simp [State.restartTraining]
@[simp] theorem State.restartTraining_tu (s : State) (n : Nat) : (s.restartTraining n).tu = s.tu := by
  simp [State.restartTraining]
@[simp] theorem State.restartTraining_cc (s : State) (n : Nat) : (s.restartTraining n).cc = s.cc := by
  simp [State.restartTraining]
@[simp] theorem State.restartTraining_pq (s : State) (n : Nat) : (s.restartTraining n).pq = s.pq := by
  simp [State.restartTraining]
@[simp] theorem State.restartTraining_oe (s : State) (n : Nat) : (s.restartTraining n).oe = s.oe := by
  simp [State.restartTraining]
@[simp] theorem State.restartTraining_nfu (s : State) (n : Nat) : (s.restartTraining n).nfu = s.nfu := by
  simp [State.restartTraining]
@[simp] theorem State.restartTraining_sck (s : State) (n : Nat) : (s.restartTraining n).sck = s.sck := by
  simp [State.restartTraining]
set_option Elab.async false in
@[simp] theorem State.retrain_pending (s : State) (n : Nat) : (s.retrain n).pending = s.pending := by
  unfold State.retrain; split <;> simp
@[simp] theorem State.retrain_tagCount (s : State) (n : Nat) : (s.retrain n).tagCount = s.tagCount := by
  unfold State.retrain; split <;> simp
@[simp] theorem State.retrain_pp (s : State) (n : Nat) : (s.retrain n).pp = s.pp := by
  unfold State.retrain; split <;> simp
@[simp] theorem State.retrain_ci (s : State) (n : Nat) : (s.retrain n).ci = s.ci := by
  unfold State.retrain; split <;> simp
@[simp] theorem State.retrain_ct (s : State) (n : Nat) : (s.retrain n).ct = s.ct := by
  unfold State.retrain; split <;> simp
@[simp] theorem State.retrain_pu_counts (s : State) (n : Nat) : (s.retrain n).pu.counts = s.pu.counts := by
  unfold State.retrain; split <;> simp
@[simp] theorem State.retrain_pu_permitWindow (s : State) (n : Nat) : (s.retrain n).pu.permitWindow = s.pu.permitWindow := by
  unfold State.retrain; split <;> simp
@[simp] theorem State.retrain_pu_deadline (s : State) (n : Nat) : (s.retrain n).pu.deadline = s.pu.deadline := by
  unfold State.retrain; split <;> simp
@[simp] theorem State.retrain_pu_snapshot (s : State) (n : Nat) : (s.retrain n).pu.snapshot = s.pu.snapshot := by
  unfold State.retrain; split <;> simp
@[simp] theorem State.retrain_pu_evidence (s : State) (n : Nat) : (s.retrain n).pu.evidence = s.pu.evidence := by
  unfold State.retrain; split <;> simp
@[simp] theorem State.retrain_tu (s : State) (n : Nat) : (s.retrain n).tu = s.tu := by
  unfold State.retrain; split <;> simp
@[simp] theorem State.retrain_cc (s : State) (n : Nat) : (s.retrain n).cc = s.cc := by
  unfold State.retrain; split <;> simp
@[simp] theorem State.retrain_pq (s : State) (n : Nat) : (s.retrain n).pq = s.pq := by
  unfold State.retrain; split <;> simp
@[simp] theorem State.retrain_oe (s : State) (n : Nat) : (s.retrain n).oe = s.oe := by
  unfold State.retrain; split <;> simp
@[simp] theorem State.retrain_nfu_enables (s : State) (n : Nat) : (s.retrain n).nfu.enables = s.nfu.enables := by
  unfold State.retrain; split <;> simp
@[simp] theorem State.retrain_nfu_status (s : State) (n : Nat) : (s.retrain n).nfu.status = s.nfu.status := by
  unfold State.retrain; split <;> simp
@[simp] theorem State.retrain_nfu_masks (s : State) (n : Nat) : (s.retrain n).nfu.masks = s.nfu.masks := by
  unfold State.retrain; split <;> simp
@[simp] theorem State.retrain_nfu_severe (s : State) (n : Nat) : (s.retrain n).nfu.severe = s.nfu.severe := by
  unfold State.retrain; split <;> simp
@[simp] theorem State.retrain_nfu_first (s : State) (n : Nat) : (s.retrain n).nfu.first = s.nfu.first := by
  unfold State.retrain; split <;> simp
@[simp] theorem State.retrain_nfu_refusalRecord (s : State) (n : Nat) : (s.retrain n).nfu.refusalRecord = s.nfu.refusalRecord := by
  unfold State.retrain; split <;> simp
@[simp] theorem State.retrain_nfu_refusalNotice (s : State) (n : Nat) : (s.retrain n).nfu.refusalNotice = s.nfu.refusalNotice := by
  unfold State.retrain; split <;> simp
@[simp] theorem State.retrain_sck (s : State) (n : Nat) : (s.retrain n).sck = s.sck := by
  unfold State.retrain; split <;> simp
set_option Elab.async false in
@[simp] theorem State.writeCommand_pending (s : State) (bs : List Byte) : (s.writeCommand bs).pending = s.pending := by
  unfold State.writeCommand; split <;> (try split) <;> simp
@[simp] theorem State.writeCommand_tagCount (s : State) (bs : List Byte) : (s.writeCommand bs).tagCount = s.tagCount := by
  unfold State.writeCommand; split <;> (try split) <;> simp
@[simp] theorem State.writeCommand_pp_pdo (s : State) (bs : List Byte) : (s.writeCommand bs).pp.pdo = s.pp.pdo := by
  unfold State.writeCommand; split <;> (try split) <;> simp
@[simp] theorem State.writeCommand_ci (s : State) (bs : List Byte) : (s.writeCommand bs).ci = s.ci := by
  unfold State.writeCommand; split <;> (try split) <;> simp
@[simp] theorem State.writeCommand_ct (s : State) (bs : List Byte) : (s.writeCommand bs).ct = s.ct := by
  unfold State.writeCommand; split <;> (try split) <;> simp
@[simp] theorem State.writeCommand_pu_counts (s : State) (bs : List Byte) : (s.writeCommand bs).pu.counts = s.pu.counts := by
  unfold State.writeCommand; split <;> (try split) <;> simp
@[simp] theorem State.writeCommand_pu_permitWindow (s : State) (bs : List Byte) : (s.writeCommand bs).pu.permitWindow = s.pu.permitWindow := by
  unfold State.writeCommand; split <;> (try split) <;> simp
@[simp] theorem State.writeCommand_pu_deadline (s : State) (bs : List Byte) : (s.writeCommand bs).pu.deadline = s.pu.deadline := by
  unfold State.writeCommand; split <;> (try split) <;> simp
@[simp] theorem State.writeCommand_pu_snapshot (s : State) (bs : List Byte) : (s.writeCommand bs).pu.snapshot = s.pu.snapshot := by
  unfold State.writeCommand; split <;> (try split) <;> simp
@[simp] theorem State.writeCommand_pu_evidence (s : State) (bs : List Byte) : (s.writeCommand bs).pu.evidence = s.pu.evidence := by
  unfold State.writeCommand; split <;> (try split) <;> simp
@[simp] theorem State.writeCommand_tu (s : State) (bs : List Byte) : (s.writeCommand bs).tu = s.tu := by
  unfold State.writeCommand; split <;> (try split) <;> simp
@[simp] theorem State.writeCommand_cc (s : State) (bs : List Byte) : (s.writeCommand bs).cc = s.cc := by
  unfold State.writeCommand; split <;> (try split) <;> simp
@[simp] theorem State.writeCommand_pq (s : State) (bs : List Byte) : (s.writeCommand bs).pq = s.pq := by
  unfold State.writeCommand; split <;> (try split) <;> simp
@[simp] theorem State.writeCommand_oe (s : State) (bs : List Byte) : (s.writeCommand bs).oe = s.oe := by
  unfold State.writeCommand; split <;> (try split) <;> simp
@[simp] theorem State.writeCommand_nfu_enables (s : State) (bs : List Byte) : (s.writeCommand bs).nfu.enables = s.nfu.enables := by
  unfold State.writeCommand; split <;> (try split) <;> simp
@[simp] theorem State.writeCommand_nfu_masks (s : State) (bs : List Byte) : (s.writeCommand bs).nfu.masks = s.nfu.masks := by
  unfold State.writeCommand; split <;> (try split) <;> simp
@[simp] theorem State.writeCommand_nfu_severe (s : State) (bs : List Byte) : (s.writeCommand bs).nfu.severe = s.nfu.severe := by
  unfold State.writeCommand; split <;> (try split) <;> simp
@[simp] theorem State.writeCommand_nfu_refusalRecord (s : State) (bs : List Byte) : (s.writeCommand bs).nfu.refusalRecord = s.nfu.refusalRecord := by
  unfold State.writeCommand; split <;> (try split) <;> simp
@[simp] theorem State.writeCommand_nfu_refusalNotice (s : State) (bs : List Byte) : (s.writeCommand bs).nfu.refusalNotice = s.nfu.refusalNotice := by
  unfold State.writeCommand; split <;> (try split) <;> simp
@[simp] theorem State.writeCommand_sck (s : State) (bs : List Byte) : (s.writeCommand bs).sck = s.sck := by
  unfold State.writeCommand; split <;> (try split) <;> simp
set_option Elab.async false in
@[simp] theorem State.readAnswer_pending (s : State) (n : Nat) : (s.readAnswer n).pending = s.pending := by
  rfl
@[simp] theorem State.readAnswer_tagCount (s : State) (n : Nat) : (s.readAnswer n).tagCount = s.tagCount := by
  rfl
@[simp] theorem State.readAnswer_pp_port (s : State) (n : Nat) : (s.readAnswer n).pp.port = s.pp.port := by
  rfl
@[simp] theorem State.readAnswer_lk (s : State) (n : Nat) : (s.readAnswer n).lk = s.lk := by
  rfl
@[simp] theorem State.readAnswer_pt (s : State) (n : Nat) : (s.readAnswer n).pt = s.pt := by
  rfl
@[simp] theorem State.readAnswer_ci (s : State) (n : Nat) : (s.readAnswer n).ci = s.ci := by
  rfl
@[simp] theorem State.readAnswer_ct (s : State) (n : Nat) : (s.readAnswer n).ct = s.ct := by
  rfl
@[simp] theorem State.readAnswer_pu (s : State) (n : Nat) : (s.readAnswer n).pu = s.pu := by
  rfl
@[simp] theorem State.readAnswer_sc (s : State) (n : Nat) : (s.readAnswer n).sc = s.sc := by
  rfl
@[simp] theorem State.readAnswer_tu (s : State) (n : Nat) : (s.readAnswer n).tu = s.tu := by
  rfl
@[simp] theorem State.readAnswer_cc (s : State) (n : Nat) : (s.readAnswer n).cc = s.cc := by
  rfl
@[simp] theorem State.readAnswer_pq (s : State) (n : Nat) : (s.readAnswer n).pq = s.pq := by
  rfl
@[simp] theorem State.readAnswer_oe (s : State) (n : Nat) : (s.readAnswer n).oe = s.oe := by
  rfl
@[simp] theorem State.readAnswer_nfu (s : State) (n : Nat) : (s.readAnswer n).nfu = s.nfu := by
  rfl
@[simp] theorem State.readAnswer_sck (s : State) (n : Nat) : (s.readAnswer n).sck = s.sck := by
  rfl
set_option Elab.async false in
@[simp] theorem State.transaction_pending (s : State) (sel : Byte) (rest : List Byte) : (s.transaction sel rest).pending = s.pending := by
  unfold State.transaction; (repeat' first | split | dsimp only) <;> simp
@[simp] theorem State.transaction_tagCount (s : State) (sel : Byte) (rest : List Byte) : (s.transaction sel rest).tagCount = s.tagCount := by
  unfold State.transaction; (repeat' first | split | dsimp only) <;> simp
@[simp] theorem State.transaction_ci (s : State) (sel : Byte) (rest : List Byte) : (s.transaction sel rest).ci = s.ci := by
  unfold State.transaction; (repeat' first | split | dsimp only) <;> simp
@[simp] theorem State.transaction_ct (s : State) (sel : Byte) (rest : List Byte) : (s.transaction sel rest).ct = s.ct := by
  unfold State.transaction; (repeat' first | split | dsimp only) <;> simp
@[simp] theorem State.transaction_pu_counts (s : State) (sel : Byte) (rest : List Byte) : (s.transaction sel rest).pu.counts = s.pu.counts := by
  unfold State.transaction; (repeat' first | split | dsimp only) <;> simp
@[simp] theorem State.transaction_pu_permitWindow (s : State) (sel : Byte) (rest : List Byte) : (s.transaction sel rest).pu.permitWindow = s.pu.permitWindow := by
  unfold State.transaction; (repeat' first | split | dsimp only) <;> simp
@[simp] theorem State.transaction_pu_deadline (s : State) (sel : Byte) (rest : List Byte) : (s.transaction sel rest).pu.deadline = s.pu.deadline := by
  unfold State.transaction; (repeat' first | split | dsimp only) <;> simp
@[simp] theorem State.transaction_pu_snapshot (s : State) (sel : Byte) (rest : List Byte) : (s.transaction sel rest).pu.snapshot = s.pu.snapshot := by
  unfold State.transaction; (repeat' first | split | dsimp only) <;> simp
@[simp] theorem State.transaction_pu_evidence (s : State) (sel : Byte) (rest : List Byte) : (s.transaction sel rest).pu.evidence = s.pu.evidence := by
  unfold State.transaction; (repeat' first | split | dsimp only) <;> simp
@[simp] theorem State.transaction_tu (s : State) (sel : Byte) (rest : List Byte) : (s.transaction sel rest).tu = s.tu := by
  unfold State.transaction; (repeat' first | split | dsimp only) <;> simp
@[simp] theorem State.transaction_cc (s : State) (sel : Byte) (rest : List Byte) : (s.transaction sel rest).cc = s.cc := by
  unfold State.transaction; (repeat' first | split | dsimp only) <;> simp
@[simp] theorem State.transaction_pq (s : State) (sel : Byte) (rest : List Byte) : (s.transaction sel rest).pq = s.pq := by
  unfold State.transaction; (repeat' first | split | dsimp only) <;> simp
@[simp] theorem State.transaction_oe (s : State) (sel : Byte) (rest : List Byte) : (s.transaction sel rest).oe = s.oe := by
  unfold State.transaction; (repeat' first | split | dsimp only) <;> simp
@[simp] theorem State.transaction_nfu_enables (s : State) (sel : Byte) (rest : List Byte) : (s.transaction sel rest).nfu.enables = s.nfu.enables := by
  unfold State.transaction; (repeat' first | split | dsimp only) <;> simp
@[simp] theorem State.transaction_nfu_masks (s : State) (sel : Byte) (rest : List Byte) : (s.transaction sel rest).nfu.masks = s.nfu.masks := by
  unfold State.transaction; (repeat' first | split | dsimp only) <;> simp
@[simp] theorem State.transaction_nfu_severe (s : State) (sel : Byte) (rest : List Byte) : (s.transaction sel rest).nfu.severe = s.nfu.severe := by
  unfold State.transaction; (repeat' first | split | dsimp only) <;> simp
@[simp] theorem State.transaction_nfu_refusalRecord (s : State) (sel : Byte) (rest : List Byte) : (s.transaction sel rest).nfu.refusalRecord = s.nfu.refusalRecord := by
  unfold State.transaction; (repeat' first | split | dsimp only) <;> simp
@[simp] theorem State.transaction_nfu_refusalNotice (s : State) (sel : Byte) (rest : List Byte) : (s.transaction sel rest).nfu.refusalNotice = s.nfu.refusalNotice := by
  unfold State.transaction; (repeat' first | split | dsimp only) <;> simp
@[simp] theorem State.transaction_sck (s : State) (sel : Byte) (rest : List Byte) : (s.transaction sel rest).sck = s.sck := by
  unfold State.transaction; (repeat' first | split | dsimp only) <;> simp
set_option Elab.async false in
@[simp] theorem State.putLine_pending (s : State) (n : Nat) (t : Tab) (line : Line) (total : Nat) : (s.putLine n t line total).pending = s.pending := by
  simp [State.putLine]
@[simp] theorem State.putLine_tagCount (s : State) (n : Nat) (t : Tab) (line : Line) (total : Nat) : (s.putLine n t line total).tagCount = s.tagCount := by
  simp [State.putLine]
@[simp] theorem State.putLine_pp (s : State) (n : Nat) (t : Tab) (line : Line) (total : Nat) : (s.putLine n t line total).pp = s.pp := by
  simp [State.putLine]
@[simp] theorem State.putLine_lk (s : State) (n : Nat) (t : Tab) (line : Line) (total : Nat) : (s.putLine n t line total).lk = s.lk := by
  simp [State.putLine]
@[simp] theorem State.putLine_ci (s : State) (n : Nat) (t : Tab) (line : Line) (total : Nat) : (s.putLine n t line total).ci = s.ci := by
  simp [State.putLine]
@[simp] theorem State.putLine_ct (s : State) (n : Nat) (t : Tab) (line : Line) (total : Nat) : (s.putLine n t line total).ct = s.ct := by
  simp [State.putLine]
@[simp] theorem State.putLine_pu (s : State) (n : Nat) (t : Tab) (line : Line) (total : Nat) : (s.putLine n t line total).pu = s.pu := by
  simp [State.putLine]
@[simp] theorem State.putLine_sc (s : State) (n : Nat) (t : Tab) (line : Line) (total : Nat) : (s.putLine n t line total).sc = s.sc := by
  simp [State.putLine]
@[simp] theorem State.putLine_tu_terminals (s : State) (n : Nat) (t : Tab) (line : Line) (total : Nat) : (s.putLine n t line total).tu.terminals = s.tu.terminals := by
  simp [State.putLine]
@[simp] theorem State.putLine_tu_holds (s : State) (n : Nat) (t : Tab) (line : Line) (total : Nat) : (s.putLine n t line total).tu.holds = s.tu.holds := by
  simp [State.putLine]
@[simp] theorem State.putLine_cc (s : State) (n : Nat) (t : Tab) (line : Line) (total : Nat) : (s.putLine n t line total).cc = s.cc := by
  simp [State.putLine]
@[simp] theorem State.putLine_pq (s : State) (n : Nat) (t : Tab) (line : Line) (total : Nat) : (s.putLine n t line total).pq = s.pq := by
  simp [State.putLine]
@[simp] theorem State.putLine_oe (s : State) (n : Nat) (t : Tab) (line : Line) (total : Nat) : (s.putLine n t line total).oe = s.oe := by
  simp [State.putLine]
@[simp] theorem State.putLine_nfu (s : State) (n : Nat) (t : Tab) (line : Line) (total : Nat) : (s.putLine n t line total).nfu = s.nfu := by
  simp [State.putLine]
@[simp] theorem State.putLine_sck (s : State) (n : Nat) (t : Tab) (line : Line) (total : Nat) : (s.putLine n t line total).sck = s.sck := by
  simp [State.putLine]
set_option Elab.async false in
@[simp] theorem State.dropTab_pending (s : State) (n : Nat) (t : Tab) : (s.dropTab n t).pending = s.pending := by
  simp [State.dropTab]
@[simp] theorem State.dropTab_tagCount (s : State) (n : Nat) (t : Tab) : (s.dropTab n t).tagCount = s.tagCount := by
  simp [State.dropTab]
@[simp] theorem State.dropTab_pp (s : State) (n : Nat) (t : Tab) : (s.dropTab n t).pp = s.pp := by
  simp [State.dropTab]
@[simp] theorem State.dropTab_lk (s : State) (n : Nat) (t : Tab) : (s.dropTab n t).lk = s.lk := by
  simp [State.dropTab]
@[simp] theorem State.dropTab_ci (s : State) (n : Nat) (t : Tab) : (s.dropTab n t).ci = s.ci := by
  simp [State.dropTab]
@[simp] theorem State.dropTab_ct (s : State) (n : Nat) (t : Tab) : (s.dropTab n t).ct = s.ct := by
  simp [State.dropTab]
@[simp] theorem State.dropTab_pu (s : State) (n : Nat) (t : Tab) : (s.dropTab n t).pu = s.pu := by
  simp [State.dropTab]
@[simp] theorem State.dropTab_sc (s : State) (n : Nat) (t : Tab) : (s.dropTab n t).sc = s.sc := by
  simp [State.dropTab]
@[simp] theorem State.dropTab_tu_holds (s : State) (n : Nat) (t : Tab) : (s.dropTab n t).tu.holds = s.tu.holds := by
  simp [State.dropTab]
@[simp] theorem State.dropTab_cc (s : State) (n : Nat) (t : Tab) : (s.dropTab n t).cc = s.cc := by
  simp [State.dropTab]
@[simp] theorem State.dropTab_pq (s : State) (n : Nat) (t : Tab) : (s.dropTab n t).pq = s.pq := by
  simp [State.dropTab]
@[simp] theorem State.dropTab_oe (s : State) (n : Nat) (t : Tab) : (s.dropTab n t).oe = s.oe := by
  simp [State.dropTab]
@[simp] theorem State.dropTab_nfu (s : State) (n : Nat) (t : Tab) : (s.dropTab n t).nfu = s.nfu := by
  simp [State.dropTab]
@[simp] theorem State.dropTab_sck (s : State) (n : Nat) (t : Tab) : (s.dropTab n t).sck = s.sck := by
  simp [State.dropTab]
set_option Elab.async false in
@[simp] theorem State.pruneIf_pending (s : State) (p : Nat) (made : Bool) : (s.pruneIf p made).pending = s.pending := by
  unfold State.pruneIf; split <;> simp
@[simp] theorem State.pruneIf_tagCount (s : State) (p : Nat) (made : Bool) : (s.pruneIf p made).tagCount = s.tagCount := by
  unfold State.pruneIf; split <;> simp
@[simp] theorem State.pruneIf_pp (s : State) (p : Nat) (made : Bool) : (s.pruneIf p made).pp = s.pp := by
  unfold State.pruneIf; split <;> simp
@[simp] theorem State.pruneIf_lk (s : State) (p : Nat) (made : Bool) : (s.pruneIf p made).lk = s.lk := by
  unfold State.pruneIf; split <;> simp
@[simp] theorem State.pruneIf_ci (s : State) (p : Nat) (made : Bool) : (s.pruneIf p made).ci = s.ci := by
  unfold State.pruneIf; split <;> simp
@[simp] theorem State.pruneIf_ct (s : State) (p : Nat) (made : Bool) : (s.pruneIf p made).ct = s.ct := by
  unfold State.pruneIf; split <;> simp
@[simp] theorem State.pruneIf_pu (s : State) (p : Nat) (made : Bool) : (s.pruneIf p made).pu = s.pu := by
  unfold State.pruneIf; split <;> simp
@[simp] theorem State.pruneIf_sc (s : State) (p : Nat) (made : Bool) : (s.pruneIf p made).sc = s.sc := by
  unfold State.pruneIf; split <;> simp
@[simp] theorem State.pruneIf_tu (s : State) (p : Nat) (made : Bool) : (s.pruneIf p made).tu = s.tu := by
  unfold State.pruneIf; split <;> simp
@[simp] theorem State.pruneIf_cc (s : State) (p : Nat) (made : Bool) : (s.pruneIf p made).cc = s.cc := by
  unfold State.pruneIf; split <;> simp
@[simp] theorem State.pruneIf_pq (s : State) (p : Nat) (made : Bool) : (s.pruneIf p made).pq = s.pq := by
  unfold State.pruneIf; split <;> simp
@[simp] theorem State.pruneIf_oe (s : State) (p : Nat) (made : Bool) : (s.pruneIf p made).oe = s.oe := by
  unfold State.pruneIf; split <;> simp
@[simp] theorem State.pruneIf_nfu (s : State) (p : Nat) (made : Bool) : (s.pruneIf p made).nfu = s.nfu := by
  unfold State.pruneIf; split <;> simp
@[simp] theorem State.pruneIf_sck (s : State) (p : Nat) (made : Bool) : (s.pruneIf p made).sck = s.sck := by
  unfold State.pruneIf; split <;> simp
set_option Elab.async false in
@[simp] theorem State.reportRefusal_pending (s : State) (venue terminal : Nat) (person category : Option Nat) (reason : Code) : (s.reportRefusal venue terminal person category reason).pending = s.pending := by
  unfold State.reportRefusal; dsimp only; split <;> split <;> simp
@[simp] theorem State.reportRefusal_tagCount (s : State) (venue terminal : Nat) (person category : Option Nat) (reason : Code) : (s.reportRefusal venue terminal person category reason).tagCount = s.tagCount := by
  unfold State.reportRefusal; dsimp only; split <;> split <;> simp
@[simp] theorem State.reportRefusal_pp (s : State) (venue terminal : Nat) (person category : Option Nat) (reason : Code) : (s.reportRefusal venue terminal person category reason).pp = s.pp := by
  unfold State.reportRefusal; dsimp only; split <;> split <;> simp
@[simp] theorem State.reportRefusal_lk (s : State) (venue terminal : Nat) (person category : Option Nat) (reason : Code) : (s.reportRefusal venue terminal person category reason).lk = s.lk := by
  unfold State.reportRefusal; dsimp only; split <;> split <;> simp
@[simp] theorem State.reportRefusal_pt (s : State) (venue terminal : Nat) (person category : Option Nat) (reason : Code) : (s.reportRefusal venue terminal person category reason).pt = s.pt := by
  unfold State.reportRefusal; dsimp only; split <;> split <;> simp
@[simp] theorem State.reportRefusal_ci (s : State) (venue terminal : Nat) (person category : Option Nat) (reason : Code) : (s.reportRefusal venue terminal person category reason).ci = s.ci := by
  unfold State.reportRefusal; dsimp only; split <;> split <;> simp
@[simp] theorem State.reportRefusal_ct (s : State) (venue terminal : Nat) (person category : Option Nat) (reason : Code) : (s.reportRefusal venue terminal person category reason).ct = s.ct := by
  unfold State.reportRefusal; dsimp only; split <;> split <;> simp
@[simp] theorem State.reportRefusal_pu (s : State) (venue terminal : Nat) (person category : Option Nat) (reason : Code) : (s.reportRefusal venue terminal person category reason).pu = s.pu := by
  unfold State.reportRefusal; dsimp only; split <;> split <;> simp
@[simp] theorem State.reportRefusal_sc (s : State) (venue terminal : Nat) (person category : Option Nat) (reason : Code) : (s.reportRefusal venue terminal person category reason).sc = s.sc := by
  unfold State.reportRefusal; dsimp only; split <;> split <;> simp
@[simp] theorem State.reportRefusal_tu (s : State) (venue terminal : Nat) (person category : Option Nat) (reason : Code) : (s.reportRefusal venue terminal person category reason).tu = s.tu := by
  unfold State.reportRefusal; dsimp only; split <;> split <;> simp
@[simp] theorem State.reportRefusal_cc (s : State) (venue terminal : Nat) (person category : Option Nat) (reason : Code) : (s.reportRefusal venue terminal person category reason).cc = s.cc := by
  unfold State.reportRefusal; dsimp only; split <;> split <;> simp
@[simp] theorem State.reportRefusal_pq_unposted (s : State) (venue terminal : Nat) (person category : Option Nat) (reason : Code) : (s.reportRefusal venue terminal person category reason).pq.unposted = s.pq.unposted := by
  unfold State.reportRefusal; dsimp only; split <;> split <;> simp
@[simp] theorem State.reportRefusal_oe (s : State) (venue terminal : Nat) (person category : Option Nat) (reason : Code) : (s.reportRefusal venue terminal person category reason).oe = s.oe := by
  unfold State.reportRefusal; dsimp only; split <;> split <;> simp
@[simp] theorem State.reportRefusal_nfu_enables (s : State) (venue terminal : Nat) (person category : Option Nat) (reason : Code) : (s.reportRefusal venue terminal person category reason).nfu.enables = s.nfu.enables := by
  unfold State.reportRefusal; dsimp only; split <;> split <;> simp
@[simp] theorem State.reportRefusal_nfu_status (s : State) (venue terminal : Nat) (person category : Option Nat) (reason : Code) : (s.reportRefusal venue terminal person category reason).nfu.status = s.nfu.status := by
  unfold State.reportRefusal; dsimp only; split <;> split <;> simp
@[simp] theorem State.reportRefusal_nfu_masks (s : State) (venue terminal : Nat) (person category : Option Nat) (reason : Code) : (s.reportRefusal venue terminal person category reason).nfu.masks = s.nfu.masks := by
  unfold State.reportRefusal; dsimp only; split <;> split <;> simp
@[simp] theorem State.reportRefusal_nfu_severe (s : State) (venue terminal : Nat) (person category : Option Nat) (reason : Code) : (s.reportRefusal venue terminal person category reason).nfu.severe = s.nfu.severe := by
  unfold State.reportRefusal; dsimp only; split <;> split <;> simp
@[simp] theorem State.reportRefusal_nfu_first (s : State) (venue terminal : Nat) (person category : Option Nat) (reason : Code) : (s.reportRefusal venue terminal person category reason).nfu.first = s.nfu.first := by
  unfold State.reportRefusal; dsimp only; split <;> split <;> simp
@[simp] theorem State.reportRefusal_nfu_refusalRecord (s : State) (venue terminal : Nat) (person category : Option Nat) (reason : Code) : (s.reportRefusal venue terminal person category reason).nfu.refusalRecord = s.nfu.refusalRecord := by
  unfold State.reportRefusal; dsimp only; split <;> split <;> simp
@[simp] theorem State.reportRefusal_nfu_refusalNotice (s : State) (venue terminal : Nat) (person category : Option Nat) (reason : Code) : (s.reportRefusal venue terminal person category reason).nfu.refusalNotice = s.nfu.refusalNotice := by
  unfold State.reportRefusal; dsimp only; split <;> split <;> simp
@[simp] theorem State.reportRefusal_sck (s : State) (venue terminal : Nat) (person category : Option Nat) (reason : Code) : (s.reportRefusal venue terminal person category reason).sck = s.sck := by
  unfold State.reportRefusal; dsimp only; split <;> split <;> simp
set_option Elab.async false in
@[simp] theorem State.signalRemoval_pending (s : State) : (s.signalRemoval).pending = s.pending := by
  unfold State.signalRemoval; split <;> simp
@[simp] theorem State.signalRemoval_tagCount (s : State) : (s.signalRemoval).tagCount = s.tagCount := by
  unfold State.signalRemoval; split <;> simp
@[simp] theorem State.signalRemoval_pp (s : State) : (s.signalRemoval).pp = s.pp := by
  unfold State.signalRemoval; split <;> simp
@[simp] theorem State.signalRemoval_lk (s : State) : (s.signalRemoval).lk = s.lk := by
  unfold State.signalRemoval; split <;> simp
@[simp] theorem State.signalRemoval_pt (s : State) : (s.signalRemoval).pt = s.pt := by
  unfold State.signalRemoval; split <;> simp
@[simp] theorem State.signalRemoval_ci (s : State) : (s.signalRemoval).ci = s.ci := by
  unfold State.signalRemoval; split <;> simp
@[simp] theorem State.signalRemoval_ct (s : State) : (s.signalRemoval).ct = s.ct := by
  unfold State.signalRemoval; split <;> simp
@[simp] theorem State.signalRemoval_pu (s : State) : (s.signalRemoval).pu = s.pu := by
  unfold State.signalRemoval; split <;> simp
@[simp] theorem State.signalRemoval_sc (s : State) : (s.signalRemoval).sc = s.sc := by
  unfold State.signalRemoval; split <;> simp
@[simp] theorem State.signalRemoval_tu (s : State) : (s.signalRemoval).tu = s.tu := by
  unfold State.signalRemoval; split <;> simp
@[simp] theorem State.signalRemoval_cc (s : State) : (s.signalRemoval).cc = s.cc := by
  unfold State.signalRemoval; split <;> simp
@[simp] theorem State.signalRemoval_pq (s : State) : (s.signalRemoval).pq = s.pq := by
  unfold State.signalRemoval; split <;> simp
@[simp] theorem State.signalRemoval_nfu (s : State) : (s.signalRemoval).nfu = s.nfu := by
  unfold State.signalRemoval; split <;> simp
@[simp] theorem State.signalRemoval_sck (s : State) : (s.signalRemoval).sck = s.sck := by
  unfold State.signalRemoval; split <;> simp
set_option Elab.async false in
@[simp] theorem State.endOperation_pending (s : State) (result : OpResult) : (s.endOperation result).pending = s.pending := by
  simp [State.endOperation]
@[simp] theorem State.endOperation_tagCount (s : State) (result : OpResult) : (s.endOperation result).tagCount = s.tagCount := by
  simp [State.endOperation]
@[simp] theorem State.endOperation_pp (s : State) (result : OpResult) : (s.endOperation result).pp = s.pp := by
  simp [State.endOperation]
@[simp] theorem State.endOperation_lk (s : State) (result : OpResult) : (s.endOperation result).lk = s.lk := by
  simp [State.endOperation]
@[simp] theorem State.endOperation_pt (s : State) (result : OpResult) : (s.endOperation result).pt = s.pt := by
  simp [State.endOperation]
@[simp] theorem State.endOperation_ci (s : State) (result : OpResult) : (s.endOperation result).ci = s.ci := by
  simp [State.endOperation]
@[simp] theorem State.endOperation_ct (s : State) (result : OpResult) : (s.endOperation result).ct = s.ct := by
  simp [State.endOperation]
@[simp] theorem State.endOperation_pu (s : State) (result : OpResult) : (s.endOperation result).pu = s.pu := by
  simp [State.endOperation]
@[simp] theorem State.endOperation_sc (s : State) (result : OpResult) : (s.endOperation result).sc = s.sc := by
  simp [State.endOperation]
@[simp] theorem State.endOperation_tu (s : State) (result : OpResult) : (s.endOperation result).tu = s.tu := by
  simp [State.endOperation]
@[simp] theorem State.endOperation_cc (s : State) (result : OpResult) : (s.endOperation result).cc = s.cc := by
  simp [State.endOperation]
@[simp] theorem State.endOperation_pq (s : State) (result : OpResult) : (s.endOperation result).pq = s.pq := by
  simp [State.endOperation]
@[simp] theorem State.endOperation_nfu_enables (s : State) (result : OpResult) : (s.endOperation result).nfu.enables = s.nfu.enables := by
  simp [State.endOperation]
@[simp] theorem State.endOperation_nfu_status (s : State) (result : OpResult) : (s.endOperation result).nfu.status = s.nfu.status := by
  simp [State.endOperation]
@[simp] theorem State.endOperation_nfu_masks (s : State) (result : OpResult) : (s.endOperation result).nfu.masks = s.nfu.masks := by
  simp [State.endOperation]
@[simp] theorem State.endOperation_nfu_severe (s : State) (result : OpResult) : (s.endOperation result).nfu.severe = s.nfu.severe := by
  simp [State.endOperation]
@[simp] theorem State.endOperation_nfu_first (s : State) (result : OpResult) : (s.endOperation result).nfu.first = s.nfu.first := by
  simp [State.endOperation]
@[simp] theorem State.endOperation_nfu_refusalRecord (s : State) (result : OpResult) : (s.endOperation result).nfu.refusalRecord = s.nfu.refusalRecord := by
  simp [State.endOperation]
@[simp] theorem State.endOperation_nfu_refusalNotice (s : State) (result : OpResult) : (s.endOperation result).nfu.refusalNotice = s.nfu.refusalNotice := by
  simp [State.endOperation]
@[simp] theorem State.endOperation_sck (s : State) (result : OpResult) : (s.endOperation result).sck = s.sck := by
  simp [State.endOperation]
set_option Elab.async false in
@[simp] theorem State.opWait_pending (s : State) : (s.opWait).pending = s.pending := by
  simp [State.opWait]
@[simp] theorem State.opWait_tagCount (s : State) : (s.opWait).tagCount = s.tagCount := by
  simp [State.opWait]
@[simp] theorem State.opWait_pp (s : State) : (s.opWait).pp = s.pp := by
  simp [State.opWait]
@[simp] theorem State.opWait_lk (s : State) : (s.opWait).lk = s.lk := by
  simp [State.opWait]
@[simp] theorem State.opWait_pt (s : State) : (s.opWait).pt = s.pt := by
  simp [State.opWait]
@[simp] theorem State.opWait_ci (s : State) : (s.opWait).ci = s.ci := by
  simp [State.opWait]
@[simp] theorem State.opWait_ct (s : State) : (s.opWait).ct = s.ct := by
  simp [State.opWait]
@[simp] theorem State.opWait_pu (s : State) : (s.opWait).pu = s.pu := by
  simp [State.opWait]
@[simp] theorem State.opWait_sc (s : State) : (s.opWait).sc = s.sc := by
  simp [State.opWait]
@[simp] theorem State.opWait_tu (s : State) : (s.opWait).tu = s.tu := by
  simp [State.opWait]
@[simp] theorem State.opWait_cc (s : State) : (s.opWait).cc = s.cc := by
  simp [State.opWait]
@[simp] theorem State.opWait_pq (s : State) : (s.opWait).pq = s.pq := by
  simp [State.opWait]
@[simp] theorem State.opWait_nfu (s : State) : (s.opWait).nfu = s.nfu := by
  simp [State.opWait]
@[simp] theorem State.opWait_sck (s : State) : (s.opWait).sck = s.sck := by
  simp [State.opWait]
set_option Elab.async false in
@[simp] theorem State.opAdvance_pending (s : State) (processed r1 r2 r3 : Nat) : (s.opAdvance processed r1 r2 r3).pending = s.pending := by
  simp [State.opAdvance]
@[simp] theorem State.opAdvance_tagCount (s : State) (processed r1 r2 r3 : Nat) : (s.opAdvance processed r1 r2 r3).tagCount = s.tagCount := by
  simp [State.opAdvance]
@[simp] theorem State.opAdvance_pp (s : State) (processed r1 r2 r3 : Nat) : (s.opAdvance processed r1 r2 r3).pp = s.pp := by
  simp [State.opAdvance]
@[simp] theorem State.opAdvance_lk (s : State) (processed r1 r2 r3 : Nat) : (s.opAdvance processed r1 r2 r3).lk = s.lk := by
  simp [State.opAdvance]
@[simp] theorem State.opAdvance_pt (s : State) (processed r1 r2 r3 : Nat) : (s.opAdvance processed r1 r2 r3).pt = s.pt := by
  simp [State.opAdvance]
@[simp] theorem State.opAdvance_ci (s : State) (processed r1 r2 r3 : Nat) : (s.opAdvance processed r1 r2 r3).ci = s.ci := by
  simp [State.opAdvance]
@[simp] theorem State.opAdvance_ct (s : State) (processed r1 r2 r3 : Nat) : (s.opAdvance processed r1 r2 r3).ct = s.ct := by
  simp [State.opAdvance]
@[simp] theorem State.opAdvance_pu (s : State) (processed r1 r2 r3 : Nat) : (s.opAdvance processed r1 r2 r3).pu = s.pu := by
  simp [State.opAdvance]
@[simp] theorem State.opAdvance_sc (s : State) (processed r1 r2 r3 : Nat) : (s.opAdvance processed r1 r2 r3).sc = s.sc := by
  simp [State.opAdvance]
@[simp] theorem State.opAdvance_tu (s : State) (processed r1 r2 r3 : Nat) : (s.opAdvance processed r1 r2 r3).tu = s.tu := by
  simp [State.opAdvance]
@[simp] theorem State.opAdvance_cc (s : State) (processed r1 r2 r3 : Nat) : (s.opAdvance processed r1 r2 r3).cc = s.cc := by
  simp [State.opAdvance]
@[simp] theorem State.opAdvance_pq (s : State) (processed r1 r2 r3 : Nat) : (s.opAdvance processed r1 r2 r3).pq = s.pq := by
  simp [State.opAdvance]
@[simp] theorem State.opAdvance_nfu (s : State) (processed r1 r2 r3 : Nat) : (s.opAdvance processed r1 r2 r3).nfu = s.nfu := by
  simp [State.opAdvance]
@[simp] theorem State.opAdvance_sck (s : State) (processed r1 r2 r3 : Nat) : (s.opAdvance processed r1 r2 r3).sck = s.sck := by
  simp [State.opAdvance]
set_option Elab.async false in
@[simp] theorem State.personsStep_pending (s : State) : (s.personsStep).pending = s.pending := by
  unfold State.personsStep; (repeat' first | split | dsimp only) <;> simp
@[simp] theorem State.personsStep_tagCount (s : State) : (s.personsStep).tagCount = s.tagCount := by
  unfold State.personsStep; (repeat' first | split | dsimp only) <;> simp
@[simp] theorem State.personsStep_pp (s : State) : (s.personsStep).pp = s.pp := by
  unfold State.personsStep; (repeat' first | split | dsimp only) <;> simp
@[simp] theorem State.personsStep_lk (s : State) : (s.personsStep).lk = s.lk := by
  unfold State.personsStep; (repeat' first | split | dsimp only) <;> simp
@[simp] theorem State.personsStep_ci (s : State) : (s.personsStep).ci = s.ci := by
  unfold State.personsStep; (repeat' first | split | dsimp only) <;> simp
@[simp] theorem State.personsStep_ct (s : State) : (s.personsStep).ct = s.ct := by
  unfold State.personsStep; (repeat' first | split | dsimp only) <;> simp
@[simp] theorem State.personsStep_pu (s : State) : (s.personsStep).pu = s.pu := by
  unfold State.personsStep; (repeat' first | split | dsimp only) <;> simp
@[simp] theorem State.personsStep_sc (s : State) : (s.personsStep).sc = s.sc := by
  unfold State.personsStep; (repeat' first | split | dsimp only) <;> simp
@[simp] theorem State.personsStep_tu (s : State) : (s.personsStep).tu = s.tu := by
  unfold State.personsStep; (repeat' first | split | dsimp only) <;> simp
@[simp] theorem State.personsStep_cc (s : State) : (s.personsStep).cc = s.cc := by
  unfold State.personsStep; (repeat' first | split | dsimp only) <;> simp
@[simp] theorem State.personsStep_pq_unposted (s : State) : (s.personsStep).pq.unposted = s.pq.unposted := by
  unfold State.personsStep; (repeat' first | split | dsimp only) <;> simp
@[simp] theorem State.personsStep_nfu_enables (s : State) : (s.personsStep).nfu.enables = s.nfu.enables := by
  unfold State.personsStep; (repeat' first | split | dsimp only) <;> simp
@[simp] theorem State.personsStep_nfu_status (s : State) : (s.personsStep).nfu.status = s.nfu.status := by
  unfold State.personsStep; (repeat' first | split | dsimp only) <;> simp
@[simp] theorem State.personsStep_nfu_masks (s : State) : (s.personsStep).nfu.masks = s.nfu.masks := by
  unfold State.personsStep; (repeat' first | split | dsimp only) <;> simp
@[simp] theorem State.personsStep_nfu_severe (s : State) : (s.personsStep).nfu.severe = s.nfu.severe := by
  unfold State.personsStep; (repeat' first | split | dsimp only) <;> simp
@[simp] theorem State.personsStep_nfu_first (s : State) : (s.personsStep).nfu.first = s.nfu.first := by
  unfold State.personsStep; (repeat' first | split | dsimp only) <;> simp
@[simp] theorem State.personsStep_nfu_refusalRecord (s : State) : (s.personsStep).nfu.refusalRecord = s.nfu.refusalRecord := by
  unfold State.personsStep; (repeat' first | split | dsimp only) <;> simp
@[simp] theorem State.personsStep_nfu_refusalNotice (s : State) : (s.personsStep).nfu.refusalNotice = s.nfu.refusalNotice := by
  unfold State.personsStep; (repeat' first | split | dsimp only) <;> simp
@[simp] theorem State.personsStep_sck (s : State) : (s.personsStep).sck = s.sck := by
  unfold State.personsStep; (repeat' first | split | dsimp only) <;> simp
set_option Elab.async false in
@[simp] theorem State.cardsStep_pending (s : State) : (s.cardsStep).pending = s.pending := by
  unfold State.cardsStep; split <;> (try split) <;> simp
@[simp] theorem State.cardsStep_tagCount (s : State) : (s.cardsStep).tagCount = s.tagCount := by
  unfold State.cardsStep; split <;> (try split) <;> simp
@[simp] theorem State.cardsStep_pp (s : State) : (s.cardsStep).pp = s.pp := by
  unfold State.cardsStep; split <;> (try split) <;> simp
@[simp] theorem State.cardsStep_lk (s : State) : (s.cardsStep).lk = s.lk := by
  unfold State.cardsStep; split <;> (try split) <;> simp
@[simp] theorem State.cardsStep_pt (s : State) : (s.cardsStep).pt = s.pt := by
  unfold State.cardsStep; split <;> (try split) <;> simp
@[simp] theorem State.cardsStep_ct (s : State) : (s.cardsStep).ct = s.ct := by
  unfold State.cardsStep; split <;> (try split) <;> simp
@[simp] theorem State.cardsStep_pu (s : State) : (s.cardsStep).pu = s.pu := by
  unfold State.cardsStep; split <;> (try split) <;> simp
@[simp] theorem State.cardsStep_sc (s : State) : (s.cardsStep).sc = s.sc := by
  unfold State.cardsStep; split <;> (try split) <;> simp
@[simp] theorem State.cardsStep_tu (s : State) : (s.cardsStep).tu = s.tu := by
  unfold State.cardsStep; split <;> (try split) <;> simp
@[simp] theorem State.cardsStep_cc (s : State) : (s.cardsStep).cc = s.cc := by
  unfold State.cardsStep; split <;> (try split) <;> simp
@[simp] theorem State.cardsStep_pq (s : State) : (s.cardsStep).pq = s.pq := by
  unfold State.cardsStep; split <;> (try split) <;> simp
@[simp] theorem State.cardsStep_nfu_enables (s : State) : (s.cardsStep).nfu.enables = s.nfu.enables := by
  unfold State.cardsStep; split <;> (try split) <;> simp
@[simp] theorem State.cardsStep_nfu_status (s : State) : (s.cardsStep).nfu.status = s.nfu.status := by
  unfold State.cardsStep; split <;> (try split) <;> simp
@[simp] theorem State.cardsStep_nfu_masks (s : State) : (s.cardsStep).nfu.masks = s.nfu.masks := by
  unfold State.cardsStep; split <;> (try split) <;> simp
@[simp] theorem State.cardsStep_nfu_severe (s : State) : (s.cardsStep).nfu.severe = s.nfu.severe := by
  unfold State.cardsStep; split <;> (try split) <;> simp
@[simp] theorem State.cardsStep_nfu_first (s : State) : (s.cardsStep).nfu.first = s.nfu.first := by
  unfold State.cardsStep; split <;> (try split) <;> simp
@[simp] theorem State.cardsStep_nfu_refusalRecord (s : State) : (s.cardsStep).nfu.refusalRecord = s.nfu.refusalRecord := by
  unfold State.cardsStep; split <;> (try split) <;> simp
@[simp] theorem State.cardsStep_nfu_refusalNotice (s : State) : (s.cardsStep).nfu.refusalNotice = s.nfu.refusalNotice := by
  unfold State.cardsStep; split <;> (try split) <;> simp
@[simp] theorem State.cardsStep_sck (s : State) : (s.cardsStep).sck = s.sck := by
  unfold State.cardsStep; split <;> (try split) <;> simp
set_option Elab.async false in
@[simp] theorem State.cabinsStep_pending (s : State) : (s.cabinsStep).pending = s.pending := by
  unfold State.cabinsStep; (repeat' first | split | dsimp only) <;> simp
@[simp] theorem State.cabinsStep_tagCount (s : State) : (s.cabinsStep).tagCount = s.tagCount := by
  unfold State.cabinsStep; (repeat' first | split | dsimp only) <;> simp
@[simp] theorem State.cabinsStep_pp (s : State) : (s.cabinsStep).pp = s.pp := by
  unfold State.cabinsStep; (repeat' first | split | dsimp only) <;> simp
@[simp] theorem State.cabinsStep_ci (s : State) : (s.cabinsStep).ci = s.ci := by
  unfold State.cabinsStep; (repeat' first | split | dsimp only) <;> simp
@[simp] theorem State.cabinsStep_pu (s : State) : (s.cabinsStep).pu = s.pu := by
  unfold State.cabinsStep; (repeat' first | split | dsimp only) <;> simp
@[simp] theorem State.cabinsStep_tu (s : State) : (s.cabinsStep).tu = s.tu := by
  unfold State.cabinsStep; (repeat' first | split | dsimp only) <;> simp
@[simp] theorem State.cabinsStep_cc (s : State) : (s.cabinsStep).cc = s.cc := by
  unfold State.cabinsStep; (repeat' first | split | dsimp only) <;> simp
@[simp] theorem State.cabinsStep_pq (s : State) : (s.cabinsStep).pq = s.pq := by
  unfold State.cabinsStep; (repeat' first | split | dsimp only) <;> simp
@[simp] theorem State.cabinsStep_nfu_enables (s : State) : (s.cabinsStep).nfu.enables = s.nfu.enables := by
  unfold State.cabinsStep; (repeat' first | split | dsimp only) <;> simp
@[simp] theorem State.cabinsStep_nfu_status (s : State) : (s.cabinsStep).nfu.status = s.nfu.status := by
  unfold State.cabinsStep; (repeat' first | split | dsimp only) <;> simp
@[simp] theorem State.cabinsStep_nfu_masks (s : State) : (s.cabinsStep).nfu.masks = s.nfu.masks := by
  unfold State.cabinsStep; (repeat' first | split | dsimp only) <;> simp
@[simp] theorem State.cabinsStep_nfu_severe (s : State) : (s.cabinsStep).nfu.severe = s.nfu.severe := by
  unfold State.cabinsStep; (repeat' first | split | dsimp only) <;> simp
@[simp] theorem State.cabinsStep_nfu_first (s : State) : (s.cabinsStep).nfu.first = s.nfu.first := by
  unfold State.cabinsStep; (repeat' first | split | dsimp only) <;> simp
@[simp] theorem State.cabinsStep_nfu_refusalRecord (s : State) : (s.cabinsStep).nfu.refusalRecord = s.nfu.refusalRecord := by
  unfold State.cabinsStep; (repeat' first | split | dsimp only) <;> simp
@[simp] theorem State.cabinsStep_nfu_refusalNotice (s : State) : (s.cabinsStep).nfu.refusalNotice = s.nfu.refusalNotice := by
  unfold State.cabinsStep; (repeat' first | split | dsimp only) <;> simp
@[simp] theorem State.cabinsStep_sck (s : State) : (s.cabinsStep).sck = s.sck := by
  unfold State.cabinsStep; (repeat' first | split | dsimp only) <;> simp
set_option Elab.async false in
@[simp] theorem State.disembark_pending (s : State) (p : Nat) (r : Person) : (s.disembark p r).pending = s.pending := by
  simp [State.disembark]
@[simp] theorem State.disembark_tagCount (s : State) (p : Nat) (r : Person) : (s.disembark p r).tagCount = s.tagCount := by
  simp [State.disembark]
@[simp] theorem State.disembark_pp (s : State) (p : Nat) (r : Person) : (s.disembark p r).pp = s.pp := by
  simp [State.disembark]
@[simp] theorem State.disembark_pu_lanes (s : State) (p : Nat) (r : Person) : (s.disembark p r).pu.lanes = s.pu.lanes := by
  simp [State.disembark]
@[simp] theorem State.disembark_pu_permitWindow (s : State) (p : Nat) (r : Person) : (s.disembark p r).pu.permitWindow = s.pu.permitWindow := by
  simp [State.disembark]
@[simp] theorem State.disembark_pu_deadline (s : State) (p : Nat) (r : Person) : (s.disembark p r).pu.deadline = s.pu.deadline := by
  simp [State.disembark]
@[simp] theorem State.disembark_pu_snapshot (s : State) (p : Nat) (r : Person) : (s.disembark p r).pu.snapshot = s.pu.snapshot := by
  simp [State.disembark]
@[simp] theorem State.disembark_pu_evidence (s : State) (p : Nat) (r : Person) : (s.disembark p r).pu.evidence = s.pu.evidence := by
  simp [State.disembark]
@[simp] theorem State.disembark_tu (s : State) (p : Nat) (r : Person) : (s.disembark p r).tu = s.tu := by
  simp [State.disembark]
@[simp] theorem State.disembark_cc (s : State) (p : Nat) (r : Person) : (s.disembark p r).cc = s.cc := by
  simp [State.disembark]
@[simp] theorem State.disembark_pq_unposted (s : State) (p : Nat) (r : Person) : (s.disembark p r).pq.unposted = s.pq.unposted := by
  simp [State.disembark]
@[simp] theorem State.disembark_oe (s : State) (p : Nat) (r : Person) : (s.disembark p r).oe = s.oe := by
  simp [State.disembark]
@[simp] theorem State.disembark_nfu_enables (s : State) (p : Nat) (r : Person) : (s.disembark p r).nfu.enables = s.nfu.enables := by
  simp [State.disembark]
@[simp] theorem State.disembark_nfu_status (s : State) (p : Nat) (r : Person) : (s.disembark p r).nfu.status = s.nfu.status := by
  simp [State.disembark]
@[simp] theorem State.disembark_nfu_masks (s : State) (p : Nat) (r : Person) : (s.disembark p r).nfu.masks = s.nfu.masks := by
  simp [State.disembark]
@[simp] theorem State.disembark_nfu_severe (s : State) (p : Nat) (r : Person) : (s.disembark p r).nfu.severe = s.nfu.severe := by
  simp [State.disembark]
@[simp] theorem State.disembark_nfu_first (s : State) (p : Nat) (r : Person) : (s.disembark p r).nfu.first = s.nfu.first := by
  simp [State.disembark]
@[simp] theorem State.disembark_nfu_refusalRecord (s : State) (p : Nat) (r : Person) : (s.disembark p r).nfu.refusalRecord = s.nfu.refusalRecord := by
  simp [State.disembark]
@[simp] theorem State.disembark_nfu_refusalNotice (s : State) (p : Nat) (r : Person) : (s.disembark p r).nfu.refusalNotice = s.nfu.refusalNotice := by
  simp [State.disembark]
@[simp] theorem State.disembark_sck (s : State) (p : Nat) (r : Person) : (s.disembark p r).sck = s.sck := by
  simp [State.disembark]
set_option Elab.async false in
@[simp] theorem State.disembarkStep_pending (s : State) : (s.disembarkStep).pending = s.pending := by
  unfold State.disembarkStep; (repeat' first | split | dsimp only) <;> simp
@[simp] theorem State.disembarkStep_tagCount (s : State) : (s.disembarkStep).tagCount = s.tagCount := by
  unfold State.disembarkStep; (repeat' first | split | dsimp only) <;> simp
@[simp] theorem State.disembarkStep_pp (s : State) : (s.disembarkStep).pp = s.pp := by
  unfold State.disembarkStep; (repeat' first | split | dsimp only) <;> simp
@[simp] theorem State.disembarkStep_pu_lanes (s : State) : (s.disembarkStep).pu.lanes = s.pu.lanes := by
  unfold State.disembarkStep; (repeat' first | split | dsimp only) <;> simp
@[simp] theorem State.disembarkStep_pu_permitWindow (s : State) : (s.disembarkStep).pu.permitWindow = s.pu.permitWindow := by
  unfold State.disembarkStep; (repeat' first | split | dsimp only) <;> simp
@[simp] theorem State.disembarkStep_pu_deadline (s : State) : (s.disembarkStep).pu.deadline = s.pu.deadline := by
  unfold State.disembarkStep; (repeat' first | split | dsimp only) <;> simp
@[simp] theorem State.disembarkStep_pu_snapshot (s : State) : (s.disembarkStep).pu.snapshot = s.pu.snapshot := by
  unfold State.disembarkStep; (repeat' first | split | dsimp only) <;> simp
@[simp] theorem State.disembarkStep_pu_evidence (s : State) : (s.disembarkStep).pu.evidence = s.pu.evidence := by
  unfold State.disembarkStep; (repeat' first | split | dsimp only) <;> simp
@[simp] theorem State.disembarkStep_tu (s : State) : (s.disembarkStep).tu = s.tu := by
  unfold State.disembarkStep; (repeat' first | split | dsimp only) <;> simp
@[simp] theorem State.disembarkStep_cc (s : State) : (s.disembarkStep).cc = s.cc := by
  unfold State.disembarkStep; (repeat' first | split | dsimp only) <;> simp
@[simp] theorem State.disembarkStep_pq_unposted (s : State) : (s.disembarkStep).pq.unposted = s.pq.unposted := by
  unfold State.disembarkStep; (repeat' first | split | dsimp only) <;> simp
@[simp] theorem State.disembarkStep_nfu_enables (s : State) : (s.disembarkStep).nfu.enables = s.nfu.enables := by
  unfold State.disembarkStep; (repeat' first | split | dsimp only) <;> simp
@[simp] theorem State.disembarkStep_nfu_status (s : State) : (s.disembarkStep).nfu.status = s.nfu.status := by
  unfold State.disembarkStep; (repeat' first | split | dsimp only) <;> simp
@[simp] theorem State.disembarkStep_nfu_masks (s : State) : (s.disembarkStep).nfu.masks = s.nfu.masks := by
  unfold State.disembarkStep; (repeat' first | split | dsimp only) <;> simp
@[simp] theorem State.disembarkStep_nfu_severe (s : State) : (s.disembarkStep).nfu.severe = s.nfu.severe := by
  unfold State.disembarkStep; (repeat' first | split | dsimp only) <;> simp
@[simp] theorem State.disembarkStep_nfu_first (s : State) : (s.disembarkStep).nfu.first = s.nfu.first := by
  unfold State.disembarkStep; (repeat' first | split | dsimp only) <;> simp
@[simp] theorem State.disembarkStep_nfu_refusalRecord (s : State) : (s.disembarkStep).nfu.refusalRecord = s.nfu.refusalRecord := by
  unfold State.disembarkStep; (repeat' first | split | dsimp only) <;> simp
@[simp] theorem State.disembarkStep_nfu_refusalNotice (s : State) : (s.disembarkStep).nfu.refusalNotice = s.nfu.refusalNotice := by
  unfold State.disembarkStep; (repeat' first | split | dsimp only) <;> simp
@[simp] theorem State.disembarkStep_sck (s : State) : (s.disembarkStep).sck = s.sck := by
  unfold State.disembarkStep; (repeat' first | split | dsimp only) <;> simp
set_option Elab.async false in
@[simp] theorem State.setMusterLine_pending (s : State) (level : Bool) : (s.setMusterLine level).pending = s.pending := by
  unfold State.setMusterLine; split <;> rfl
@[simp] theorem State.setMusterLine_tagCount (s : State) (level : Bool) : (s.setMusterLine level).tagCount = s.tagCount := by
  unfold State.setMusterLine; split <;> rfl
@[simp] theorem State.setMusterLine_pp (s : State) (level : Bool) : (s.setMusterLine level).pp = s.pp := by
  unfold State.setMusterLine; split <;> rfl
@[simp] theorem State.setMusterLine_lk (s : State) (level : Bool) : (s.setMusterLine level).lk = s.lk := by
  unfold State.setMusterLine; split <;> rfl
@[simp] theorem State.setMusterLine_pt (s : State) (level : Bool) : (s.setMusterLine level).pt = s.pt := by
  unfold State.setMusterLine; split <;> rfl
@[simp] theorem State.setMusterLine_ci (s : State) (level : Bool) : (s.setMusterLine level).ci = s.ci := by
  unfold State.setMusterLine; split <;> rfl
@[simp] theorem State.setMusterLine_ct (s : State) (level : Bool) : (s.setMusterLine level).ct = s.ct := by
  unfold State.setMusterLine; split <;> rfl
@[simp] theorem State.setMusterLine_pu (s : State) (level : Bool) : (s.setMusterLine level).pu = s.pu := by
  unfold State.setMusterLine; split <;> rfl
@[simp] theorem State.setMusterLine_sc (s : State) (level : Bool) : (s.setMusterLine level).sc = s.sc := by
  unfold State.setMusterLine; split <;> rfl
@[simp] theorem State.setMusterLine_tu (s : State) (level : Bool) : (s.setMusterLine level).tu = s.tu := by
  unfold State.setMusterLine; split <;> rfl
@[simp] theorem State.setMusterLine_cc (s : State) (level : Bool) : (s.setMusterLine level).cc = s.cc := by
  unfold State.setMusterLine; split <;> rfl
@[simp] theorem State.setMusterLine_pq (s : State) (level : Bool) : (s.setMusterLine level).pq = s.pq := by
  unfold State.setMusterLine; split <;> rfl
@[simp] theorem State.setMusterLine_oe (s : State) (level : Bool) : (s.setMusterLine level).oe = s.oe := by
  unfold State.setMusterLine; split <;> rfl
@[simp] theorem State.setMusterLine_nfu (s : State) (level : Bool) : (s.setMusterLine level).nfu = s.nfu := by
  unfold State.setMusterLine; split <;> rfl
@[simp] theorem State.setMusterLine_sck_clock (s : State) (level : Bool) : (s.setMusterLine level).sck.clock = s.sck.clock := by
  unfold State.setMusterLine; split <;> rfl
@[simp] theorem State.setMusterLine_sck_clockSet (s : State) (level : Bool) : (s.setMusterLine level).sck.clockSet = s.sck.clockSet := by
  unfold State.setMusterLine; split <;> rfl
@[simp] theorem State.setMusterLine_sck_ms (s : State) (level : Bool) : (s.setMusterLine level).sck.ms = s.sck.ms := by
  unfold State.setMusterLine; split <;> rfl
@[simp] theorem State.setMusterLine_sck_elapsed (s : State) (level : Bool) : (s.setMusterLine level).sck.elapsed = s.sck.elapsed := by
  unfold State.setMusterLine; split <;> rfl
@[simp] theorem State.setMusterLine_sck_openDay (s : State) (level : Bool) : (s.setMusterLine level).sck.openDay = s.sck.openDay := by
  unfold State.setMusterLine; split <;> rfl
@[simp] theorem State.setMusterLine_sck_muster (s : State) (level : Bool) : (s.setMusterLine level).sck.muster = s.sck.muster := by
  unfold State.setMusterLine; split <;> rfl
@[simp] theorem State.setMusterLine_sck_musterLevel (s : State) (level : Bool) : (s.setMusterLine level).sck.musterLevel = s.sck.musterLevel := by
  unfold State.setMusterLine; split <;> rfl
@[simp] theorem State.setMusterLine_sck_supm (s : State) (level : Bool) : (s.setMusterLine level).sck.supm = s.sck.supm := by
  unfold State.setMusterLine; split <;> rfl
@[simp] theorem State.setMusterLine_sck_supb (s : State) (level : Bool) : (s.setMusterLine level).sck.supb = s.sck.supb := by
  unfold State.setMusterLine; split <;> rfl
@[simp] theorem State.setMusterLine_sck_resetLine (s : State) (level : Bool) : (s.setMusterLine level).sck.resetLine = s.sck.resetLine := by
  unfold State.setMusterLine; split <;> rfl
@[simp] theorem State.setMusterLine_sck_mark (s : State) (level : Bool) : (s.setMusterLine level).sck.mark = s.sck.mark := by
  unfold State.setMusterLine; split <;> rfl
@[simp] theorem State.setMusterLine_sck_returned (s : State) (level : Bool) : (s.setMusterLine level).sck.returned = s.sck.returned := by
  unfold State.setMusterLine; split <;> rfl
@[simp] theorem State.setMusterLine_sck_lastReset (s : State) (level : Bool) : (s.setMusterLine level).sck.lastReset = s.sck.lastReset := by
  unfold State.setMusterLine; split <;> rfl
set_option Elab.async false in
@[simp] theorem State.musterRise_pending (s : State) : (s.musterRise).pending = s.pending := by
  unfold State.musterRise State.musterChange; split <;> (try split) <;> simp
@[simp] theorem State.musterRise_tagCount (s : State) : (s.musterRise).tagCount = s.tagCount := by
  unfold State.musterRise State.musterChange; split <;> (try split) <;> simp
@[simp] theorem State.musterRise_pp (s : State) : (s.musterRise).pp = s.pp := by
  unfold State.musterRise State.musterChange; split <;> (try split) <;> simp
@[simp] theorem State.musterRise_ci (s : State) : (s.musterRise).ci = s.ci := by
  unfold State.musterRise State.musterChange; split <;> (try split) <;> simp
@[simp] theorem State.musterRise_ct (s : State) : (s.musterRise).ct = s.ct := by
  unfold State.musterRise State.musterChange; split <;> (try split) <;> simp
@[simp] theorem State.musterRise_pu_counts (s : State) : (s.musterRise).pu.counts = s.pu.counts := by
  unfold State.musterRise State.musterChange; split <;> (try split) <;> simp
@[simp] theorem State.musterRise_pu_permitWindow (s : State) : (s.musterRise).pu.permitWindow = s.pu.permitWindow := by
  unfold State.musterRise State.musterChange; split <;> (try split) <;> simp
@[simp] theorem State.musterRise_pu_deadline (s : State) : (s.musterRise).pu.deadline = s.pu.deadline := by
  unfold State.musterRise State.musterChange; split <;> (try split) <;> simp
@[simp] theorem State.musterRise_pu_evidence (s : State) : (s.musterRise).pu.evidence = s.pu.evidence := by
  unfold State.musterRise State.musterChange; split <;> (try split) <;> simp
@[simp] theorem State.musterRise_tu (s : State) : (s.musterRise).tu = s.tu := by
  unfold State.musterRise State.musterChange; split <;> (try split) <;> simp
@[simp] theorem State.musterRise_cc (s : State) : (s.musterRise).cc = s.cc := by
  unfold State.musterRise State.musterChange; split <;> (try split) <;> simp
@[simp] theorem State.musterRise_pq (s : State) : (s.musterRise).pq = s.pq := by
  unfold State.musterRise State.musterChange; split <;> (try split) <;> simp
@[simp] theorem State.musterRise_nfu_enables (s : State) : (s.musterRise).nfu.enables = s.nfu.enables := by
  unfold State.musterRise State.musterChange; split <;> (try split) <;> simp
@[simp] theorem State.musterRise_nfu_status (s : State) : (s.musterRise).nfu.status = s.nfu.status := by
  unfold State.musterRise State.musterChange; split <;> (try split) <;> simp
@[simp] theorem State.musterRise_nfu_masks (s : State) : (s.musterRise).nfu.masks = s.nfu.masks := by
  unfold State.musterRise State.musterChange; split <;> (try split) <;> simp
@[simp] theorem State.musterRise_nfu_severe (s : State) : (s.musterRise).nfu.severe = s.nfu.severe := by
  unfold State.musterRise State.musterChange; split <;> (try split) <;> simp
@[simp] theorem State.musterRise_nfu_first (s : State) : (s.musterRise).nfu.first = s.nfu.first := by
  unfold State.musterRise State.musterChange; split <;> (try split) <;> simp
@[simp] theorem State.musterRise_nfu_refusalRecord (s : State) : (s.musterRise).nfu.refusalRecord = s.nfu.refusalRecord := by
  unfold State.musterRise State.musterChange; split <;> (try split) <;> simp
@[simp] theorem State.musterRise_nfu_refusalNotice (s : State) : (s.musterRise).nfu.refusalNotice = s.nfu.refusalNotice := by
  unfold State.musterRise State.musterChange; split <;> (try split) <;> simp
@[simp] theorem State.musterRise_sck_clock (s : State) : (s.musterRise).sck.clock = s.sck.clock := by
  unfold State.musterRise State.musterChange; split <;> (try split) <;> simp
@[simp] theorem State.musterRise_sck_clockSet (s : State) : (s.musterRise).sck.clockSet = s.sck.clockSet := by
  unfold State.musterRise State.musterChange; split <;> (try split) <;> simp
@[simp] theorem State.musterRise_sck_ms (s : State) : (s.musterRise).sck.ms = s.sck.ms := by
  unfold State.musterRise State.musterChange; split <;> (try split) <;> simp
@[simp] theorem State.musterRise_sck_elapsed (s : State) : (s.musterRise).sck.elapsed = s.sck.elapsed := by
  unfold State.musterRise State.musterChange; split <;> (try split) <;> simp
@[simp] theorem State.musterRise_sck_openDay (s : State) : (s.musterRise).sck.openDay = s.sck.openDay := by
  unfold State.musterRise State.musterChange; split <;> (try split) <;> simp
@[simp] theorem State.musterRise_sck_musterLevel (s : State) : (s.musterRise).sck.musterLevel = s.sck.musterLevel := by
  unfold State.musterRise State.musterChange; split <;> (try split) <;> simp
@[simp] theorem State.musterRise_sck_supm (s : State) : (s.musterRise).sck.supm = s.sck.supm := by
  unfold State.musterRise State.musterChange; split <;> (try split) <;> simp
@[simp] theorem State.musterRise_sck_supb (s : State) : (s.musterRise).sck.supb = s.sck.supb := by
  unfold State.musterRise State.musterChange; split <;> (try split) <;> simp
@[simp] theorem State.musterRise_sck_resetLine (s : State) : (s.musterRise).sck.resetLine = s.sck.resetLine := by
  unfold State.musterRise State.musterChange; split <;> (try split) <;> simp
@[simp] theorem State.musterRise_sck_mark (s : State) : (s.musterRise).sck.mark = s.sck.mark := by
  unfold State.musterRise State.musterChange; split <;> (try split) <;> simp
@[simp] theorem State.musterRise_sck_returned (s : State) : (s.musterRise).sck.returned = s.sck.returned := by
  unfold State.musterRise State.musterChange; split <;> (try split) <;> simp
@[simp] theorem State.musterRise_sck_lastReset (s : State) : (s.musterRise).sck.lastReset = s.sck.lastReset := by
  unfold State.musterRise State.musterChange; split <;> (try split) <;> simp
set_option Elab.async false in
@[simp] theorem State.musterFall_pending (s : State) : (s.musterFall).pending = s.pending := by
  unfold State.musterFall State.musterChange; split <;> (try split) <;> simp
@[simp] theorem State.musterFall_tagCount (s : State) : (s.musterFall).tagCount = s.tagCount := by
  unfold State.musterFall State.musterChange; split <;> (try split) <;> simp
@[simp] theorem State.musterFall_pp (s : State) : (s.musterFall).pp = s.pp := by
  unfold State.musterFall State.musterChange; split <;> (try split) <;> simp
@[simp] theorem State.musterFall_pt (s : State) : (s.musterFall).pt = s.pt := by
  unfold State.musterFall State.musterChange; split <;> (try split) <;> simp
@[simp] theorem State.musterFall_ci (s : State) : (s.musterFall).ci = s.ci := by
  unfold State.musterFall State.musterChange; split <;> (try split) <;> simp
@[simp] theorem State.musterFall_ct (s : State) : (s.musterFall).ct = s.ct := by
  unfold State.musterFall State.musterChange; split <;> (try split) <;> simp
@[simp] theorem State.musterFall_pu_counts (s : State) : (s.musterFall).pu.counts = s.pu.counts := by
  unfold State.musterFall State.musterChange; split <;> (try split) <;> simp
@[simp] theorem State.musterFall_pu_permitWindow (s : State) : (s.musterFall).pu.permitWindow = s.pu.permitWindow := by
  unfold State.musterFall State.musterChange; split <;> (try split) <;> simp
@[simp] theorem State.musterFall_pu_deadline (s : State) : (s.musterFall).pu.deadline = s.pu.deadline := by
  unfold State.musterFall State.musterChange; split <;> (try split) <;> simp
@[simp] theorem State.musterFall_pu_snapshot (s : State) : (s.musterFall).pu.snapshot = s.pu.snapshot := by
  unfold State.musterFall State.musterChange; split <;> (try split) <;> simp
@[simp] theorem State.musterFall_pu_evidence (s : State) : (s.musterFall).pu.evidence = s.pu.evidence := by
  unfold State.musterFall State.musterChange; split <;> (try split) <;> simp
@[simp] theorem State.musterFall_tu (s : State) : (s.musterFall).tu = s.tu := by
  unfold State.musterFall State.musterChange; split <;> (try split) <;> simp
@[simp] theorem State.musterFall_cc (s : State) : (s.musterFall).cc = s.cc := by
  unfold State.musterFall State.musterChange; split <;> (try split) <;> simp
@[simp] theorem State.musterFall_pq (s : State) : (s.musterFall).pq = s.pq := by
  unfold State.musterFall State.musterChange; split <;> (try split) <;> simp
@[simp] theorem State.musterFall_oe (s : State) : (s.musterFall).oe = s.oe := by
  unfold State.musterFall State.musterChange; split <;> (try split) <;> simp
@[simp] theorem State.musterFall_nfu_enables (s : State) : (s.musterFall).nfu.enables = s.nfu.enables := by
  unfold State.musterFall State.musterChange; split <;> (try split) <;> simp
@[simp] theorem State.musterFall_nfu_status (s : State) : (s.musterFall).nfu.status = s.nfu.status := by
  unfold State.musterFall State.musterChange; split <;> (try split) <;> simp
@[simp] theorem State.musterFall_nfu_masks (s : State) : (s.musterFall).nfu.masks = s.nfu.masks := by
  unfold State.musterFall State.musterChange; split <;> (try split) <;> simp
@[simp] theorem State.musterFall_nfu_severe (s : State) : (s.musterFall).nfu.severe = s.nfu.severe := by
  unfold State.musterFall State.musterChange; split <;> (try split) <;> simp
@[simp] theorem State.musterFall_nfu_first (s : State) : (s.musterFall).nfu.first = s.nfu.first := by
  unfold State.musterFall State.musterChange; split <;> (try split) <;> simp
@[simp] theorem State.musterFall_nfu_refusalRecord (s : State) : (s.musterFall).nfu.refusalRecord = s.nfu.refusalRecord := by
  unfold State.musterFall State.musterChange; split <;> (try split) <;> simp
@[simp] theorem State.musterFall_nfu_refusalNotice (s : State) : (s.musterFall).nfu.refusalNotice = s.nfu.refusalNotice := by
  unfold State.musterFall State.musterChange; split <;> (try split) <;> simp
@[simp] theorem State.musterFall_sck_clock (s : State) : (s.musterFall).sck.clock = s.sck.clock := by
  unfold State.musterFall State.musterChange; split <;> (try split) <;> simp
@[simp] theorem State.musterFall_sck_clockSet (s : State) : (s.musterFall).sck.clockSet = s.sck.clockSet := by
  unfold State.musterFall State.musterChange; split <;> (try split) <;> simp
@[simp] theorem State.musterFall_sck_ms (s : State) : (s.musterFall).sck.ms = s.sck.ms := by
  unfold State.musterFall State.musterChange; split <;> (try split) <;> simp
@[simp] theorem State.musterFall_sck_elapsed (s : State) : (s.musterFall).sck.elapsed = s.sck.elapsed := by
  unfold State.musterFall State.musterChange; split <;> (try split) <;> simp
@[simp] theorem State.musterFall_sck_openDay (s : State) : (s.musterFall).sck.openDay = s.sck.openDay := by
  unfold State.musterFall State.musterChange; split <;> (try split) <;> simp
@[simp] theorem State.musterFall_sck_musterLevel (s : State) : (s.musterFall).sck.musterLevel = s.sck.musterLevel := by
  unfold State.musterFall State.musterChange; split <;> (try split) <;> simp
@[simp] theorem State.musterFall_sck_supm (s : State) : (s.musterFall).sck.supm = s.sck.supm := by
  unfold State.musterFall State.musterChange; split <;> (try split) <;> simp
@[simp] theorem State.musterFall_sck_supb (s : State) : (s.musterFall).sck.supb = s.sck.supb := by
  unfold State.musterFall State.musterChange; split <;> (try split) <;> simp
@[simp] theorem State.musterFall_sck_resetLine (s : State) : (s.musterFall).sck.resetLine = s.sck.resetLine := by
  unfold State.musterFall State.musterChange; split <;> (try split) <;> simp
@[simp] theorem State.musterFall_sck_mark (s : State) : (s.musterFall).sck.mark = s.sck.mark := by
  unfold State.musterFall State.musterChange; split <;> (try split) <;> simp
@[simp] theorem State.musterFall_sck_returned (s : State) : (s.musterFall).sck.returned = s.sck.returned := by
  unfold State.musterFall State.musterChange; split <;> (try split) <;> simp
@[simp] theorem State.musterFall_sck_lastReset (s : State) : (s.musterFall).sck.lastReset = s.sck.lastReset := by
  unfold State.musterFall State.musterChange; split <;> (try split) <;> simp

/-! ### A millisecond (R152, R154, R159, R79) and an abandoned answer (R71) -/

/-- R154, R79: a 48-bit count stays one. -/
theorem nextMs_lt (n : Nat) : nextMs n < 2 ^ 48 := by
  unfold nextMs Config.topMs; split
  · omega
  · exact Nat.lt_of_lt_of_le (Nat.mod_lt _ (by decide)) (by decide)

/-- R154, R79: below its top a count gains 1. -/
theorem nextMs_of_lt {n : Nat} (h : n < Config.topMs) : nextMs n = n + 1 := if_pos h

/-- R152: what a millisecond does to the ship clock, said once. -/
theorem ShipClock.run_eq (c : ShipClock) : c.run = { c with
    ms := if c.supm || c.supb then (if c.ms + 1 < 1000 then c.ms + 1 else 0) else c.ms
    clock := if (c.supm || c.supb) ∧ ¬c.ms + 1 < 1000 ∧ c.clock < Config.top32 then c.clock + 1 else c.clock } := by
  unfold ShipClock.run
  by_cases h : (c.supm || c.supb) = true <;> by_cases h1 : c.ms + 1 < 1000 <;> simp [h, h1]

/-- R159: what a millisecond does to the filter of the MUSTER line, said once. -/
theorem ShipClock.filter_eq (c : ShipClock) : c.filter = { c with
    musterLevel := if Config.filterMs ≤ c.musterHold + 1 then c.musterLine else c.musterLevel
    musterHold := if c.musterLine ≠ c.musterLevel ∧ c.musterHold + 1 < Config.filterMs then c.musterHold + 1 else 0 } := by
  obtain ⟨_, _, _, _, _, _, level, line, hold⟩ := c
  unfold ShipClock.filter
  by_cases h : line = level <;> by_cases h1 : hold + 1 < Config.filterMs <;>
    simp [h, h1, Nat.not_le.mpr, Nat.le_of_not_lt]

/-- R159: the filter measures less than 50 ms. -/
theorem ShipClock.filter_hold_lt (c : ShipClock) : c.filter.musterHold < Config.filterMs := by
  rw [ShipClock.filter_eq]
  show (if _ then _ else _) < _
  split
  · rename_i h; exact h.2
  · decide

/-- R79: counting a doze millisecond writes the segments alone. -/
theorem State.countDoze_frame (s : State) (g : Nat) : s.countDoze g = { s with sc := (s.countDoze g).sc } := by
  unfold State.countDoze; split <;> rfl

set_option Elab.async false in
theorem State.countDoze_fold_frame (gs : List Nat) (s : State) :
    gs.foldl State.countDoze s = { s with sc := (gs.foldl State.countDoze s).sc } := by
  induction gs generalizing s with
  | nil => rfl
  | cons g gs ih =>
    simp only [List.foldl_cons]
    rw [ih, State.countDoze_frame s g]

/-- R152, R154, R159, R79: a millisecond writes the clocks and the doze counters alone. -/
theorem State.tick_frame (s : State) : s.tick = { s with sck := s.tick.sck, sc := s.tick.sc } := by
  unfold State.tick
  split
  · rw [State.countDoze_fold_frame]
  · rfl

/-- R71: an answer decided while its link is not UP is abandoned. -/
theorem State.queueAnswer_abandoned {s : State} {n : Nat} (f : Frame) (h : (s.link n).state ≠ .up) :
    s.queueAnswer n f = s := if_neg h

end Sys2Proof.Machine
end

