-- ==== Sys2Proof/Laws/Commands.lean ====
section
/-! SUPPORT. What the owners of the purser commands leave as it is: one lemma for each field.
The first lemma about an operation is elaborated before the others, so that they do not wait for each other to make the
equations that all of them unfold it by. -/

namespace Sys2Proof.Machine

set_option Elab.async false in
@[simp] theorem State.joinCabin_pending (s : State) (c p : Nat) : (s.joinCabin c p).pending = s.pending := by
  simp [State.joinCabin]
@[simp] theorem State.joinCabin_tagCount (s : State) (c p : Nat) : (s.joinCabin c p).tagCount = s.tagCount := by
  simp [State.joinCabin]
@[simp] theorem State.joinCabin_pp (s : State) (c p : Nat) : (s.joinCabin c p).pp = s.pp := by
  simp [State.joinCabin]
@[simp] theorem State.joinCabin_lk (s : State) (c p : Nat) : (s.joinCabin c p).lk = s.lk := by
  simp [State.joinCabin]
@[simp] theorem State.joinCabin_pt (s : State) (c p : Nat) : (s.joinCabin c p).pt = s.pt := by
  simp [State.joinCabin]
@[simp] theorem State.joinCabin_ci (s : State) (c p : Nat) : (s.joinCabin c p).ci = s.ci := by
  simp [State.joinCabin]
@[simp] theorem State.joinCabin_pu (s : State) (c p : Nat) : (s.joinCabin c p).pu = s.pu := by
  simp [State.joinCabin]
@[simp] theorem State.joinCabin_sc (s : State) (c p : Nat) : (s.joinCabin c p).sc = s.sc := by
  simp [State.joinCabin]
@[simp] theorem State.joinCabin_tu (s : State) (c p : Nat) : (s.joinCabin c p).tu = s.tu := by
  simp [State.joinCabin]
@[simp] theorem State.joinCabin_cc (s : State) (c p : Nat) : (s.joinCabin c p).cc = s.cc := by
  simp [State.joinCabin]
@[simp] theorem State.joinCabin_pq (s : State) (c p : Nat) : (s.joinCabin c p).pq = s.pq := by
  simp [State.joinCabin]
@[simp] theorem State.joinCabin_oe (s : State) (c p : Nat) : (s.joinCabin c p).oe = s.oe := by
  simp [State.joinCabin]
@[simp] theorem State.joinCabin_nfu (s : State) (c p : Nat) : (s.joinCabin c p).nfu = s.nfu := by
  simp [State.joinCabin]
@[simp] theorem State.joinCabin_sck (s : State) (c p : Nat) : (s.joinCabin c p).sck = s.sck := by
  simp [State.joinCabin]
set_option Elab.async false in
@[simp] theorem State.moveOut_pending (s : State) (p : Nat) (old : Option Nat) : (s.moveOut p old).pending = s.pending := by
  unfold State.moveOut; split <;> simp
@[simp] theorem State.moveOut_tagCount (s : State) (p : Nat) (old : Option Nat) : (s.moveOut p old).tagCount = s.tagCount := by
  unfold State.moveOut; split <;> simp
@[simp] theorem State.moveOut_pp (s : State) (p : Nat) (old : Option Nat) : (s.moveOut p old).pp = s.pp := by
  unfold State.moveOut; split <;> simp
@[simp] theorem State.moveOut_ci (s : State) (p : Nat) (old : Option Nat) : (s.moveOut p old).ci = s.ci := by
  unfold State.moveOut; split <;> simp
@[simp] theorem State.moveOut_pu (s : State) (p : Nat) (old : Option Nat) : (s.moveOut p old).pu = s.pu := by
  unfold State.moveOut; split <;> simp
@[simp] theorem State.moveOut_tu (s : State) (p : Nat) (old : Option Nat) : (s.moveOut p old).tu = s.tu := by
  unfold State.moveOut; split <;> simp
@[simp] theorem State.moveOut_cc (s : State) (p : Nat) (old : Option Nat) : (s.moveOut p old).cc = s.cc := by
  unfold State.moveOut; split <;> simp
@[simp] theorem State.moveOut_pq (s : State) (p : Nat) (old : Option Nat) : (s.moveOut p old).pq = s.pq := by
  unfold State.moveOut; split <;> simp
@[simp] theorem State.moveOut_oe (s : State) (p : Nat) (old : Option Nat) : (s.moveOut p old).oe = s.oe := by
  unfold State.moveOut; split <;> simp
@[simp] theorem State.moveOut_nfu_enables (s : State) (p : Nat) (old : Option Nat) : (s.moveOut p old).nfu.enables = s.nfu.enables := by
  unfold State.moveOut; split <;> simp
@[simp] theorem State.moveOut_nfu_status (s : State) (p : Nat) (old : Option Nat) : (s.moveOut p old).nfu.status = s.nfu.status := by
  unfold State.moveOut; split <;> simp
@[simp] theorem State.moveOut_nfu_masks (s : State) (p : Nat) (old : Option Nat) : (s.moveOut p old).nfu.masks = s.nfu.masks := by
  unfold State.moveOut; split <;> simp
@[simp] theorem State.moveOut_nfu_severe (s : State) (p : Nat) (old : Option Nat) : (s.moveOut p old).nfu.severe = s.nfu.severe := by
  unfold State.moveOut; split <;> simp
@[simp] theorem State.moveOut_nfu_first (s : State) (p : Nat) (old : Option Nat) : (s.moveOut p old).nfu.first = s.nfu.first := by
  unfold State.moveOut; split <;> simp
@[simp] theorem State.moveOut_nfu_refusalRecord (s : State) (p : Nat) (old : Option Nat) : (s.moveOut p old).nfu.refusalRecord = s.nfu.refusalRecord := by
  unfold State.moveOut; split <;> simp
@[simp] theorem State.moveOut_nfu_refusalNotice (s : State) (p : Nat) (old : Option Nat) : (s.moveOut p old).nfu.refusalNotice = s.nfu.refusalNotice := by
  unfold State.moveOut; split <;> simp
@[simp] theorem State.moveOut_sck (s : State) (p : Nat) (old : Option Nat) : (s.moveOut p old).sck = s.sck := by
  unfold State.moveOut; split <;> simp
set_option Elab.async false in
@[simp] theorem State.moveIn_pending (s : State) (p c : Nat) : (s.moveIn p c).pending = s.pending := by
  simp [State.moveIn]
@[simp] theorem State.moveIn_tagCount (s : State) (p c : Nat) : (s.moveIn p c).tagCount = s.tagCount := by
  simp [State.moveIn]
@[simp] theorem State.moveIn_pp (s : State) (p c : Nat) : (s.moveIn p c).pp = s.pp := by
  simp [State.moveIn]
@[simp] theorem State.moveIn_lk (s : State) (p c : Nat) : (s.moveIn p c).lk = s.lk := by
  simp [State.moveIn]
@[simp] theorem State.moveIn_ci (s : State) (p c : Nat) : (s.moveIn p c).ci = s.ci := by
  simp [State.moveIn]
@[simp] theorem State.moveIn_pu (s : State) (p c : Nat) : (s.moveIn p c).pu = s.pu := by
  simp [State.moveIn]
@[simp] theorem State.moveIn_sc (s : State) (p c : Nat) : (s.moveIn p c).sc = s.sc := by
  simp [State.moveIn]
@[simp] theorem State.moveIn_tu (s : State) (p c : Nat) : (s.moveIn p c).tu = s.tu := by
  simp [State.moveIn]
@[simp] theorem State.moveIn_cc (s : State) (p c : Nat) : (s.moveIn p c).cc = s.cc := by
  simp [State.moveIn]
@[simp] theorem State.moveIn_pq (s : State) (p c : Nat) : (s.moveIn p c).pq = s.pq := by
  simp [State.moveIn]
@[simp] theorem State.moveIn_oe (s : State) (p c : Nat) : (s.moveIn p c).oe = s.oe := by
  simp [State.moveIn]
@[simp] theorem State.moveIn_nfu (s : State) (p c : Nat) : (s.moveIn p c).nfu = s.nfu := by
  simp [State.moveIn]
@[simp] theorem State.moveIn_sck (s : State) (p c : Nat) : (s.moveIn p c).sck = s.sck := by
  simp [State.moveIn]
set_option Elab.async false in
@[simp] theorem State.evictOldest_pending (s : State) : (s.evictOldest).pending = s.pending := by
  unfold State.evictOldest; split <;> rfl
@[simp] theorem State.evictOldest_tagCount (s : State) : (s.evictOldest).tagCount = s.tagCount := by
  unfold State.evictOldest; split <;> rfl
@[simp] theorem State.evictOldest_pp (s : State) : (s.evictOldest).pp = s.pp := by
  unfold State.evictOldest; split <;> rfl
@[simp] theorem State.evictOldest_lk (s : State) : (s.evictOldest).lk = s.lk := by
  unfold State.evictOldest; split <;> rfl
@[simp] theorem State.evictOldest_pt (s : State) : (s.evictOldest).pt = s.pt := by
  unfold State.evictOldest; split <;> rfl
@[simp] theorem State.evictOldest_ct (s : State) : (s.evictOldest).ct = s.ct := by
  unfold State.evictOldest; split <;> rfl
@[simp] theorem State.evictOldest_pu (s : State) : (s.evictOldest).pu = s.pu := by
  unfold State.evictOldest; split <;> rfl
@[simp] theorem State.evictOldest_sc (s : State) : (s.evictOldest).sc = s.sc := by
  unfold State.evictOldest; split <;> rfl
@[simp] theorem State.evictOldest_tu (s : State) : (s.evictOldest).tu = s.tu := by
  unfold State.evictOldest; split <;> rfl
@[simp] theorem State.evictOldest_cc (s : State) : (s.evictOldest).cc = s.cc := by
  unfold State.evictOldest; split <;> rfl
@[simp] theorem State.evictOldest_pq (s : State) : (s.evictOldest).pq = s.pq := by
  unfold State.evictOldest; split <;> rfl
@[simp] theorem State.evictOldest_oe (s : State) : (s.evictOldest).oe = s.oe := by
  unfold State.evictOldest; split <;> rfl
@[simp] theorem State.evictOldest_nfu (s : State) : (s.evictOldest).nfu = s.nfu := by
  unfold State.evictOldest; split <;> rfl
@[simp] theorem State.evictOldest_sck (s : State) : (s.evictOldest).sck = s.sck := by
  unfold State.evictOldest; split <;> rfl
set_option Elab.async false in
@[simp] theorem State.freePerson_pending (s : State) (p : Nat) : (s.freePerson p).pending = s.pending := by
  unfold State.freePerson; split <;> rfl
@[simp] theorem State.freePerson_tagCount (s : State) (p : Nat) : (s.freePerson p).tagCount = s.tagCount := by
  unfold State.freePerson; split <;> rfl
@[simp] theorem State.freePerson_pp (s : State) (p : Nat) : (s.freePerson p).pp = s.pp := by
  unfold State.freePerson; split <;> rfl
@[simp] theorem State.freePerson_lk (s : State) (p : Nat) : (s.freePerson p).lk = s.lk := by
  unfold State.freePerson; split <;> rfl
@[simp] theorem State.freePerson_ci (s : State) (p : Nat) : (s.freePerson p).ci = s.ci := by
  unfold State.freePerson; split <;> rfl
@[simp] theorem State.freePerson_ct (s : State) (p : Nat) : (s.freePerson p).ct = s.ct := by
  unfold State.freePerson; split <;> rfl
@[simp] theorem State.freePerson_pu_lanes (s : State) (p : Nat) : (s.freePerson p).pu.lanes = s.pu.lanes := by
  unfold State.freePerson; split <;> rfl
@[simp] theorem State.freePerson_pu_permitWindow (s : State) (p : Nat) : (s.freePerson p).pu.permitWindow = s.pu.permitWindow := by
  unfold State.freePerson; split <;> rfl
@[simp] theorem State.freePerson_pu_deadline (s : State) (p : Nat) : (s.freePerson p).pu.deadline = s.pu.deadline := by
  unfold State.freePerson; split <;> rfl
@[simp] theorem State.freePerson_pu_snapshot (s : State) (p : Nat) : (s.freePerson p).pu.snapshot = s.pu.snapshot := by
  unfold State.freePerson; split <;> rfl
@[simp] theorem State.freePerson_sc (s : State) (p : Nat) : (s.freePerson p).sc = s.sc := by
  unfold State.freePerson; split <;> rfl
@[simp] theorem State.freePerson_tu (s : State) (p : Nat) : (s.freePerson p).tu = s.tu := by
  unfold State.freePerson; split <;> rfl
@[simp] theorem State.freePerson_cc (s : State) (p : Nat) : (s.freePerson p).cc = s.cc := by
  unfold State.freePerson; split <;> rfl
@[simp] theorem State.freePerson_pq (s : State) (p : Nat) : (s.freePerson p).pq = s.pq := by
  unfold State.freePerson; split <;> rfl
@[simp] theorem State.freePerson_oe (s : State) (p : Nat) : (s.freePerson p).oe = s.oe := by
  unfold State.freePerson; split <;> rfl
@[simp] theorem State.freePerson_nfu (s : State) (p : Nat) : (s.freePerson p).nfu = s.nfu := by
  unfold State.freePerson; split <;> rfl
@[simp] theorem State.freePerson_sck (s : State) (p : Nat) : (s.freePerson p).sck = s.sck := by
  unfold State.freePerson; split <;> rfl
set_option Elab.async false in
@[simp] theorem setCabin_pending (c : Nat) (inUse : Bool) (label : Nat) (s : State) : (setCabin c inUse label s).1.pending = s.pending := by
  unfold setCabin; (repeat' first | split | dsimp only) <;> simp [State.refuse]
@[simp] theorem setCabin_tagCount (c : Nat) (inUse : Bool) (label : Nat) (s : State) : (setCabin c inUse label s).1.tagCount = s.tagCount := by
  unfold setCabin; (repeat' first | split | dsimp only) <;> simp [State.refuse]
@[simp] theorem setCabin_pp (c : Nat) (inUse : Bool) (label : Nat) (s : State) : (setCabin c inUse label s).1.pp = s.pp := by
  unfold setCabin; (repeat' first | split | dsimp only) <;> simp [State.refuse]
@[simp] theorem setCabin_lk (c : Nat) (inUse : Bool) (label : Nat) (s : State) : (setCabin c inUse label s).1.lk = s.lk := by
  unfold setCabin; (repeat' first | split | dsimp only) <;> simp [State.refuse]
@[simp] theorem setCabin_pt (c : Nat) (inUse : Bool) (label : Nat) (s : State) : (setCabin c inUse label s).1.pt = s.pt := by
  unfold setCabin; (repeat' first | split | dsimp only) <;> simp [State.refuse]
@[simp] theorem setCabin_ci (c : Nat) (inUse : Bool) (label : Nat) (s : State) : (setCabin c inUse label s).1.ci = s.ci := by
  unfold setCabin; (repeat' first | split | dsimp only) <;> simp [State.refuse]
@[simp] theorem setCabin_pu (c : Nat) (inUse : Bool) (label : Nat) (s : State) : (setCabin c inUse label s).1.pu = s.pu := by
  unfold setCabin; (repeat' first | split | dsimp only) <;> simp [State.refuse]
@[simp] theorem setCabin_sc (c : Nat) (inUse : Bool) (label : Nat) (s : State) : (setCabin c inUse label s).1.sc = s.sc := by
  unfold setCabin; (repeat' first | split | dsimp only) <;> simp [State.refuse]
@[simp] theorem setCabin_tu (c : Nat) (inUse : Bool) (label : Nat) (s : State) : (setCabin c inUse label s).1.tu = s.tu := by
  unfold setCabin; (repeat' first | split | dsimp only) <;> simp [State.refuse]
@[simp] theorem setCabin_cc (c : Nat) (inUse : Bool) (label : Nat) (s : State) : (setCabin c inUse label s).1.cc = s.cc := by
  unfold setCabin; (repeat' first | split | dsimp only) <;> simp [State.refuse]
@[simp] theorem setCabin_pq (c : Nat) (inUse : Bool) (label : Nat) (s : State) : (setCabin c inUse label s).1.pq = s.pq := by
  unfold setCabin; (repeat' first | split | dsimp only) <;> simp [State.refuse]
@[simp] theorem setCabin_oe (c : Nat) (inUse : Bool) (label : Nat) (s : State) : (setCabin c inUse label s).1.oe = s.oe := by
  unfold setCabin; (repeat' first | split | dsimp only) <;> simp [State.refuse]
@[simp] theorem setCabin_nfu (c : Nat) (inUse : Bool) (label : Nat) (s : State) : (setCabin c inUse label s).1.nfu = s.nfu := by
  unfold setCabin; (repeat' first | split | dsimp only) <;> simp [State.refuse]
@[simp] theorem setCabin_sck (c : Nat) (inUse : Bool) (label : Nat) (s : State) : (setCabin c inUse label s).1.sck = s.sck := by
  unfold setCabin; (repeat' first | split | dsimp only) <;> simp [State.refuse]
set_option Elab.async false in
@[simp] theorem admitPerson_pending (a : Admission) (s : State) : (admitPerson a s).1.pending = s.pending := by
  unfold admitPerson; (repeat' first | split | dsimp only) <;> simp [State.refuse]
@[simp] theorem admitPerson_tagCount (a : Admission) (s : State) : (admitPerson a s).1.tagCount = s.tagCount := by
  unfold admitPerson; (repeat' first | split | dsimp only) <;> simp [State.refuse]
@[simp] theorem admitPerson_pp (a : Admission) (s : State) : (admitPerson a s).1.pp = s.pp := by
  unfold admitPerson; (repeat' first | split | dsimp only) <;> simp [State.refuse]
@[simp] theorem admitPerson_lk (a : Admission) (s : State) : (admitPerson a s).1.lk = s.lk := by
  unfold admitPerson; (repeat' first | split | dsimp only) <;> simp [State.refuse]
@[simp] theorem admitPerson_ci (a : Admission) (s : State) : (admitPerson a s).1.ci = s.ci := by
  unfold admitPerson; (repeat' first | split | dsimp only) <;> simp [State.refuse]
@[simp] theorem admitPerson_pu_lanes (a : Admission) (s : State) : (admitPerson a s).1.pu.lanes = s.pu.lanes := by
  unfold admitPerson; (repeat' first | split | dsimp only) <;> simp [State.refuse]
@[simp] theorem admitPerson_pu_permitWindow (a : Admission) (s : State) : (admitPerson a s).1.pu.permitWindow = s.pu.permitWindow := by
  unfold admitPerson; (repeat' first | split | dsimp only) <;> simp [State.refuse]
@[simp] theorem admitPerson_pu_deadline (a : Admission) (s : State) : (admitPerson a s).1.pu.deadline = s.pu.deadline := by
  unfold admitPerson; (repeat' first | split | dsimp only) <;> simp [State.refuse]
@[simp] theorem admitPerson_pu_snapshot (a : Admission) (s : State) : (admitPerson a s).1.pu.snapshot = s.pu.snapshot := by
  unfold admitPerson; (repeat' first | split | dsimp only) <;> simp [State.refuse]
@[simp] theorem admitPerson_pu_evidence (a : Admission) (s : State) : (admitPerson a s).1.pu.evidence = s.pu.evidence := by
  unfold admitPerson; (repeat' first | split | dsimp only) <;> simp [State.refuse]
@[simp] theorem admitPerson_sc (a : Admission) (s : State) : (admitPerson a s).1.sc = s.sc := by
  unfold admitPerson; (repeat' first | split | dsimp only) <;> simp [State.refuse]
@[simp] theorem admitPerson_tu (a : Admission) (s : State) : (admitPerson a s).1.tu = s.tu := by
  unfold admitPerson; (repeat' first | split | dsimp only) <;> simp [State.refuse]
@[simp] theorem admitPerson_cc (a : Admission) (s : State) : (admitPerson a s).1.cc = s.cc := by
  unfold admitPerson; (repeat' first | split | dsimp only) <;> simp [State.refuse]
@[simp] theorem admitPerson_pq (a : Admission) (s : State) : (admitPerson a s).1.pq = s.pq := by
  unfold admitPerson; (repeat' first | split | dsimp only) <;> simp [State.refuse]
@[simp] theorem admitPerson_oe (a : Admission) (s : State) : (admitPerson a s).1.oe = s.oe := by
  unfold admitPerson; (repeat' first | split | dsimp only) <;> simp [State.refuse]
@[simp] theorem admitPerson_nfu (a : Admission) (s : State) : (admitPerson a s).1.nfu = s.nfu := by
  unfold admitPerson; (repeat' first | split | dsimp only) <;> simp [State.refuse]
@[simp] theorem admitPerson_sck (a : Admission) (s : State) : (admitPerson a s).1.sck = s.sck := by
  unfold admitPerson; (repeat' first | split | dsimp only) <;> simp [State.refuse]
set_option Elab.async false in
@[simp] theorem amendPerson_pending (p : Nat) (a : Amendment) (s : State) : (amendPerson p a s).1.pending = s.pending := by
  unfold amendPerson; (repeat' first | split | dsimp only) <;> simp [State.refuse]
@[simp] theorem amendPerson_tagCount (p : Nat) (a : Amendment) (s : State) : (amendPerson p a s).1.tagCount = s.tagCount := by
  unfold amendPerson; (repeat' first | split | dsimp only) <;> simp [State.refuse]
@[simp] theorem amendPerson_pp (p : Nat) (a : Amendment) (s : State) : (amendPerson p a s).1.pp = s.pp := by
  unfold amendPerson; (repeat' first | split | dsimp only) <;> simp [State.refuse]
@[simp] theorem amendPerson_ci (p : Nat) (a : Amendment) (s : State) : (amendPerson p a s).1.ci = s.ci := by
  unfold amendPerson; (repeat' first | split | dsimp only) <;> simp [State.refuse]
@[simp] theorem amendPerson_pu (p : Nat) (a : Amendment) (s : State) : (amendPerson p a s).1.pu = s.pu := by
  unfold amendPerson; (repeat' first | split | dsimp only) <;> simp [State.refuse]
@[simp] theorem amendPerson_tu (p : Nat) (a : Amendment) (s : State) : (amendPerson p a s).1.tu = s.tu := by
  unfold amendPerson; (repeat' first | split | dsimp only) <;> simp [State.refuse]
@[simp] theorem amendPerson_cc (p : Nat) (a : Amendment) (s : State) : (amendPerson p a s).1.cc = s.cc := by
  unfold amendPerson; (repeat' first | split | dsimp only) <;> simp [State.refuse]
@[simp] theorem amendPerson_pq (p : Nat) (a : Amendment) (s : State) : (amendPerson p a s).1.pq = s.pq := by
  unfold amendPerson; (repeat' first | split | dsimp only) <;> simp [State.refuse]
@[simp] theorem amendPerson_oe (p : Nat) (a : Amendment) (s : State) : (amendPerson p a s).1.oe = s.oe := by
  unfold amendPerson; (repeat' first | split | dsimp only) <;> simp [State.refuse]
@[simp] theorem amendPerson_nfu_enables (p : Nat) (a : Amendment) (s : State) : (amendPerson p a s).1.nfu.enables = s.nfu.enables := by
  unfold amendPerson; (repeat' first | split | dsimp only) <;> simp [State.refuse]
@[simp] theorem amendPerson_nfu_status (p : Nat) (a : Amendment) (s : State) : (amendPerson p a s).1.nfu.status = s.nfu.status := by
  unfold amendPerson; (repeat' first | split | dsimp only) <;> simp [State.refuse]
@[simp] theorem amendPerson_nfu_masks (p : Nat) (a : Amendment) (s : State) : (amendPerson p a s).1.nfu.masks = s.nfu.masks := by
  unfold amendPerson; (repeat' first | split | dsimp only) <;> simp [State.refuse]
@[simp] theorem amendPerson_nfu_severe (p : Nat) (a : Amendment) (s : State) : (amendPerson p a s).1.nfu.severe = s.nfu.severe := by
  unfold amendPerson; (repeat' first | split | dsimp only) <;> simp [State.refuse]
@[simp] theorem amendPerson_nfu_first (p : Nat) (a : Amendment) (s : State) : (amendPerson p a s).1.nfu.first = s.nfu.first := by
  unfold amendPerson; (repeat' first | split | dsimp only) <;> simp [State.refuse]
@[simp] theorem amendPerson_nfu_refusalRecord (p : Nat) (a : Amendment) (s : State) : (amendPerson p a s).1.nfu.refusalRecord = s.nfu.refusalRecord := by
  unfold amendPerson; (repeat' first | split | dsimp only) <;> simp [State.refuse]
@[simp] theorem amendPerson_nfu_refusalNotice (p : Nat) (a : Amendment) (s : State) : (amendPerson p a s).1.nfu.refusalNotice = s.nfu.refusalNotice := by
  unfold amendPerson; (repeat' first | split | dsimp only) <;> simp [State.refuse]
@[simp] theorem amendPerson_sck (p : Nat) (a : Amendment) (s : State) : (amendPerson p a s).1.sck = s.sck := by
  unfold amendPerson; (repeat' first | split | dsimp only) <;> simp [State.refuse]
set_option Elab.async false in
@[simp] theorem issueCard_pending (p : Nat) (serial : Serial) (s : State) : (issueCard p serial s).1.pending = s.pending := by
  unfold issueCard; (repeat' first | split | dsimp only) <;> simp [State.refuse]
@[simp] theorem issueCard_tagCount (p : Nat) (serial : Serial) (s : State) : (issueCard p serial s).1.tagCount = s.tagCount := by
  unfold issueCard; (repeat' first | split | dsimp only) <;> simp [State.refuse]
@[simp] theorem issueCard_pp (p : Nat) (serial : Serial) (s : State) : (issueCard p serial s).1.pp = s.pp := by
  unfold issueCard; (repeat' first | split | dsimp only) <;> simp [State.refuse]
@[simp] theorem issueCard_pu (p : Nat) (serial : Serial) (s : State) : (issueCard p serial s).1.pu = s.pu := by
  unfold issueCard; (repeat' first | split | dsimp only) <;> simp [State.refuse]
@[simp] theorem issueCard_tu (p : Nat) (serial : Serial) (s : State) : (issueCard p serial s).1.tu = s.tu := by
  unfold issueCard; (repeat' first | split | dsimp only) <;> simp [State.refuse]
@[simp] theorem issueCard_cc (p : Nat) (serial : Serial) (s : State) : (issueCard p serial s).1.cc = s.cc := by
  unfold issueCard; (repeat' first | split | dsimp only) <;> simp [State.refuse]
@[simp] theorem issueCard_pq (p : Nat) (serial : Serial) (s : State) : (issueCard p serial s).1.pq = s.pq := by
  unfold issueCard; (repeat' first | split | dsimp only) <;> simp [State.refuse]
@[simp] theorem issueCard_oe (p : Nat) (serial : Serial) (s : State) : (issueCard p serial s).1.oe = s.oe := by
  unfold issueCard; (repeat' first | split | dsimp only) <;> simp [State.refuse]
@[simp] theorem issueCard_nfu_enables (p : Nat) (serial : Serial) (s : State) : (issueCard p serial s).1.nfu.enables = s.nfu.enables := by
  unfold issueCard; (repeat' first | split | dsimp only) <;> simp [State.refuse]
@[simp] theorem issueCard_nfu_status (p : Nat) (serial : Serial) (s : State) : (issueCard p serial s).1.nfu.status = s.nfu.status := by
  unfold issueCard; (repeat' first | split | dsimp only) <;> simp [State.refuse]
@[simp] theorem issueCard_nfu_masks (p : Nat) (serial : Serial) (s : State) : (issueCard p serial s).1.nfu.masks = s.nfu.masks := by
  unfold issueCard; (repeat' first | split | dsimp only) <;> simp [State.refuse]
@[simp] theorem issueCard_nfu_severe (p : Nat) (serial : Serial) (s : State) : (issueCard p serial s).1.nfu.severe = s.nfu.severe := by
  unfold issueCard; (repeat' first | split | dsimp only) <;> simp [State.refuse]
@[simp] theorem issueCard_nfu_first (p : Nat) (serial : Serial) (s : State) : (issueCard p serial s).1.nfu.first = s.nfu.first := by
  unfold issueCard; (repeat' first | split | dsimp only) <;> simp [State.refuse]
@[simp] theorem issueCard_nfu_refusalRecord (p : Nat) (serial : Serial) (s : State) : (issueCard p serial s).1.nfu.refusalRecord = s.nfu.refusalRecord := by
  unfold issueCard; (repeat' first | split | dsimp only) <;> simp [State.refuse]
@[simp] theorem issueCard_nfu_refusalNotice (p : Nat) (serial : Serial) (s : State) : (issueCard p serial s).1.nfu.refusalNotice = s.nfu.refusalNotice := by
  unfold issueCard; (repeat' first | split | dsimp only) <;> simp [State.refuse]
@[simp] theorem issueCard_sck (p : Nat) (serial : Serial) (s : State) : (issueCard p serial s).1.sck = s.sck := by
  unfold issueCard; (repeat' first | split | dsimp only) <;> simp [State.refuse]
set_option Elab.async false in
@[simp] theorem revokeCard_pending (serial : Serial) (s : State) : (revokeCard serial s).1.pending = s.pending := by
  unfold revokeCard; (repeat' first | split | dsimp only) <;> simp [State.refuse]
@[simp] theorem revokeCard_tagCount (serial : Serial) (s : State) : (revokeCard serial s).1.tagCount = s.tagCount := by
  unfold revokeCard; (repeat' first | split | dsimp only) <;> simp [State.refuse]
@[simp] theorem revokeCard_pp (serial : Serial) (s : State) : (revokeCard serial s).1.pp = s.pp := by
  unfold revokeCard; (repeat' first | split | dsimp only) <;> simp [State.refuse]
@[simp] theorem revokeCard_pu (serial : Serial) (s : State) : (revokeCard serial s).1.pu = s.pu := by
  unfold revokeCard; (repeat' first | split | dsimp only) <;> simp [State.refuse]
@[simp] theorem revokeCard_tu (serial : Serial) (s : State) : (revokeCard serial s).1.tu = s.tu := by
  unfold revokeCard; (repeat' first | split | dsimp only) <;> simp [State.refuse]
@[simp] theorem revokeCard_cc (serial : Serial) (s : State) : (revokeCard serial s).1.cc = s.cc := by
  unfold revokeCard; (repeat' first | split | dsimp only) <;> simp [State.refuse]
@[simp] theorem revokeCard_pq (serial : Serial) (s : State) : (revokeCard serial s).1.pq = s.pq := by
  unfold revokeCard; (repeat' first | split | dsimp only) <;> simp [State.refuse]
@[simp] theorem revokeCard_oe (serial : Serial) (s : State) : (revokeCard serial s).1.oe = s.oe := by
  unfold revokeCard; (repeat' first | split | dsimp only) <;> simp [State.refuse]
@[simp] theorem revokeCard_nfu_enables (serial : Serial) (s : State) : (revokeCard serial s).1.nfu.enables = s.nfu.enables := by
  unfold revokeCard; (repeat' first | split | dsimp only) <;> simp [State.refuse]
@[simp] theorem revokeCard_nfu_status (serial : Serial) (s : State) : (revokeCard serial s).1.nfu.status = s.nfu.status := by
  unfold revokeCard; (repeat' first | split | dsimp only) <;> simp [State.refuse]
@[simp] theorem revokeCard_nfu_masks (serial : Serial) (s : State) : (revokeCard serial s).1.nfu.masks = s.nfu.masks := by
  unfold revokeCard; (repeat' first | split | dsimp only) <;> simp [State.refuse]
@[simp] theorem revokeCard_nfu_severe (serial : Serial) (s : State) : (revokeCard serial s).1.nfu.severe = s.nfu.severe := by
  unfold revokeCard; (repeat' first | split | dsimp only) <;> simp [State.refuse]
@[simp] theorem revokeCard_nfu_first (serial : Serial) (s : State) : (revokeCard serial s).1.nfu.first = s.nfu.first := by
  unfold revokeCard; (repeat' first | split | dsimp only) <;> simp [State.refuse]
@[simp] theorem revokeCard_nfu_refusalRecord (serial : Serial) (s : State) : (revokeCard serial s).1.nfu.refusalRecord = s.nfu.refusalRecord := by
  unfold revokeCard; (repeat' first | split | dsimp only) <;> simp [State.refuse]
@[simp] theorem revokeCard_nfu_refusalNotice (serial : Serial) (s : State) : (revokeCard serial s).1.nfu.refusalNotice = s.nfu.refusalNotice := by
  unfold revokeCard; (repeat' first | split | dsimp only) <;> simp [State.refuse]
@[simp] theorem revokeCard_sck (serial : Serial) (s : State) : (revokeCard serial s).1.sck = s.sck := by
  unfold revokeCard; (repeat' first | split | dsimp only) <;> simp [State.refuse]
set_option Elab.async false in
@[simp] theorem rekeyCabin_pending (c : Nat) (s : State) : (rekeyCabin c s).1.pending = s.pending := by
  unfold rekeyCabin; (repeat' first | split | dsimp only) <;> simp [State.refuse]
@[simp] theorem rekeyCabin_tagCount (c : Nat) (s : State) : (rekeyCabin c s).1.tagCount = s.tagCount := by
  unfold rekeyCabin; (repeat' first | split | dsimp only) <;> simp [State.refuse]
@[simp] theorem rekeyCabin_pp (c : Nat) (s : State) : (rekeyCabin c s).1.pp = s.pp := by
  unfold rekeyCabin; (repeat' first | split | dsimp only) <;> simp [State.refuse]
@[simp] theorem rekeyCabin_ci (c : Nat) (s : State) : (rekeyCabin c s).1.ci = s.ci := by
  unfold rekeyCabin; (repeat' first | split | dsimp only) <;> simp [State.refuse]
@[simp] theorem rekeyCabin_pu (c : Nat) (s : State) : (rekeyCabin c s).1.pu = s.pu := by
  unfold rekeyCabin; (repeat' first | split | dsimp only) <;> simp [State.refuse]
@[simp] theorem rekeyCabin_tu (c : Nat) (s : State) : (rekeyCabin c s).1.tu = s.tu := by
  unfold rekeyCabin; (repeat' first | split | dsimp only) <;> simp [State.refuse]
@[simp] theorem rekeyCabin_cc (c : Nat) (s : State) : (rekeyCabin c s).1.cc = s.cc := by
  unfold rekeyCabin; (repeat' first | split | dsimp only) <;> simp [State.refuse]
@[simp] theorem rekeyCabin_pq (c : Nat) (s : State) : (rekeyCabin c s).1.pq = s.pq := by
  unfold rekeyCabin; (repeat' first | split | dsimp only) <;> simp [State.refuse]
@[simp] theorem rekeyCabin_oe (c : Nat) (s : State) : (rekeyCabin c s).1.oe = s.oe := by
  unfold rekeyCabin; (repeat' first | split | dsimp only) <;> simp [State.refuse]
@[simp] theorem rekeyCabin_nfu_enables (c : Nat) (s : State) : (rekeyCabin c s).1.nfu.enables = s.nfu.enables := by
  unfold rekeyCabin; (repeat' first | split | dsimp only) <;> simp [State.refuse]
@[simp] theorem rekeyCabin_nfu_status (c : Nat) (s : State) : (rekeyCabin c s).1.nfu.status = s.nfu.status := by
  unfold rekeyCabin; (repeat' first | split | dsimp only) <;> simp [State.refuse]
@[simp] theorem rekeyCabin_nfu_masks (c : Nat) (s : State) : (rekeyCabin c s).1.nfu.masks = s.nfu.masks := by
  unfold rekeyCabin; (repeat' first | split | dsimp only) <;> simp [State.refuse]
@[simp] theorem rekeyCabin_nfu_severe (c : Nat) (s : State) : (rekeyCabin c s).1.nfu.severe = s.nfu.severe := by
  unfold rekeyCabin; (repeat' first | split | dsimp only) <;> simp [State.refuse]
@[simp] theorem rekeyCabin_nfu_first (c : Nat) (s : State) : (rekeyCabin c s).1.nfu.first = s.nfu.first := by
  unfold rekeyCabin; (repeat' first | split | dsimp only) <;> simp [State.refuse]
@[simp] theorem rekeyCabin_nfu_refusalRecord (c : Nat) (s : State) : (rekeyCabin c s).1.nfu.refusalRecord = s.nfu.refusalRecord := by
  unfold rekeyCabin; (repeat' first | split | dsimp only) <;> simp [State.refuse]
@[simp] theorem rekeyCabin_nfu_refusalNotice (c : Nat) (s : State) : (rekeyCabin c s).1.nfu.refusalNotice = s.nfu.refusalNotice := by
  unfold rekeyCabin; (repeat' first | split | dsimp only) <;> simp [State.refuse]
@[simp] theorem rekeyCabin_sck (c : Nat) (s : State) : (rekeyCabin c s).1.sck = s.sck := by
  unfold rekeyCabin; (repeat' first | split | dsimp only) <;> simp [State.refuse]
set_option Elab.async false in
@[simp] theorem releasePerson_pending (p : Nat) (writeOff : Bool) (s : State) : (releasePerson p writeOff s).1.pending = s.pending := by
  unfold releasePerson; (repeat' first | split | dsimp only) <;> simp [State.refuse]
@[simp] theorem releasePerson_tagCount (p : Nat) (writeOff : Bool) (s : State) : (releasePerson p writeOff s).1.tagCount = s.tagCount := by
  unfold releasePerson; (repeat' first | split | dsimp only) <;> simp [State.refuse]
@[simp] theorem releasePerson_pp (p : Nat) (writeOff : Bool) (s : State) : (releasePerson p writeOff s).1.pp = s.pp := by
  unfold releasePerson; (repeat' first | split | dsimp only) <;> simp [State.refuse]
@[simp] theorem releasePerson_pu_lanes (p : Nat) (writeOff : Bool) (s : State) : (releasePerson p writeOff s).1.pu.lanes = s.pu.lanes := by
  unfold releasePerson; (repeat' first | split | dsimp only) <;> simp [State.refuse]
@[simp] theorem releasePerson_pu_permitWindow (p : Nat) (writeOff : Bool) (s : State) : (releasePerson p writeOff s).1.pu.permitWindow = s.pu.permitWindow := by
  unfold releasePerson; (repeat' first | split | dsimp only) <;> simp [State.refuse]
@[simp] theorem releasePerson_pu_deadline (p : Nat) (writeOff : Bool) (s : State) : (releasePerson p writeOff s).1.pu.deadline = s.pu.deadline := by
  unfold releasePerson; (repeat' first | split | dsimp only) <;> simp [State.refuse]
@[simp] theorem releasePerson_pu_snapshot (p : Nat) (writeOff : Bool) (s : State) : (releasePerson p writeOff s).1.pu.snapshot = s.pu.snapshot := by
  unfold releasePerson; (repeat' first | split | dsimp only) <;> simp [State.refuse]
@[simp] theorem releasePerson_tu (p : Nat) (writeOff : Bool) (s : State) : (releasePerson p writeOff s).1.tu = s.tu := by
  unfold releasePerson; (repeat' first | split | dsimp only) <;> simp [State.refuse]
@[simp] theorem releasePerson_cc (p : Nat) (writeOff : Bool) (s : State) : (releasePerson p writeOff s).1.cc = s.cc := by
  unfold releasePerson; (repeat' first | split | dsimp only) <;> simp [State.refuse]
@[simp] theorem releasePerson_pq_unposted (p : Nat) (writeOff : Bool) (s : State) : (releasePerson p writeOff s).1.pq.unposted = s.pq.unposted := by
  unfold releasePerson; (repeat' first | split | dsimp only) <;> simp [State.refuse]
@[simp] theorem releasePerson_oe (p : Nat) (writeOff : Bool) (s : State) : (releasePerson p writeOff s).1.oe = s.oe := by
  unfold releasePerson; (repeat' first | split | dsimp only) <;> simp [State.refuse]
@[simp] theorem releasePerson_nfu_enables (p : Nat) (writeOff : Bool) (s : State) : (releasePerson p writeOff s).1.nfu.enables = s.nfu.enables := by
  unfold releasePerson; (repeat' first | split | dsimp only) <;> simp [State.refuse]
@[simp] theorem releasePerson_nfu_status (p : Nat) (writeOff : Bool) (s : State) : (releasePerson p writeOff s).1.nfu.status = s.nfu.status := by
  unfold releasePerson; (repeat' first | split | dsimp only) <;> simp [State.refuse]
@[simp] theorem releasePerson_nfu_masks (p : Nat) (writeOff : Bool) (s : State) : (releasePerson p writeOff s).1.nfu.masks = s.nfu.masks := by
  unfold releasePerson; (repeat' first | split | dsimp only) <;> simp [State.refuse]
@[simp] theorem releasePerson_nfu_severe (p : Nat) (writeOff : Bool) (s : State) : (releasePerson p writeOff s).1.nfu.severe = s.nfu.severe := by
  unfold releasePerson; (repeat' first | split | dsimp only) <;> simp [State.refuse]
@[simp] theorem releasePerson_nfu_first (p : Nat) (writeOff : Bool) (s : State) : (releasePerson p writeOff s).1.nfu.first = s.nfu.first := by
  unfold releasePerson; (repeat' first | split | dsimp only) <;> simp [State.refuse]
@[simp] theorem releasePerson_nfu_refusalRecord (p : Nat) (writeOff : Bool) (s : State) : (releasePerson p writeOff s).1.nfu.refusalRecord = s.nfu.refusalRecord := by
  unfold releasePerson; (repeat' first | split | dsimp only) <;> simp [State.refuse]
@[simp] theorem releasePerson_nfu_refusalNotice (p : Nat) (writeOff : Bool) (s : State) : (releasePerson p writeOff s).1.nfu.refusalNotice = s.nfu.refusalNotice := by
  unfold releasePerson; (repeat' first | split | dsimp only) <;> simp [State.refuse]
@[simp] theorem releasePerson_sck (p : Nat) (writeOff : Bool) (s : State) : (releasePerson p writeOff s).1.sck = s.sck := by
  unfold releasePerson; (repeat' first | split | dsimp only) <;> simp [State.refuse]
set_option Elab.async false in
@[simp] theorem postPayment_pending (p : Nat) (amount : Int) (s : State) : (postPayment p amount s).1.pending = s.pending := by
  unfold postPayment; (repeat' first | split | dsimp only) <;> simp [State.refuse]
@[simp] theorem postPayment_tagCount (p : Nat) (amount : Int) (s : State) : (postPayment p amount s).1.tagCount = s.tagCount := by
  unfold postPayment; (repeat' first | split | dsimp only) <;> simp [State.refuse]
@[simp] theorem postPayment_pp (p : Nat) (amount : Int) (s : State) : (postPayment p amount s).1.pp = s.pp := by
  unfold postPayment; (repeat' first | split | dsimp only) <;> simp [State.refuse]
@[simp] theorem postPayment_lk (p : Nat) (amount : Int) (s : State) : (postPayment p amount s).1.lk = s.lk := by
  unfold postPayment; (repeat' first | split | dsimp only) <;> simp [State.refuse]
@[simp] theorem postPayment_ci (p : Nat) (amount : Int) (s : State) : (postPayment p amount s).1.ci = s.ci := by
  unfold postPayment; (repeat' first | split | dsimp only) <;> simp [State.refuse]
@[simp] theorem postPayment_ct (p : Nat) (amount : Int) (s : State) : (postPayment p amount s).1.ct = s.ct := by
  unfold postPayment; (repeat' first | split | dsimp only) <;> simp [State.refuse]
@[simp] theorem postPayment_pu (p : Nat) (amount : Int) (s : State) : (postPayment p amount s).1.pu = s.pu := by
  unfold postPayment; (repeat' first | split | dsimp only) <;> simp [State.refuse]
@[simp] theorem postPayment_sc (p : Nat) (amount : Int) (s : State) : (postPayment p amount s).1.sc = s.sc := by
  unfold postPayment; (repeat' first | split | dsimp only) <;> simp [State.refuse]
@[simp] theorem postPayment_tu (p : Nat) (amount : Int) (s : State) : (postPayment p amount s).1.tu = s.tu := by
  unfold postPayment; (repeat' first | split | dsimp only) <;> simp [State.refuse]
@[simp] theorem postPayment_cc (p : Nat) (amount : Int) (s : State) : (postPayment p amount s).1.cc = s.cc := by
  unfold postPayment; (repeat' first | split | dsimp only) <;> simp [State.refuse]
@[simp] theorem postPayment_pq (p : Nat) (amount : Int) (s : State) : (postPayment p amount s).1.pq = s.pq := by
  unfold postPayment; (repeat' first | split | dsimp only) <;> simp [State.refuse]
@[simp] theorem postPayment_oe (p : Nat) (amount : Int) (s : State) : (postPayment p amount s).1.oe = s.oe := by
  unfold postPayment; (repeat' first | split | dsimp only) <;> simp [State.refuse]
@[simp] theorem postPayment_nfu (p : Nat) (amount : Int) (s : State) : (postPayment p amount s).1.nfu = s.nfu := by
  unfold postPayment; (repeat' first | split | dsimp only) <;> simp [State.refuse]
@[simp] theorem postPayment_sck (p : Nat) (amount : Int) (s : State) : (postPayment p amount s).1.sck = s.sck := by
  unfold postPayment; (repeat' first | split | dsimp only) <;> simp [State.refuse]
set_option Elab.async false in
@[simp] theorem readPerson_pending (p : Nat) (s : State) : (readPerson p s).1.pending = s.pending := by
  unfold readPerson; (repeat' first | split | dsimp only); simp [State.refuse]
@[simp] theorem readPerson_tagCount (p : Nat) (s : State) : (readPerson p s).1.tagCount = s.tagCount := by
  unfold readPerson; (repeat' first | split | dsimp only); simp [State.refuse]
@[simp] theorem readPerson_pp (p : Nat) (s : State) : (readPerson p s).1.pp = s.pp := by
  unfold readPerson; (repeat' first | split | dsimp only); simp [State.refuse]
@[simp] theorem readPerson_lk (p : Nat) (s : State) : (readPerson p s).1.lk = s.lk := by
  unfold readPerson; (repeat' first | split | dsimp only); simp [State.refuse]
@[simp] theorem readPerson_pt (p : Nat) (s : State) : (readPerson p s).1.pt = s.pt := by
  unfold readPerson; (repeat' first | split | dsimp only); simp [State.refuse]
@[simp] theorem readPerson_ci (p : Nat) (s : State) : (readPerson p s).1.ci = s.ci := by
  unfold readPerson; (repeat' first | split | dsimp only); simp [State.refuse]
@[simp] theorem readPerson_ct (p : Nat) (s : State) : (readPerson p s).1.ct = s.ct := by
  unfold readPerson; (repeat' first | split | dsimp only); simp [State.refuse]
@[simp] theorem readPerson_pu (p : Nat) (s : State) : (readPerson p s).1.pu = s.pu := by
  unfold readPerson; (repeat' first | split | dsimp only); simp [State.refuse]
@[simp] theorem readPerson_sc (p : Nat) (s : State) : (readPerson p s).1.sc = s.sc := by
  unfold readPerson; (repeat' first | split | dsimp only); simp [State.refuse]
@[simp] theorem readPerson_tu (p : Nat) (s : State) : (readPerson p s).1.tu = s.tu := by
  unfold readPerson; (repeat' first | split | dsimp only); simp [State.refuse]
@[simp] theorem readPerson_cc (p : Nat) (s : State) : (readPerson p s).1.cc = s.cc := by
  unfold readPerson; (repeat' first | split | dsimp only); simp [State.refuse]
@[simp] theorem readPerson_pq (p : Nat) (s : State) : (readPerson p s).1.pq = s.pq := by
  unfold readPerson; (repeat' first | split | dsimp only); simp [State.refuse]
@[simp] theorem readPerson_oe (p : Nat) (s : State) : (readPerson p s).1.oe = s.oe := by
  unfold readPerson; (repeat' first | split | dsimp only); simp [State.refuse]
@[simp] theorem readPerson_nfu (p : Nat) (s : State) : (readPerson p s).1.nfu = s.nfu := by
  unfold readPerson; (repeat' first | split | dsimp only); simp [State.refuse]
@[simp] theorem readPerson_sck (p : Nat) (s : State) : (readPerson p s).1.sck = s.sck := by
  unfold readPerson; (repeat' first | split | dsimp only); simp [State.refuse]
set_option Elab.async false in
@[simp] theorem readCard_pending (serial : Serial) (s : State) : (readCard serial s).1.pending = s.pending := by
  unfold readCard; split <;> simp [State.refuse]
@[simp] theorem readCard_tagCount (serial : Serial) (s : State) : (readCard serial s).1.tagCount = s.tagCount := by
  unfold readCard; split <;> simp [State.refuse]
@[simp] theorem readCard_pp (serial : Serial) (s : State) : (readCard serial s).1.pp = s.pp := by
  unfold readCard; split <;> simp [State.refuse]
@[simp] theorem readCard_lk (serial : Serial) (s : State) : (readCard serial s).1.lk = s.lk := by
  unfold readCard; split <;> simp [State.refuse]
@[simp] theorem readCard_pt (serial : Serial) (s : State) : (readCard serial s).1.pt = s.pt := by
  unfold readCard; split <;> simp [State.refuse]
@[simp] theorem readCard_ci (serial : Serial) (s : State) : (readCard serial s).1.ci = s.ci := by
  unfold readCard; split <;> simp [State.refuse]
@[simp] theorem readCard_ct (serial : Serial) (s : State) : (readCard serial s).1.ct = s.ct := by
  unfold readCard; split <;> simp [State.refuse]
@[simp] theorem readCard_pu (serial : Serial) (s : State) : (readCard serial s).1.pu = s.pu := by
  unfold readCard; split <;> simp [State.refuse]
@[simp] theorem readCard_sc (serial : Serial) (s : State) : (readCard serial s).1.sc = s.sc := by
  unfold readCard; split <;> simp [State.refuse]
@[simp] theorem readCard_tu (serial : Serial) (s : State) : (readCard serial s).1.tu = s.tu := by
  unfold readCard; split <;> simp [State.refuse]
@[simp] theorem readCard_cc (serial : Serial) (s : State) : (readCard serial s).1.cc = s.cc := by
  unfold readCard; split <;> simp [State.refuse]
@[simp] theorem readCard_pq (serial : Serial) (s : State) : (readCard serial s).1.pq = s.pq := by
  unfold readCard; split <;> simp [State.refuse]
@[simp] theorem readCard_oe (serial : Serial) (s : State) : (readCard serial s).1.oe = s.oe := by
  unfold readCard; split <;> simp [State.refuse]
@[simp] theorem readCard_nfu (serial : Serial) (s : State) : (readCard serial s).1.nfu = s.nfu := by
  unfold readCard; split <;> simp [State.refuse]
@[simp] theorem readCard_sck (serial : Serial) (s : State) : (readCard serial s).1.sck = s.sck := by
  unfold readCard; split <;> simp [State.refuse]
set_option Elab.async false in
@[simp] theorem readCabin_pending (c : Nat) (s : State) : (readCabin c s).1.pending = s.pending := by
  unfold readCabin; split <;> simp [State.refuse]
@[simp] theorem readCabin_tagCount (c : Nat) (s : State) : (readCabin c s).1.tagCount = s.tagCount := by
  unfold readCabin; split <;> simp [State.refuse]
@[simp] theorem readCabin_pp (c : Nat) (s : State) : (readCabin c s).1.pp = s.pp := by
  unfold readCabin; split <;> simp [State.refuse]
@[simp] theorem readCabin_lk (c : Nat) (s : State) : (readCabin c s).1.lk = s.lk := by
  unfold readCabin; split <;> simp [State.refuse]
@[simp] theorem readCabin_pt (c : Nat) (s : State) : (readCabin c s).1.pt = s.pt := by
  unfold readCabin; split <;> simp [State.refuse]
@[simp] theorem readCabin_ci (c : Nat) (s : State) : (readCabin c s).1.ci = s.ci := by
  unfold readCabin; split <;> simp [State.refuse]
@[simp] theorem readCabin_ct (c : Nat) (s : State) : (readCabin c s).1.ct = s.ct := by
  unfold readCabin; split <;> simp [State.refuse]
@[simp] theorem readCabin_pu (c : Nat) (s : State) : (readCabin c s).1.pu = s.pu := by
  unfold readCabin; split <;> simp [State.refuse]
@[simp] theorem readCabin_sc (c : Nat) (s : State) : (readCabin c s).1.sc = s.sc := by
  unfold readCabin; split <;> simp [State.refuse]
@[simp] theorem readCabin_tu (c : Nat) (s : State) : (readCabin c s).1.tu = s.tu := by
  unfold readCabin; split <;> simp [State.refuse]
@[simp] theorem readCabin_cc (c : Nat) (s : State) : (readCabin c s).1.cc = s.cc := by
  unfold readCabin; split <;> simp [State.refuse]
@[simp] theorem readCabin_pq (c : Nat) (s : State) : (readCabin c s).1.pq = s.pq := by
  unfold readCabin; split <;> simp [State.refuse]
@[simp] theorem readCabin_oe (c : Nat) (s : State) : (readCabin c s).1.oe = s.oe := by
  unfold readCabin; split <;> simp [State.refuse]
@[simp] theorem readCabin_nfu (c : Nat) (s : State) : (readCabin c s).1.nfu = s.nfu := by
  unfold readCabin; split <;> simp [State.refuse]
@[simp] theorem readCabin_sck (c : Nat) (s : State) : (readCabin c s).1.sck = s.sck := by
  unfold readCabin; split <;> simp [State.refuse]
set_option Elab.async false in
@[simp] theorem setLaneMode_pending (n point : Nat) (mode : LaneMode) (s : State) : (setLaneMode n point mode s).1.pending = s.pending := by
  unfold setLaneMode; (repeat' first | split | dsimp only) <;> simp [State.refuse]
@[simp] theorem setLaneMode_tagCount (n point : Nat) (mode : LaneMode) (s : State) : (setLaneMode n point mode s).1.tagCount = s.tagCount := by
  unfold setLaneMode; (repeat' first | split | dsimp only) <;> simp [State.refuse]
@[simp] theorem setLaneMode_pp (n point : Nat) (mode : LaneMode) (s : State) : (setLaneMode n point mode s).1.pp = s.pp := by
  unfold setLaneMode; (repeat' first | split | dsimp only) <;> simp [State.refuse]
@[simp] theorem setLaneMode_lk (n point : Nat) (mode : LaneMode) (s : State) : (setLaneMode n point mode s).1.lk = s.lk := by
  unfold setLaneMode; (repeat' first | split | dsimp only) <;> simp [State.refuse]
@[simp] theorem setLaneMode_ci (n point : Nat) (mode : LaneMode) (s : State) : (setLaneMode n point mode s).1.ci = s.ci := by
  unfold setLaneMode; (repeat' first | split | dsimp only) <;> simp [State.refuse]
@[simp] theorem setLaneMode_ct (n point : Nat) (mode : LaneMode) (s : State) : (setLaneMode n point mode s).1.ct = s.ct := by
  unfold setLaneMode; (repeat' first | split | dsimp only) <;> simp [State.refuse]
@[simp] theorem setLaneMode_pu_counts (n point : Nat) (mode : LaneMode) (s : State) : (setLaneMode n point mode s).1.pu.counts = s.pu.counts := by
  unfold setLaneMode; (repeat' first | split | dsimp only) <;> simp [State.refuse]
@[simp] theorem setLaneMode_pu_permitWindow (n point : Nat) (mode : LaneMode) (s : State) : (setLaneMode n point mode s).1.pu.permitWindow = s.pu.permitWindow := by
  unfold setLaneMode; (repeat' first | split | dsimp only) <;> simp [State.refuse]
@[simp] theorem setLaneMode_pu_deadline (n point : Nat) (mode : LaneMode) (s : State) : (setLaneMode n point mode s).1.pu.deadline = s.pu.deadline := by
  unfold setLaneMode; (repeat' first | split | dsimp only) <;> simp [State.refuse]
@[simp] theorem setLaneMode_pu_snapshot (n point : Nat) (mode : LaneMode) (s : State) : (setLaneMode n point mode s).1.pu.snapshot = s.pu.snapshot := by
  unfold setLaneMode; (repeat' first | split | dsimp only) <;> simp [State.refuse]
@[simp] theorem setLaneMode_pu_evidence (n point : Nat) (mode : LaneMode) (s : State) : (setLaneMode n point mode s).1.pu.evidence = s.pu.evidence := by
  unfold setLaneMode; (repeat' first | split | dsimp only) <;> simp [State.refuse]
@[simp] theorem setLaneMode_sc (n point : Nat) (mode : LaneMode) (s : State) : (setLaneMode n point mode s).1.sc = s.sc := by
  unfold setLaneMode; (repeat' first | split | dsimp only) <;> simp [State.refuse]
@[simp] theorem setLaneMode_tu (n point : Nat) (mode : LaneMode) (s : State) : (setLaneMode n point mode s).1.tu = s.tu := by
  unfold setLaneMode; (repeat' first | split | dsimp only) <;> simp [State.refuse]
@[simp] theorem setLaneMode_cc (n point : Nat) (mode : LaneMode) (s : State) : (setLaneMode n point mode s).1.cc = s.cc := by
  unfold setLaneMode; (repeat' first | split | dsimp only) <;> simp [State.refuse]
@[simp] theorem setLaneMode_pq (n point : Nat) (mode : LaneMode) (s : State) : (setLaneMode n point mode s).1.pq = s.pq := by
  unfold setLaneMode; (repeat' first | split | dsimp only) <;> simp [State.refuse]
@[simp] theorem setLaneMode_oe (n point : Nat) (mode : LaneMode) (s : State) : (setLaneMode n point mode s).1.oe = s.oe := by
  unfold setLaneMode; (repeat' first | split | dsimp only) <;> simp [State.refuse]
@[simp] theorem setLaneMode_nfu (n point : Nat) (mode : LaneMode) (s : State) : (setLaneMode n point mode s).1.nfu = s.nfu := by
  unfold setLaneMode; (repeat' first | split | dsimp only) <;> simp [State.refuse]
@[simp] theorem setLaneMode_sck (n point : Nat) (mode : LaneMode) (s : State) : (setLaneMode n point mode s).1.sck = s.sck := by
  unfold setLaneMode; (repeat' first | split | dsimp only) <;> simp [State.refuse]
set_option Elab.async false in
@[simp] theorem setPermitWindow_pending (seconds : Nat) (s : State) : (setPermitWindow seconds s).1.pending = s.pending := by
  rfl
@[simp] theorem setPermitWindow_tagCount (seconds : Nat) (s : State) : (setPermitWindow seconds s).1.tagCount = s.tagCount := by
  rfl
@[simp] theorem setPermitWindow_pp (seconds : Nat) (s : State) : (setPermitWindow seconds s).1.pp = s.pp := by
  rfl
@[simp] theorem setPermitWindow_lk (seconds : Nat) (s : State) : (setPermitWindow seconds s).1.lk = s.lk := by
  rfl
@[simp] theorem setPermitWindow_pt (seconds : Nat) (s : State) : (setPermitWindow seconds s).1.pt = s.pt := by
  rfl
@[simp] theorem setPermitWindow_ci (seconds : Nat) (s : State) : (setPermitWindow seconds s).1.ci = s.ci := by
  rfl
@[simp] theorem setPermitWindow_ct (seconds : Nat) (s : State) : (setPermitWindow seconds s).1.ct = s.ct := by
  rfl
@[simp] theorem setPermitWindow_pu_counts (seconds : Nat) (s : State) : (setPermitWindow seconds s).1.pu.counts = s.pu.counts := by
  rfl
@[simp] theorem setPermitWindow_pu_lanes (seconds : Nat) (s : State) : (setPermitWindow seconds s).1.pu.lanes = s.pu.lanes := by
  rfl
@[simp] theorem setPermitWindow_pu_deadline (seconds : Nat) (s : State) : (setPermitWindow seconds s).1.pu.deadline = s.pu.deadline := by
  rfl
@[simp] theorem setPermitWindow_pu_snapshot (seconds : Nat) (s : State) : (setPermitWindow seconds s).1.pu.snapshot = s.pu.snapshot := by
  rfl
@[simp] theorem setPermitWindow_pu_evidence (seconds : Nat) (s : State) : (setPermitWindow seconds s).1.pu.evidence = s.pu.evidence := by
  rfl
@[simp] theorem setPermitWindow_sc (seconds : Nat) (s : State) : (setPermitWindow seconds s).1.sc = s.sc := by
  rfl
@[simp] theorem setPermitWindow_tu (seconds : Nat) (s : State) : (setPermitWindow seconds s).1.tu = s.tu := by
  rfl
@[simp] theorem setPermitWindow_cc (seconds : Nat) (s : State) : (setPermitWindow seconds s).1.cc = s.cc := by
  rfl
@[simp] theorem setPermitWindow_pq (seconds : Nat) (s : State) : (setPermitWindow seconds s).1.pq = s.pq := by
  rfl
@[simp] theorem setPermitWindow_oe (seconds : Nat) (s : State) : (setPermitWindow seconds s).1.oe = s.oe := by
  rfl
@[simp] theorem setPermitWindow_nfu (seconds : Nat) (s : State) : (setPermitWindow seconds s).1.nfu = s.nfu := by
  rfl
@[simp] theorem setPermitWindow_sck (seconds : Nat) (s : State) : (setPermitWindow seconds s).1.sck = s.sck := by
  rfl
set_option Elab.async false in
@[simp] theorem setPresence_pending (p : Nat) (new : Presence) (s : State) : (setPresence p new s).1.pending = s.pending := by
  unfold setPresence; (repeat' first | split | dsimp only) <;> simp [State.refuse]
@[simp] theorem setPresence_tagCount (p : Nat) (new : Presence) (s : State) : (setPresence p new s).1.tagCount = s.tagCount := by
  unfold setPresence; (repeat' first | split | dsimp only) <;> simp [State.refuse]
@[simp] theorem setPresence_pp (p : Nat) (new : Presence) (s : State) : (setPresence p new s).1.pp = s.pp := by
  unfold setPresence; (repeat' first | split | dsimp only) <;> simp [State.refuse]
@[simp] theorem setPresence_pu_lanes (p : Nat) (new : Presence) (s : State) : (setPresence p new s).1.pu.lanes = s.pu.lanes := by
  unfold setPresence; (repeat' first | split | dsimp only) <;> simp [State.refuse]
@[simp] theorem setPresence_pu_permitWindow (p : Nat) (new : Presence) (s : State) : (setPresence p new s).1.pu.permitWindow = s.pu.permitWindow := by
  unfold setPresence; (repeat' first | split | dsimp only) <;> simp [State.refuse]
@[simp] theorem setPresence_pu_deadline (p : Nat) (new : Presence) (s : State) : (setPresence p new s).1.pu.deadline = s.pu.deadline := by
  unfold setPresence; (repeat' first | split | dsimp only) <;> simp [State.refuse]
@[simp] theorem setPresence_pu_snapshot (p : Nat) (new : Presence) (s : State) : (setPresence p new s).1.pu.snapshot = s.pu.snapshot := by
  unfold setPresence; (repeat' first | split | dsimp only) <;> simp [State.refuse]
@[simp] theorem setPresence_pu_evidence (p : Nat) (new : Presence) (s : State) : (setPresence p new s).1.pu.evidence = s.pu.evidence := by
  unfold setPresence; (repeat' first | split | dsimp only) <;> simp [State.refuse]
@[simp] theorem setPresence_tu (p : Nat) (new : Presence) (s : State) : (setPresence p new s).1.tu = s.tu := by
  unfold setPresence; (repeat' first | split | dsimp only) <;> simp [State.refuse]
@[simp] theorem setPresence_cc (p : Nat) (new : Presence) (s : State) : (setPresence p new s).1.cc = s.cc := by
  unfold setPresence; (repeat' first | split | dsimp only) <;> simp [State.refuse]
@[simp] theorem setPresence_pq (p : Nat) (new : Presence) (s : State) : (setPresence p new s).1.pq = s.pq := by
  unfold setPresence; (repeat' first | split | dsimp only) <;> simp [State.refuse]
@[simp] theorem setPresence_oe (p : Nat) (new : Presence) (s : State) : (setPresence p new s).1.oe = s.oe := by
  unfold setPresence; (repeat' first | split | dsimp only) <;> simp [State.refuse]
@[simp] theorem setPresence_nfu_enables (p : Nat) (new : Presence) (s : State) : (setPresence p new s).1.nfu.enables = s.nfu.enables := by
  unfold setPresence; (repeat' first | split | dsimp only) <;> simp [State.refuse]
@[simp] theorem setPresence_nfu_status (p : Nat) (new : Presence) (s : State) : (setPresence p new s).1.nfu.status = s.nfu.status := by
  unfold setPresence; (repeat' first | split | dsimp only) <;> simp [State.refuse]
@[simp] theorem setPresence_nfu_masks (p : Nat) (new : Presence) (s : State) : (setPresence p new s).1.nfu.masks = s.nfu.masks := by
  unfold setPresence; (repeat' first | split | dsimp only) <;> simp [State.refuse]
@[simp] theorem setPresence_nfu_severe (p : Nat) (new : Presence) (s : State) : (setPresence p new s).1.nfu.severe = s.nfu.severe := by
  unfold setPresence; (repeat' first | split | dsimp only) <;> simp [State.refuse]
@[simp] theorem setPresence_nfu_first (p : Nat) (new : Presence) (s : State) : (setPresence p new s).1.nfu.first = s.nfu.first := by
  unfold setPresence; (repeat' first | split | dsimp only) <;> simp [State.refuse]
@[simp] theorem setPresence_nfu_refusalRecord (p : Nat) (new : Presence) (s : State) : (setPresence p new s).1.nfu.refusalRecord = s.nfu.refusalRecord := by
  unfold setPresence; (repeat' first | split | dsimp only) <;> simp [State.refuse]
@[simp] theorem setPresence_nfu_refusalNotice (p : Nat) (new : Presence) (s : State) : (setPresence p new s).1.nfu.refusalNotice = s.nfu.refusalNotice := by
  unfold setPresence; (repeat' first | split | dsimp only) <;> simp [State.refuse]
@[simp] theorem setPresence_sck (p : Nat) (new : Presence) (s : State) : (setPresence p new s).1.sck = s.sck := by
  unfold setPresence; (repeat' first | split | dsimp only) <;> simp [State.refuse]
set_option Elab.async false in
@[simp] theorem armDeadline_pending (time : Nat) (s : State) : (armDeadline time s).1.pending = s.pending := by
  unfold armDeadline; (repeat' first | split | dsimp only) <;> simp [State.refuse]
@[simp] theorem armDeadline_tagCount (time : Nat) (s : State) : (armDeadline time s).1.tagCount = s.tagCount := by
  unfold armDeadline; (repeat' first | split | dsimp only) <;> simp [State.refuse]
@[simp] theorem armDeadline_pp (time : Nat) (s : State) : (armDeadline time s).1.pp = s.pp := by
  unfold armDeadline; (repeat' first | split | dsimp only) <;> simp [State.refuse]
@[simp] theorem armDeadline_lk (time : Nat) (s : State) : (armDeadline time s).1.lk = s.lk := by
  unfold armDeadline; (repeat' first | split | dsimp only) <;> simp [State.refuse]
@[simp] theorem armDeadline_pt (time : Nat) (s : State) : (armDeadline time s).1.pt = s.pt := by
  unfold armDeadline; (repeat' first | split | dsimp only) <;> simp [State.refuse]
@[simp] theorem armDeadline_ci (time : Nat) (s : State) : (armDeadline time s).1.ci = s.ci := by
  unfold armDeadline; (repeat' first | split | dsimp only) <;> simp [State.refuse]
@[simp] theorem armDeadline_ct (time : Nat) (s : State) : (armDeadline time s).1.ct = s.ct := by
  unfold armDeadline; (repeat' first | split | dsimp only) <;> simp [State.refuse]
@[simp] theorem armDeadline_pu_counts (time : Nat) (s : State) : (armDeadline time s).1.pu.counts = s.pu.counts := by
  unfold armDeadline; (repeat' first | split | dsimp only) <;> simp [State.refuse]
@[simp] theorem armDeadline_pu_permitWindow (time : Nat) (s : State) : (armDeadline time s).1.pu.permitWindow = s.pu.permitWindow := by
  unfold armDeadline; (repeat' first | split | dsimp only) <;> simp [State.refuse]
@[simp] theorem armDeadline_pu_snapshot (time : Nat) (s : State) : (armDeadline time s).1.pu.snapshot = s.pu.snapshot := by
  unfold armDeadline; (repeat' first | split | dsimp only) <;> simp [State.refuse]
@[simp] theorem armDeadline_pu_evidence (time : Nat) (s : State) : (armDeadline time s).1.pu.evidence = s.pu.evidence := by
  unfold armDeadline; (repeat' first | split | dsimp only) <;> simp [State.refuse]
@[simp] theorem armDeadline_sc (time : Nat) (s : State) : (armDeadline time s).1.sc = s.sc := by
  unfold armDeadline; (repeat' first | split | dsimp only) <;> simp [State.refuse]
@[simp] theorem armDeadline_tu (time : Nat) (s : State) : (armDeadline time s).1.tu = s.tu := by
  unfold armDeadline; (repeat' first | split | dsimp only) <;> simp [State.refuse]
@[simp] theorem armDeadline_cc (time : Nat) (s : State) : (armDeadline time s).1.cc = s.cc := by
  unfold armDeadline; (repeat' first | split | dsimp only) <;> simp [State.refuse]
@[simp] theorem armDeadline_pq (time : Nat) (s : State) : (armDeadline time s).1.pq = s.pq := by
  unfold armDeadline; (repeat' first | split | dsimp only) <;> simp [State.refuse]
@[simp] theorem armDeadline_oe (time : Nat) (s : State) : (armDeadline time s).1.oe = s.oe := by
  unfold armDeadline; (repeat' first | split | dsimp only) <;> simp [State.refuse]
@[simp] theorem armDeadline_nfu (time : Nat) (s : State) : (armDeadline time s).1.nfu = s.nfu := by
  unfold armDeadline; (repeat' first | split | dsimp only) <;> simp [State.refuse]
@[simp] theorem armDeadline_sck (time : Nat) (s : State) : (armDeadline time s).1.sck = s.sck := by
  unfold armDeadline; (repeat' first | split | dsimp only) <;> simp [State.refuse]
set_option Elab.async false in
@[simp] theorem disarmDeadline_pending (s : State) : (disarmDeadline s).1.pending = s.pending := by
  unfold disarmDeadline; split <;> simp
@[simp] theorem disarmDeadline_tagCount (s : State) : (disarmDeadline s).1.tagCount = s.tagCount := by
  unfold disarmDeadline; split <;> simp
@[simp] theorem disarmDeadline_pp (s : State) : (disarmDeadline s).1.pp = s.pp := by
  unfold disarmDeadline; split <;> simp
@[simp] theorem disarmDeadline_lk (s : State) : (disarmDeadline s).1.lk = s.lk := by
  unfold disarmDeadline; split <;> simp
@[simp] theorem disarmDeadline_pt (s : State) : (disarmDeadline s).1.pt = s.pt := by
  unfold disarmDeadline; split <;> simp
@[simp] theorem disarmDeadline_ci (s : State) : (disarmDeadline s).1.ci = s.ci := by
  unfold disarmDeadline; split <;> simp
@[simp] theorem disarmDeadline_ct (s : State) : (disarmDeadline s).1.ct = s.ct := by
  unfold disarmDeadline; split <;> simp
@[simp] theorem disarmDeadline_pu_counts (s : State) : (disarmDeadline s).1.pu.counts = s.pu.counts := by
  unfold disarmDeadline; split <;> simp
@[simp] theorem disarmDeadline_pu_permitWindow (s : State) : (disarmDeadline s).1.pu.permitWindow = s.pu.permitWindow := by
  unfold disarmDeadline; split <;> simp
@[simp] theorem disarmDeadline_pu_snapshot (s : State) : (disarmDeadline s).1.pu.snapshot = s.pu.snapshot := by
  unfold disarmDeadline; split <;> simp
@[simp] theorem disarmDeadline_pu_evidence (s : State) : (disarmDeadline s).1.pu.evidence = s.pu.evidence := by
  unfold disarmDeadline; split <;> simp
@[simp] theorem disarmDeadline_sc (s : State) : (disarmDeadline s).1.sc = s.sc := by
  unfold disarmDeadline; split <;> simp
@[simp] theorem disarmDeadline_tu (s : State) : (disarmDeadline s).1.tu = s.tu := by
  unfold disarmDeadline; split <;> simp
@[simp] theorem disarmDeadline_cc (s : State) : (disarmDeadline s).1.cc = s.cc := by
  unfold disarmDeadline; split <;> simp
@[simp] theorem disarmDeadline_pq (s : State) : (disarmDeadline s).1.pq = s.pq := by
  unfold disarmDeadline; split <;> simp
@[simp] theorem disarmDeadline_oe (s : State) : (disarmDeadline s).1.oe = s.oe := by
  unfold disarmDeadline; split <;> simp
@[simp] theorem disarmDeadline_nfu (s : State) : (disarmDeadline s).1.nfu = s.nfu := by
  unfold disarmDeadline; split <;> simp
@[simp] theorem disarmDeadline_sck (s : State) : (disarmDeadline s).1.sck = s.sck := by
  unfold disarmDeadline; split <;> simp
set_option Elab.async false in
@[simp] theorem readCounts_pending (s : State) : (readCounts s).1.pending = s.pending := by
  rfl
@[simp] theorem readCounts_tagCount (s : State) : (readCounts s).1.tagCount = s.tagCount := by
  rfl
@[simp] theorem readCounts_pp (s : State) : (readCounts s).1.pp = s.pp := by
  rfl
@[simp] theorem readCounts_lk (s : State) : (readCounts s).1.lk = s.lk := by
  rfl
@[simp] theorem readCounts_pt (s : State) : (readCounts s).1.pt = s.pt := by
  rfl
@[simp] theorem readCounts_ci (s : State) : (readCounts s).1.ci = s.ci := by
  rfl
@[simp] theorem readCounts_ct (s : State) : (readCounts s).1.ct = s.ct := by
  rfl
@[simp] theorem readCounts_pu (s : State) : (readCounts s).1.pu = s.pu := by
  rfl
@[simp] theorem readCounts_sc (s : State) : (readCounts s).1.sc = s.sc := by
  rfl
@[simp] theorem readCounts_tu (s : State) : (readCounts s).1.tu = s.tu := by
  rfl
@[simp] theorem readCounts_cc (s : State) : (readCounts s).1.cc = s.cc := by
  rfl
@[simp] theorem readCounts_pq (s : State) : (readCounts s).1.pq = s.pq := by
  rfl
@[simp] theorem readCounts_oe (s : State) : (readCounts s).1.oe = s.oe := by
  rfl
@[simp] theorem readCounts_nfu (s : State) : (readCounts s).1.nfu = s.nfu := by
  rfl
@[simp] theorem readCounts_sck (s : State) : (readCounts s).1.sck = s.sck := by
  rfl
set_option Elab.async false in
@[simp] theorem scanLane_pending (n : Nat) (serial : Serial) (s : State) : (scanLane n serial s).1.pending = s.pending := by
  unfold scanLane; dsimp only; (repeat' first | split | dsimp only) <;> simp
@[simp] theorem scanLane_tagCount (n : Nat) (serial : Serial) (s : State) : (scanLane n serial s).1.tagCount = s.tagCount := by
  unfold scanLane; dsimp only; (repeat' first | split | dsimp only) <;> simp
@[simp] theorem scanLane_pp (n : Nat) (serial : Serial) (s : State) : (scanLane n serial s).1.pp = s.pp := by
  unfold scanLane; dsimp only; (repeat' first | split | dsimp only) <;> simp
@[simp] theorem scanLane_lk (n : Nat) (serial : Serial) (s : State) : (scanLane n serial s).1.lk = s.lk := by
  unfold scanLane; dsimp only; (repeat' first | split | dsimp only) <;> simp
@[simp] theorem scanLane_ci (n : Nat) (serial : Serial) (s : State) : (scanLane n serial s).1.ci = s.ci := by
  unfold scanLane; dsimp only; (repeat' first | split | dsimp only) <;> simp
@[simp] theorem scanLane_ct (n : Nat) (serial : Serial) (s : State) : (scanLane n serial s).1.ct = s.ct := by
  unfold scanLane; dsimp only; (repeat' first | split | dsimp only) <;> simp
@[simp] theorem scanLane_pu_counts (n : Nat) (serial : Serial) (s : State) : (scanLane n serial s).1.pu.counts = s.pu.counts := by
  unfold scanLane; dsimp only; (repeat' first | split | dsimp only) <;> simp
@[simp] theorem scanLane_pu_permitWindow (n : Nat) (serial : Serial) (s : State) : (scanLane n serial s).1.pu.permitWindow = s.pu.permitWindow := by
  unfold scanLane; dsimp only; (repeat' first | split | dsimp only) <;> simp
@[simp] theorem scanLane_pu_deadline (n : Nat) (serial : Serial) (s : State) : (scanLane n serial s).1.pu.deadline = s.pu.deadline := by
  unfold scanLane; dsimp only; (repeat' first | split | dsimp only) <;> simp
@[simp] theorem scanLane_pu_snapshot (n : Nat) (serial : Serial) (s : State) : (scanLane n serial s).1.pu.snapshot = s.pu.snapshot := by
  unfold scanLane; dsimp only; (repeat' first | split | dsimp only) <;> simp
@[simp] theorem scanLane_pu_evidence (n : Nat) (serial : Serial) (s : State) : (scanLane n serial s).1.pu.evidence = s.pu.evidence := by
  unfold scanLane; dsimp only; (repeat' first | split | dsimp only) <;> simp
@[simp] theorem scanLane_sc (n : Nat) (serial : Serial) (s : State) : (scanLane n serial s).1.sc = s.sc := by
  unfold scanLane; dsimp only; (repeat' first | split | dsimp only) <;> simp
@[simp] theorem scanLane_tu (n : Nat) (serial : Serial) (s : State) : (scanLane n serial s).1.tu = s.tu := by
  unfold scanLane; dsimp only; (repeat' first | split | dsimp only) <;> simp
@[simp] theorem scanLane_cc (n : Nat) (serial : Serial) (s : State) : (scanLane n serial s).1.cc = s.cc := by
  unfold scanLane; dsimp only; (repeat' first | split | dsimp only) <;> simp
@[simp] theorem scanLane_pq_unposted (n : Nat) (serial : Serial) (s : State) : (scanLane n serial s).1.pq.unposted = s.pq.unposted := by
  unfold scanLane; dsimp only; (repeat' first | split | dsimp only) <;> simp
@[simp] theorem scanLane_oe (n : Nat) (serial : Serial) (s : State) : (scanLane n serial s).1.oe = s.oe := by
  unfold scanLane; dsimp only; (repeat' first | split | dsimp only) <;> simp
@[simp] theorem scanLane_nfu_enables (n : Nat) (serial : Serial) (s : State) : (scanLane n serial s).1.nfu.enables = s.nfu.enables := by
  unfold scanLane; dsimp only; (repeat' first | split | dsimp only) <;> simp
@[simp] theorem scanLane_nfu_status (n : Nat) (serial : Serial) (s : State) : (scanLane n serial s).1.nfu.status = s.nfu.status := by
  unfold scanLane; dsimp only; (repeat' first | split | dsimp only) <;> simp
@[simp] theorem scanLane_nfu_masks (n : Nat) (serial : Serial) (s : State) : (scanLane n serial s).1.nfu.masks = s.nfu.masks := by
  unfold scanLane; dsimp only; (repeat' first | split | dsimp only) <;> simp
@[simp] theorem scanLane_nfu_severe (n : Nat) (serial : Serial) (s : State) : (scanLane n serial s).1.nfu.severe = s.nfu.severe := by
  unfold scanLane; dsimp only; (repeat' first | split | dsimp only) <;> simp
@[simp] theorem scanLane_nfu_first (n : Nat) (serial : Serial) (s : State) : (scanLane n serial s).1.nfu.first = s.nfu.first := by
  unfold scanLane; dsimp only; (repeat' first | split | dsimp only) <;> simp
@[simp] theorem scanLane_nfu_refusalRecord (n : Nat) (serial : Serial) (s : State) : (scanLane n serial s).1.nfu.refusalRecord = s.nfu.refusalRecord := by
  unfold scanLane; dsimp only; (repeat' first | split | dsimp only) <;> simp
@[simp] theorem scanLane_nfu_refusalNotice (n : Nat) (serial : Serial) (s : State) : (scanLane n serial s).1.nfu.refusalNotice = s.nfu.refusalNotice := by
  unfold scanLane; dsimp only; (repeat' first | split | dsimp only) <;> simp
@[simp] theorem scanLane_sck (n : Nat) (serial : Serial) (s : State) : (scanLane n serial s).1.sck = s.sck := by
  unfold scanLane; dsimp only; (repeat' first | split | dsimp only) <;> simp
set_option Elab.async false in
@[simp] theorem passLane_pending (n : Nat) (d : Direction) (s : State) : (passLane n d s).1.pending = s.pending := by
  unfold passLane; (repeat' first | split | dsimp only) <;> simp
@[simp] theorem passLane_tagCount (n : Nat) (d : Direction) (s : State) : (passLane n d s).1.tagCount = s.tagCount := by
  unfold passLane; (repeat' first | split | dsimp only) <;> simp
@[simp] theorem passLane_pp (n : Nat) (d : Direction) (s : State) : (passLane n d s).1.pp = s.pp := by
  unfold passLane; (repeat' first | split | dsimp only) <;> simp
@[simp] theorem passLane_lk (n : Nat) (d : Direction) (s : State) : (passLane n d s).1.lk = s.lk := by
  unfold passLane; (repeat' first | split | dsimp only) <;> simp
@[simp] theorem passLane_ci (n : Nat) (d : Direction) (s : State) : (passLane n d s).1.ci = s.ci := by
  unfold passLane; (repeat' first | split | dsimp only) <;> simp
@[simp] theorem passLane_ct (n : Nat) (d : Direction) (s : State) : (passLane n d s).1.ct = s.ct := by
  unfold passLane; (repeat' first | split | dsimp only) <;> simp
@[simp] theorem passLane_pu_permitWindow (n : Nat) (d : Direction) (s : State) : (passLane n d s).1.pu.permitWindow = s.pu.permitWindow := by
  unfold passLane; (repeat' first | split | dsimp only) <;> simp
@[simp] theorem passLane_pu_deadline (n : Nat) (d : Direction) (s : State) : (passLane n d s).1.pu.deadline = s.pu.deadline := by
  unfold passLane; (repeat' first | split | dsimp only) <;> simp
@[simp] theorem passLane_pu_snapshot (n : Nat) (d : Direction) (s : State) : (passLane n d s).1.pu.snapshot = s.pu.snapshot := by
  unfold passLane; (repeat' first | split | dsimp only) <;> simp
@[simp] theorem passLane_pu_evidence (n : Nat) (d : Direction) (s : State) : (passLane n d s).1.pu.evidence = s.pu.evidence := by
  unfold passLane; (repeat' first | split | dsimp only) <;> simp
@[simp] theorem passLane_sc (n : Nat) (d : Direction) (s : State) : (passLane n d s).1.sc = s.sc := by
  unfold passLane; (repeat' first | split | dsimp only) <;> simp
@[simp] theorem passLane_tu (n : Nat) (d : Direction) (s : State) : (passLane n d s).1.tu = s.tu := by
  unfold passLane; (repeat' first | split | dsimp only) <;> simp
@[simp] theorem passLane_cc (n : Nat) (d : Direction) (s : State) : (passLane n d s).1.cc = s.cc := by
  unfold passLane; (repeat' first | split | dsimp only) <;> simp
@[simp] theorem passLane_oe (n : Nat) (d : Direction) (s : State) : (passLane n d s).1.oe = s.oe := by
  unfold passLane; (repeat' first | split | dsimp only) <;> simp
@[simp] theorem passLane_nfu_enables (n : Nat) (d : Direction) (s : State) : (passLane n d s).1.nfu.enables = s.nfu.enables := by
  unfold passLane; (repeat' first | split | dsimp only) <;> simp
@[simp] theorem passLane_nfu_status (n : Nat) (d : Direction) (s : State) : (passLane n d s).1.nfu.status = s.nfu.status := by
  unfold passLane; (repeat' first | split | dsimp only) <;> simp
@[simp] theorem passLane_nfu_masks (n : Nat) (d : Direction) (s : State) : (passLane n d s).1.nfu.masks = s.nfu.masks := by
  unfold passLane; (repeat' first | split | dsimp only) <;> simp
@[simp] theorem passLane_nfu_severe (n : Nat) (d : Direction) (s : State) : (passLane n d s).1.nfu.severe = s.nfu.severe := by
  unfold passLane; (repeat' first | split | dsimp only) <;> simp
@[simp] theorem passLane_nfu_first (n : Nat) (d : Direction) (s : State) : (passLane n d s).1.nfu.first = s.nfu.first := by
  unfold passLane; (repeat' first | split | dsimp only) <;> simp
@[simp] theorem passLane_nfu_refusalRecord (n : Nat) (d : Direction) (s : State) : (passLane n d s).1.nfu.refusalRecord = s.nfu.refusalRecord := by
  unfold passLane; (repeat' first | split | dsimp only) <;> simp
@[simp] theorem passLane_nfu_refusalNotice (n : Nat) (d : Direction) (s : State) : (passLane n d s).1.nfu.refusalNotice = s.nfu.refusalNotice := by
  unfold passLane; (repeat' first | split | dsimp only) <;> simp
@[simp] theorem passLane_sck (n : Nat) (d : Direction) (s : State) : (passLane n d s).1.sck = s.sck := by
  unfold passLane; (repeat' first | split | dsimp only) <;> simp
set_option Elab.async false in
@[simp] theorem enrolLock_pending (g st : Nat) (kind : LockKind) (s : State) : (enrolLock g st kind s).1.pending = s.pending := by
  unfold enrolLock; (repeat' first | split | dsimp only) <;> simp [State.refuse]
@[simp] theorem enrolLock_tagCount (g st : Nat) (kind : LockKind) (s : State) : (enrolLock g st kind s).1.tagCount = s.tagCount := by
  unfold enrolLock; (repeat' first | split | dsimp only) <;> simp [State.refuse]
@[simp] theorem enrolLock_pp (g st : Nat) (kind : LockKind) (s : State) : (enrolLock g st kind s).1.pp = s.pp := by
  unfold enrolLock; (repeat' first | split | dsimp only) <;> simp [State.refuse]
@[simp] theorem enrolLock_lk (g st : Nat) (kind : LockKind) (s : State) : (enrolLock g st kind s).1.lk = s.lk := by
  unfold enrolLock; (repeat' first | split | dsimp only) <;> simp [State.refuse]
@[simp] theorem enrolLock_pt (g st : Nat) (kind : LockKind) (s : State) : (enrolLock g st kind s).1.pt = s.pt := by
  unfold enrolLock; (repeat' first | split | dsimp only) <;> simp [State.refuse]
@[simp] theorem enrolLock_ci (g st : Nat) (kind : LockKind) (s : State) : (enrolLock g st kind s).1.ci = s.ci := by
  unfold enrolLock; (repeat' first | split | dsimp only) <;> simp [State.refuse]
@[simp] theorem enrolLock_pu (g st : Nat) (kind : LockKind) (s : State) : (enrolLock g st kind s).1.pu = s.pu := by
  unfold enrolLock; (repeat' first | split | dsimp only) <;> simp [State.refuse]
@[simp] theorem enrolLock_tu (g st : Nat) (kind : LockKind) (s : State) : (enrolLock g st kind s).1.tu = s.tu := by
  unfold enrolLock; (repeat' first | split | dsimp only) <;> simp [State.refuse]
@[simp] theorem enrolLock_cc (g st : Nat) (kind : LockKind) (s : State) : (enrolLock g st kind s).1.cc = s.cc := by
  unfold enrolLock; (repeat' first | split | dsimp only) <;> simp [State.refuse]
@[simp] theorem enrolLock_pq (g st : Nat) (kind : LockKind) (s : State) : (enrolLock g st kind s).1.pq = s.pq := by
  unfold enrolLock; (repeat' first | split | dsimp only) <;> simp [State.refuse]
@[simp] theorem enrolLock_oe (g st : Nat) (kind : LockKind) (s : State) : (enrolLock g st kind s).1.oe = s.oe := by
  unfold enrolLock; (repeat' first | split | dsimp only) <;> simp [State.refuse]
@[simp] theorem enrolLock_nfu_enables (g st : Nat) (kind : LockKind) (s : State) : (enrolLock g st kind s).1.nfu.enables = s.nfu.enables := by
  unfold enrolLock; (repeat' first | split | dsimp only) <;> simp [State.refuse]
@[simp] theorem enrolLock_nfu_status (g st : Nat) (kind : LockKind) (s : State) : (enrolLock g st kind s).1.nfu.status = s.nfu.status := by
  unfold enrolLock; (repeat' first | split | dsimp only) <;> simp [State.refuse]
@[simp] theorem enrolLock_nfu_masks (g st : Nat) (kind : LockKind) (s : State) : (enrolLock g st kind s).1.nfu.masks = s.nfu.masks := by
  unfold enrolLock; (repeat' first | split | dsimp only) <;> simp [State.refuse]
@[simp] theorem enrolLock_nfu_severe (g st : Nat) (kind : LockKind) (s : State) : (enrolLock g st kind s).1.nfu.severe = s.nfu.severe := by
  unfold enrolLock; (repeat' first | split | dsimp only) <;> simp [State.refuse]
@[simp] theorem enrolLock_nfu_first (g st : Nat) (kind : LockKind) (s : State) : (enrolLock g st kind s).1.nfu.first = s.nfu.first := by
  unfold enrolLock; (repeat' first | split | dsimp only) <;> simp [State.refuse]
@[simp] theorem enrolLock_nfu_refusalRecord (g st : Nat) (kind : LockKind) (s : State) : (enrolLock g st kind s).1.nfu.refusalRecord = s.nfu.refusalRecord := by
  unfold enrolLock; (repeat' first | split | dsimp only) <;> simp [State.refuse]
@[simp] theorem enrolLock_nfu_refusalNotice (g st : Nat) (kind : LockKind) (s : State) : (enrolLock g st kind s).1.nfu.refusalNotice = s.nfu.refusalNotice := by
  unfold enrolLock; (repeat' first | split | dsimp only) <;> simp [State.refuse]
@[simp] theorem enrolLock_sck (g st : Nat) (kind : LockKind) (s : State) : (enrolLock g st kind s).1.sck = s.sck := by
  unfold enrolLock; (repeat' first | split | dsimp only) <;> simp [State.refuse]
set_option Elab.async false in
@[simp] theorem withdrawLock_pending (g st : Nat) (s : State) : (withdrawLock g st s).1.pending = s.pending := by
  unfold withdrawLock; (repeat' first | split | dsimp only) <;> simp [State.refuse]
@[simp] theorem withdrawLock_tagCount (g st : Nat) (s : State) : (withdrawLock g st s).1.tagCount = s.tagCount := by
  unfold withdrawLock; (repeat' first | split | dsimp only) <;> simp [State.refuse]
@[simp] theorem withdrawLock_pp (g st : Nat) (s : State) : (withdrawLock g st s).1.pp = s.pp := by
  unfold withdrawLock; (repeat' first | split | dsimp only) <;> simp [State.refuse]
@[simp] theorem withdrawLock_lk (g st : Nat) (s : State) : (withdrawLock g st s).1.lk = s.lk := by
  unfold withdrawLock; (repeat' first | split | dsimp only) <;> simp [State.refuse]
@[simp] theorem withdrawLock_pt (g st : Nat) (s : State) : (withdrawLock g st s).1.pt = s.pt := by
  unfold withdrawLock; (repeat' first | split | dsimp only) <;> simp [State.refuse]
@[simp] theorem withdrawLock_ci (g st : Nat) (s : State) : (withdrawLock g st s).1.ci = s.ci := by
  unfold withdrawLock; (repeat' first | split | dsimp only) <;> simp [State.refuse]
@[simp] theorem withdrawLock_pu (g st : Nat) (s : State) : (withdrawLock g st s).1.pu = s.pu := by
  unfold withdrawLock; (repeat' first | split | dsimp only) <;> simp [State.refuse]
@[simp] theorem withdrawLock_tu (g st : Nat) (s : State) : (withdrawLock g st s).1.tu = s.tu := by
  unfold withdrawLock; (repeat' first | split | dsimp only) <;> simp [State.refuse]
@[simp] theorem withdrawLock_cc (g st : Nat) (s : State) : (withdrawLock g st s).1.cc = s.cc := by
  unfold withdrawLock; (repeat' first | split | dsimp only) <;> simp [State.refuse]
@[simp] theorem withdrawLock_pq (g st : Nat) (s : State) : (withdrawLock g st s).1.pq = s.pq := by
  unfold withdrawLock; (repeat' first | split | dsimp only) <;> simp [State.refuse]
@[simp] theorem withdrawLock_oe (g st : Nat) (s : State) : (withdrawLock g st s).1.oe = s.oe := by
  unfold withdrawLock; (repeat' first | split | dsimp only) <;> simp [State.refuse]
@[simp] theorem withdrawLock_nfu_enables (g st : Nat) (s : State) : (withdrawLock g st s).1.nfu.enables = s.nfu.enables := by
  unfold withdrawLock; (repeat' first | split | dsimp only) <;> simp [State.refuse]
@[simp] theorem withdrawLock_nfu_status (g st : Nat) (s : State) : (withdrawLock g st s).1.nfu.status = s.nfu.status := by
  unfold withdrawLock; (repeat' first | split | dsimp only) <;> simp [State.refuse]
@[simp] theorem withdrawLock_nfu_masks (g st : Nat) (s : State) : (withdrawLock g st s).1.nfu.masks = s.nfu.masks := by
  unfold withdrawLock; (repeat' first | split | dsimp only) <;> simp [State.refuse]
@[simp] theorem withdrawLock_nfu_severe (g st : Nat) (s : State) : (withdrawLock g st s).1.nfu.severe = s.nfu.severe := by
  unfold withdrawLock; (repeat' first | split | dsimp only) <;> simp [State.refuse]
@[simp] theorem withdrawLock_nfu_first (g st : Nat) (s : State) : (withdrawLock g st s).1.nfu.first = s.nfu.first := by
  unfold withdrawLock; (repeat' first | split | dsimp only) <;> simp [State.refuse]
@[simp] theorem withdrawLock_nfu_refusalRecord (g st : Nat) (s : State) : (withdrawLock g st s).1.nfu.refusalRecord = s.nfu.refusalRecord := by
  unfold withdrawLock; (repeat' first | split | dsimp only) <;> simp [State.refuse]
@[simp] theorem withdrawLock_nfu_refusalNotice (g st : Nat) (s : State) : (withdrawLock g st s).1.nfu.refusalNotice = s.nfu.refusalNotice := by
  unfold withdrawLock; (repeat' first | split | dsimp only) <;> simp [State.refuse]
@[simp] theorem withdrawLock_sck (g st : Nat) (s : State) : (withdrawLock g st s).1.sck = s.sck := by
  unfold withdrawLock; (repeat' first | split | dsimp only) <;> simp [State.refuse]
set_option Elab.async false in
@[simp] theorem setSegment_pending (g doze spacing window : Nat) (list : List (Nat × Bool)) (s : State) : (setSegment g doze spacing window list s).1.pending = s.pending := by
  unfold setSegment; (repeat' first | split | dsimp only) <;> simp [State.refuse]
@[simp] theorem setSegment_tagCount (g doze spacing window : Nat) (list : List (Nat × Bool)) (s : State) : (setSegment g doze spacing window list s).1.tagCount = s.tagCount := by
  unfold setSegment; (repeat' first | split | dsimp only) <;> simp [State.refuse]
@[simp] theorem setSegment_pp (g doze spacing window : Nat) (list : List (Nat × Bool)) (s : State) : (setSegment g doze spacing window list s).1.pp = s.pp := by
  unfold setSegment; (repeat' first | split | dsimp only) <;> simp [State.refuse]
@[simp] theorem setSegment_pt (g doze spacing window : Nat) (list : List (Nat × Bool)) (s : State) : (setSegment g doze spacing window list s).1.pt = s.pt := by
  unfold setSegment; (repeat' first | split | dsimp only) <;> simp [State.refuse]
@[simp] theorem setSegment_ci (g doze spacing window : Nat) (list : List (Nat × Bool)) (s : State) : (setSegment g doze spacing window list s).1.ci = s.ci := by
  unfold setSegment; (repeat' first | split | dsimp only) <;> simp [State.refuse]
@[simp] theorem setSegment_ct (g doze spacing window : Nat) (list : List (Nat × Bool)) (s : State) : (setSegment g doze spacing window list s).1.ct = s.ct := by
  unfold setSegment; (repeat' first | split | dsimp only) <;> simp [State.refuse]
@[simp] theorem setSegment_pu (g doze spacing window : Nat) (list : List (Nat × Bool)) (s : State) : (setSegment g doze spacing window list s).1.pu = s.pu := by
  unfold setSegment; (repeat' first | split | dsimp only) <;> simp [State.refuse]
@[simp] theorem setSegment_tu (g doze spacing window : Nat) (list : List (Nat × Bool)) (s : State) : (setSegment g doze spacing window list s).1.tu = s.tu := by
  unfold setSegment; (repeat' first | split | dsimp only) <;> simp [State.refuse]
@[simp] theorem setSegment_cc (g doze spacing window : Nat) (list : List (Nat × Bool)) (s : State) : (setSegment g doze spacing window list s).1.cc = s.cc := by
  unfold setSegment; (repeat' first | split | dsimp only) <;> simp [State.refuse]
@[simp] theorem setSegment_pq (g doze spacing window : Nat) (list : List (Nat × Bool)) (s : State) : (setSegment g doze spacing window list s).1.pq = s.pq := by
  unfold setSegment; (repeat' first | split | dsimp only) <;> simp [State.refuse]
@[simp] theorem setSegment_oe (g doze spacing window : Nat) (list : List (Nat × Bool)) (s : State) : (setSegment g doze spacing window list s).1.oe = s.oe := by
  unfold setSegment; (repeat' first | split | dsimp only) <;> simp [State.refuse]
@[simp] theorem setSegment_nfu_enables (g doze spacing window : Nat) (list : List (Nat × Bool)) (s : State) : (setSegment g doze spacing window list s).1.nfu.enables = s.nfu.enables := by
  unfold setSegment; (repeat' first | split | dsimp only) <;> simp [State.refuse]
@[simp] theorem setSegment_nfu_status (g doze spacing window : Nat) (list : List (Nat × Bool)) (s : State) : (setSegment g doze spacing window list s).1.nfu.status = s.nfu.status := by
  unfold setSegment; (repeat' first | split | dsimp only) <;> simp [State.refuse]
@[simp] theorem setSegment_nfu_masks (g doze spacing window : Nat) (list : List (Nat × Bool)) (s : State) : (setSegment g doze spacing window list s).1.nfu.masks = s.nfu.masks := by
  unfold setSegment; (repeat' first | split | dsimp only) <;> simp [State.refuse]
@[simp] theorem setSegment_nfu_severe (g doze spacing window : Nat) (list : List (Nat × Bool)) (s : State) : (setSegment g doze spacing window list s).1.nfu.severe = s.nfu.severe := by
  unfold setSegment; (repeat' first | split | dsimp only) <;> simp [State.refuse]
@[simp] theorem setSegment_nfu_first (g doze spacing window : Nat) (list : List (Nat × Bool)) (s : State) : (setSegment g doze spacing window list s).1.nfu.first = s.nfu.first := by
  unfold setSegment; (repeat' first | split | dsimp only) <;> simp [State.refuse]
@[simp] theorem setSegment_nfu_refusalRecord (g doze spacing window : Nat) (list : List (Nat × Bool)) (s : State) : (setSegment g doze spacing window list s).1.nfu.refusalRecord = s.nfu.refusalRecord := by
  unfold setSegment; (repeat' first | split | dsimp only) <;> simp [State.refuse]
@[simp] theorem setSegment_nfu_refusalNotice (g doze spacing window : Nat) (list : List (Nat × Bool)) (s : State) : (setSegment g doze spacing window list s).1.nfu.refusalNotice = s.nfu.refusalNotice := by
  unfold setSegment; (repeat' first | split | dsimp only) <;> simp [State.refuse]
@[simp] theorem setSegment_sck (g doze spacing window : Nat) (list : List (Nat × Bool)) (s : State) : (setSegment g doze spacing window list s).1.sck = s.sck := by
  unfold setSegment; (repeat' first | split | dsimp only) <;> simp [State.refuse]
set_option Elab.async false in
@[simp] theorem readSegment_pending (g first count : Nat) (s : State) : (readSegment g first count s).1.pending = s.pending := by
  unfold readSegment; split <;> simp [State.refuse]
@[simp] theorem readSegment_tagCount (g first count : Nat) (s : State) : (readSegment g first count s).1.tagCount = s.tagCount := by
  unfold readSegment; split <;> simp [State.refuse]
@[simp] theorem readSegment_pp (g first count : Nat) (s : State) : (readSegment g first count s).1.pp = s.pp := by
  unfold readSegment; split <;> simp [State.refuse]
@[simp] theorem readSegment_lk (g first count : Nat) (s : State) : (readSegment g first count s).1.lk = s.lk := by
  unfold readSegment; split <;> simp [State.refuse]
@[simp] theorem readSegment_pt (g first count : Nat) (s : State) : (readSegment g first count s).1.pt = s.pt := by
  unfold readSegment; split <;> simp [State.refuse]
@[simp] theorem readSegment_ci (g first count : Nat) (s : State) : (readSegment g first count s).1.ci = s.ci := by
  unfold readSegment; split <;> simp [State.refuse]
@[simp] theorem readSegment_ct (g first count : Nat) (s : State) : (readSegment g first count s).1.ct = s.ct := by
  unfold readSegment; split <;> simp [State.refuse]
@[simp] theorem readSegment_pu (g first count : Nat) (s : State) : (readSegment g first count s).1.pu = s.pu := by
  unfold readSegment; split <;> simp [State.refuse]
@[simp] theorem readSegment_sc (g first count : Nat) (s : State) : (readSegment g first count s).1.sc = s.sc := by
  unfold readSegment; split <;> simp [State.refuse]
@[simp] theorem readSegment_tu (g first count : Nat) (s : State) : (readSegment g first count s).1.tu = s.tu := by
  unfold readSegment; split <;> simp [State.refuse]
@[simp] theorem readSegment_cc (g first count : Nat) (s : State) : (readSegment g first count s).1.cc = s.cc := by
  unfold readSegment; split <;> simp [State.refuse]
@[simp] theorem readSegment_pq (g first count : Nat) (s : State) : (readSegment g first count s).1.pq = s.pq := by
  unfold readSegment; split <;> simp [State.refuse]
@[simp] theorem readSegment_oe (g first count : Nat) (s : State) : (readSegment g first count s).1.oe = s.oe := by
  unfold readSegment; split <;> simp [State.refuse]
@[simp] theorem readSegment_nfu (g first count : Nat) (s : State) : (readSegment g first count s).1.nfu = s.nfu := by
  unfold readSegment; split <;> simp [State.refuse]
@[simp] theorem readSegment_sck (g first count : Nat) (s : State) : (readSegment g first count s).1.sck = s.sck := by
  unfold readSegment; split <;> simp [State.refuse]
set_option Elab.async false in
@[simp] theorem allRelease_pending (g : Nat) (s : State) : (allRelease g s).1.pending = s.pending := by
  unfold allRelease; split <;> first | rfl | exact @State.foldl_keeps Nat _ (fun s => s.pending) _ (by intro s a; simp) _ _
@[simp] theorem allRelease_tagCount (g : Nat) (s : State) : (allRelease g s).1.tagCount = s.tagCount := by
  unfold allRelease; split <;> first | rfl | exact @State.foldl_keeps Nat _ (fun s => s.tagCount) _ (by intro s a; simp) _ _
@[simp] theorem allRelease_pp (g : Nat) (s : State) : (allRelease g s).1.pp = s.pp := by
  unfold allRelease; split <;> first | rfl | exact @State.foldl_keeps Nat _ (fun s => s.pp) _ (by intro s a; simp) _ _
@[simp] theorem allRelease_pt (g : Nat) (s : State) : (allRelease g s).1.pt = s.pt := by
  unfold allRelease; split <;> first | rfl | exact @State.foldl_keeps Nat _ (fun s => s.pt) _ (by intro s a; simp) _ _
@[simp] theorem allRelease_ci (g : Nat) (s : State) : (allRelease g s).1.ci = s.ci := by
  unfold allRelease; split <;> first | rfl | exact @State.foldl_keeps Nat _ (fun s => s.ci) _ (by intro s a; simp) _ _
@[simp] theorem allRelease_ct (g : Nat) (s : State) : (allRelease g s).1.ct = s.ct := by
  unfold allRelease; split <;> first | rfl | exact @State.foldl_keeps Nat _ (fun s => s.ct) _ (by intro s a; simp) _ _
@[simp] theorem allRelease_pu (g : Nat) (s : State) : (allRelease g s).1.pu = s.pu := by
  unfold allRelease; split <;> first | rfl | exact @State.foldl_keeps Nat _ (fun s => s.pu) _ (by intro s a; simp) _ _
@[simp] theorem allRelease_tu (g : Nat) (s : State) : (allRelease g s).1.tu = s.tu := by
  unfold allRelease; split <;> first | rfl | exact @State.foldl_keeps Nat _ (fun s => s.tu) _ (by intro s a; simp) _ _
@[simp] theorem allRelease_cc (g : Nat) (s : State) : (allRelease g s).1.cc = s.cc := by
  unfold allRelease; split <;> first | rfl | exact @State.foldl_keeps Nat _ (fun s => s.cc) _ (by intro s a; simp) _ _
@[simp] theorem allRelease_pq (g : Nat) (s : State) : (allRelease g s).1.pq = s.pq := by
  unfold allRelease; split <;> first | rfl | exact @State.foldl_keeps Nat _ (fun s => s.pq) _ (by intro s a; simp) _ _
@[simp] theorem allRelease_oe (g : Nat) (s : State) : (allRelease g s).1.oe = s.oe := by
  unfold allRelease; split <;> first | rfl | exact @State.foldl_keeps Nat _ (fun s => s.oe) _ (by intro s a; simp) _ _
@[simp] theorem allRelease_nfu_enables (g : Nat) (s : State) : (allRelease g s).1.nfu.enables = s.nfu.enables := by
  unfold allRelease; split <;> first | rfl | exact @State.foldl_keeps Nat _ (fun s => s.nfu.enables) _ (by intro s a; simp) _ _
@[simp] theorem allRelease_nfu_status (g : Nat) (s : State) : (allRelease g s).1.nfu.status = s.nfu.status := by
  unfold allRelease; split <;> first | rfl | exact @State.foldl_keeps Nat _ (fun s => s.nfu.status) _ (by intro s a; simp) _ _
@[simp] theorem allRelease_nfu_masks (g : Nat) (s : State) : (allRelease g s).1.nfu.masks = s.nfu.masks := by
  unfold allRelease; split <;> first | rfl | exact @State.foldl_keeps Nat _ (fun s => s.nfu.masks) _ (by intro s a; simp) _ _
@[simp] theorem allRelease_nfu_severe (g : Nat) (s : State) : (allRelease g s).1.nfu.severe = s.nfu.severe := by
  unfold allRelease; split <;> first | rfl | exact @State.foldl_keeps Nat _ (fun s => s.nfu.severe) _ (by intro s a; simp) _ _
@[simp] theorem allRelease_nfu_first (g : Nat) (s : State) : (allRelease g s).1.nfu.first = s.nfu.first := by
  unfold allRelease; split <;> first | rfl | exact @State.foldl_keeps Nat _ (fun s => s.nfu.first) _ (by intro s a; simp) _ _
@[simp] theorem allRelease_nfu_refusalRecord (g : Nat) (s : State) : (allRelease g s).1.nfu.refusalRecord = s.nfu.refusalRecord := by
  unfold allRelease; split <;> first | rfl | exact @State.foldl_keeps Nat _ (fun s => s.nfu.refusalRecord) _ (by intro s a; simp) _ _
@[simp] theorem allRelease_nfu_refusalNotice (g : Nat) (s : State) : (allRelease g s).1.nfu.refusalNotice = s.nfu.refusalNotice := by
  unfold allRelease; split <;> first | rfl | exact @State.foldl_keeps Nat _ (fun s => s.nfu.refusalNotice) _ (by intro s a; simp) _ _
@[simp] theorem allRelease_sck (g : Nat) (s : State) : (allRelease g s).1.sck = s.sck := by
  unfold allRelease; split <;> first | rfl | exact @State.foldl_keeps Nat _ (fun s => s.sck) _ (by intro s a; simp) _ _
set_option Elab.async false in
@[simp] theorem allRestore_pending (g : Nat) (s : State) : (allRestore g s).1.pending = s.pending := by
  unfold allRestore; split <;> first | rfl | exact @State.foldl_keeps Nat _ (fun s => s.pending) _ (by intro s a; simp) _ _
@[simp] theorem allRestore_tagCount (g : Nat) (s : State) : (allRestore g s).1.tagCount = s.tagCount := by
  unfold allRestore; split <;> first | rfl | exact @State.foldl_keeps Nat _ (fun s => s.tagCount) _ (by intro s a; simp) _ _
@[simp] theorem allRestore_pp (g : Nat) (s : State) : (allRestore g s).1.pp = s.pp := by
  unfold allRestore; split <;> first | rfl | exact @State.foldl_keeps Nat _ (fun s => s.pp) _ (by intro s a; simp) _ _
@[simp] theorem allRestore_pt (g : Nat) (s : State) : (allRestore g s).1.pt = s.pt := by
  unfold allRestore; split <;> first | rfl | exact @State.foldl_keeps Nat _ (fun s => s.pt) _ (by intro s a; simp) _ _
@[simp] theorem allRestore_ci (g : Nat) (s : State) : (allRestore g s).1.ci = s.ci := by
  unfold allRestore; split <;> first | rfl | exact @State.foldl_keeps Nat _ (fun s => s.ci) _ (by intro s a; simp) _ _
@[simp] theorem allRestore_ct (g : Nat) (s : State) : (allRestore g s).1.ct = s.ct := by
  unfold allRestore; split <;> first | rfl | exact @State.foldl_keeps Nat _ (fun s => s.ct) _ (by intro s a; simp) _ _
@[simp] theorem allRestore_pu (g : Nat) (s : State) : (allRestore g s).1.pu = s.pu := by
  unfold allRestore; split <;> first | rfl | exact @State.foldl_keeps Nat _ (fun s => s.pu) _ (by intro s a; simp) _ _
@[simp] theorem allRestore_tu (g : Nat) (s : State) : (allRestore g s).1.tu = s.tu := by
  unfold allRestore; split <;> first | rfl | exact @State.foldl_keeps Nat _ (fun s => s.tu) _ (by intro s a; simp) _ _
@[simp] theorem allRestore_cc (g : Nat) (s : State) : (allRestore g s).1.cc = s.cc := by
  unfold allRestore; split <;> first | rfl | exact @State.foldl_keeps Nat _ (fun s => s.cc) _ (by intro s a; simp) _ _
@[simp] theorem allRestore_pq (g : Nat) (s : State) : (allRestore g s).1.pq = s.pq := by
  unfold allRestore; split <;> first | rfl | exact @State.foldl_keeps Nat _ (fun s => s.pq) _ (by intro s a; simp) _ _
@[simp] theorem allRestore_oe (g : Nat) (s : State) : (allRestore g s).1.oe = s.oe := by
  unfold allRestore; split <;> first | rfl | exact @State.foldl_keeps Nat _ (fun s => s.oe) _ (by intro s a; simp) _ _
@[simp] theorem allRestore_nfu_enables (g : Nat) (s : State) : (allRestore g s).1.nfu.enables = s.nfu.enables := by
  unfold allRestore; split <;> first | rfl | exact @State.foldl_keeps Nat _ (fun s => s.nfu.enables) _ (by intro s a; simp) _ _
@[simp] theorem allRestore_nfu_status (g : Nat) (s : State) : (allRestore g s).1.nfu.status = s.nfu.status := by
  unfold allRestore; split <;> first | rfl | exact @State.foldl_keeps Nat _ (fun s => s.nfu.status) _ (by intro s a; simp) _ _
@[simp] theorem allRestore_nfu_masks (g : Nat) (s : State) : (allRestore g s).1.nfu.masks = s.nfu.masks := by
  unfold allRestore; split <;> first | rfl | exact @State.foldl_keeps Nat _ (fun s => s.nfu.masks) _ (by intro s a; simp) _ _
@[simp] theorem allRestore_nfu_severe (g : Nat) (s : State) : (allRestore g s).1.nfu.severe = s.nfu.severe := by
  unfold allRestore; split <;> first | rfl | exact @State.foldl_keeps Nat _ (fun s => s.nfu.severe) _ (by intro s a; simp) _ _
@[simp] theorem allRestore_nfu_first (g : Nat) (s : State) : (allRestore g s).1.nfu.first = s.nfu.first := by
  unfold allRestore; split <;> first | rfl | exact @State.foldl_keeps Nat _ (fun s => s.nfu.first) _ (by intro s a; simp) _ _
@[simp] theorem allRestore_nfu_refusalRecord (g : Nat) (s : State) : (allRestore g s).1.nfu.refusalRecord = s.nfu.refusalRecord := by
  unfold allRestore; split <;> first | rfl | exact @State.foldl_keeps Nat _ (fun s => s.nfu.refusalRecord) _ (by intro s a; simp) _ _
@[simp] theorem allRestore_nfu_refusalNotice (g : Nat) (s : State) : (allRestore g s).1.nfu.refusalNotice = s.nfu.refusalNotice := by
  unfold allRestore; split <;> first | rfl | exact @State.foldl_keeps Nat _ (fun s => s.nfu.refusalNotice) _ (by intro s a; simp) _ _
@[simp] theorem allRestore_sck (g : Nat) (s : State) : (allRestore g s).1.sck = s.sck := by
  unfold allRestore; split <;> first | rfl | exact @State.foldl_keeps Nat _ (fun s => s.sck) _ (by intro s a; simp) _ _
set_option Elab.async false in
@[simp] theorem enableLink_pending (n : Nat) (s : State) : (enableLink n s).1.pending = s.pending := by
  unfold enableLink; (repeat' first | split | dsimp only) <;> simp [State.refuse]
@[simp] theorem enableLink_tagCount (n : Nat) (s : State) : (enableLink n s).1.tagCount = s.tagCount := by
  unfold enableLink; (repeat' first | split | dsimp only) <;> simp [State.refuse]
@[simp] theorem enableLink_pp (n : Nat) (s : State) : (enableLink n s).1.pp = s.pp := by
  unfold enableLink; (repeat' first | split | dsimp only) <;> simp [State.refuse]
@[simp] theorem enableLink_pt (n : Nat) (s : State) : (enableLink n s).1.pt = s.pt := by
  unfold enableLink; (repeat' first | split | dsimp only) <;> simp [State.refuse]
@[simp] theorem enableLink_ci (n : Nat) (s : State) : (enableLink n s).1.ci = s.ci := by
  unfold enableLink; (repeat' first | split | dsimp only) <;> simp [State.refuse]
@[simp] theorem enableLink_ct (n : Nat) (s : State) : (enableLink n s).1.ct = s.ct := by
  unfold enableLink; (repeat' first | split | dsimp only) <;> simp [State.refuse]
@[simp] theorem enableLink_pu (n : Nat) (s : State) : (enableLink n s).1.pu = s.pu := by
  unfold enableLink; (repeat' first | split | dsimp only) <;> simp [State.refuse]
@[simp] theorem enableLink_sc (n : Nat) (s : State) : (enableLink n s).1.sc = s.sc := by
  unfold enableLink; (repeat' first | split | dsimp only) <;> simp [State.refuse]
@[simp] theorem enableLink_tu (n : Nat) (s : State) : (enableLink n s).1.tu = s.tu := by
  unfold enableLink; (repeat' first | split | dsimp only) <;> simp [State.refuse]
@[simp] theorem enableLink_cc (n : Nat) (s : State) : (enableLink n s).1.cc = s.cc := by
  unfold enableLink; (repeat' first | split | dsimp only) <;> simp [State.refuse]
@[simp] theorem enableLink_pq (n : Nat) (s : State) : (enableLink n s).1.pq = s.pq := by
  unfold enableLink; (repeat' first | split | dsimp only) <;> simp [State.refuse]
@[simp] theorem enableLink_oe (n : Nat) (s : State) : (enableLink n s).1.oe = s.oe := by
  unfold enableLink; (repeat' first | split | dsimp only) <;> simp [State.refuse]
@[simp] theorem enableLink_nfu_enables (n : Nat) (s : State) : (enableLink n s).1.nfu.enables = s.nfu.enables := by
  unfold enableLink; (repeat' first | split | dsimp only) <;> simp [State.refuse]
@[simp] theorem enableLink_nfu_status (n : Nat) (s : State) : (enableLink n s).1.nfu.status = s.nfu.status := by
  unfold enableLink; (repeat' first | split | dsimp only) <;> simp [State.refuse]
@[simp] theorem enableLink_nfu_masks (n : Nat) (s : State) : (enableLink n s).1.nfu.masks = s.nfu.masks := by
  unfold enableLink; (repeat' first | split | dsimp only) <;> simp [State.refuse]
@[simp] theorem enableLink_nfu_severe (n : Nat) (s : State) : (enableLink n s).1.nfu.severe = s.nfu.severe := by
  unfold enableLink; (repeat' first | split | dsimp only) <;> simp [State.refuse]
@[simp] theorem enableLink_nfu_first (n : Nat) (s : State) : (enableLink n s).1.nfu.first = s.nfu.first := by
  unfold enableLink; (repeat' first | split | dsimp only) <;> simp [State.refuse]
@[simp] theorem enableLink_nfu_refusalRecord (n : Nat) (s : State) : (enableLink n s).1.nfu.refusalRecord = s.nfu.refusalRecord := by
  unfold enableLink; (repeat' first | split | dsimp only) <;> simp [State.refuse]
@[simp] theorem enableLink_nfu_refusalNotice (n : Nat) (s : State) : (enableLink n s).1.nfu.refusalNotice = s.nfu.refusalNotice := by
  unfold enableLink; (repeat' first | split | dsimp only) <;> simp [State.refuse]
@[simp] theorem enableLink_sck (n : Nat) (s : State) : (enableLink n s).1.sck = s.sck := by
  unfold enableLink; (repeat' first | split | dsimp only) <;> simp [State.refuse]
set_option Elab.async false in
@[simp] theorem disableLink_pending (n : Nat) (s : State) : (disableLink n s).1.pending = s.pending := by
  unfold disableLink; (repeat' first | split | dsimp only) <;> simp [State.refuse]
@[simp] theorem disableLink_tagCount (n : Nat) (s : State) : (disableLink n s).1.tagCount = s.tagCount := by
  unfold disableLink; (repeat' first | split | dsimp only) <;> simp [State.refuse]
@[simp] theorem disableLink_pp (n : Nat) (s : State) : (disableLink n s).1.pp = s.pp := by
  unfold disableLink; (repeat' first | split | dsimp only) <;> simp [State.refuse]
@[simp] theorem disableLink_ci (n : Nat) (s : State) : (disableLink n s).1.ci = s.ci := by
  unfold disableLink; (repeat' first | split | dsimp only) <;> simp [State.refuse]
@[simp] theorem disableLink_ct (n : Nat) (s : State) : (disableLink n s).1.ct = s.ct := by
  unfold disableLink; (repeat' first | split | dsimp only) <;> simp [State.refuse]
@[simp] theorem disableLink_pu_counts (n : Nat) (s : State) : (disableLink n s).1.pu.counts = s.pu.counts := by
  unfold disableLink; (repeat' first | split | dsimp only) <;> simp [State.refuse]
@[simp] theorem disableLink_pu_permitWindow (n : Nat) (s : State) : (disableLink n s).1.pu.permitWindow = s.pu.permitWindow := by
  unfold disableLink; (repeat' first | split | dsimp only) <;> simp [State.refuse]
@[simp] theorem disableLink_pu_deadline (n : Nat) (s : State) : (disableLink n s).1.pu.deadline = s.pu.deadline := by
  unfold disableLink; (repeat' first | split | dsimp only) <;> simp [State.refuse]
@[simp] theorem disableLink_pu_snapshot (n : Nat) (s : State) : (disableLink n s).1.pu.snapshot = s.pu.snapshot := by
  unfold disableLink; (repeat' first | split | dsimp only) <;> simp [State.refuse]
@[simp] theorem disableLink_pu_evidence (n : Nat) (s : State) : (disableLink n s).1.pu.evidence = s.pu.evidence := by
  unfold disableLink; (repeat' first | split | dsimp only) <;> simp [State.refuse]
@[simp] theorem disableLink_tu (n : Nat) (s : State) : (disableLink n s).1.tu = s.tu := by
  unfold disableLink; (repeat' first | split | dsimp only) <;> simp [State.refuse]
@[simp] theorem disableLink_cc (n : Nat) (s : State) : (disableLink n s).1.cc = s.cc := by
  unfold disableLink; (repeat' first | split | dsimp only) <;> simp [State.refuse]
@[simp] theorem disableLink_pq (n : Nat) (s : State) : (disableLink n s).1.pq = s.pq := by
  unfold disableLink; (repeat' first | split | dsimp only) <;> simp [State.refuse]
@[simp] theorem disableLink_oe (n : Nat) (s : State) : (disableLink n s).1.oe = s.oe := by
  unfold disableLink; (repeat' first | split | dsimp only) <;> simp [State.refuse]
@[simp] theorem disableLink_nfu_enables (n : Nat) (s : State) : (disableLink n s).1.nfu.enables = s.nfu.enables := by
  unfold disableLink; (repeat' first | split | dsimp only) <;> simp [State.refuse]
@[simp] theorem disableLink_nfu_status (n : Nat) (s : State) : (disableLink n s).1.nfu.status = s.nfu.status := by
  unfold disableLink; (repeat' first | split | dsimp only) <;> simp [State.refuse]
@[simp] theorem disableLink_nfu_masks (n : Nat) (s : State) : (disableLink n s).1.nfu.masks = s.nfu.masks := by
  unfold disableLink; (repeat' first | split | dsimp only) <;> simp [State.refuse]
@[simp] theorem disableLink_nfu_severe (n : Nat) (s : State) : (disableLink n s).1.nfu.severe = s.nfu.severe := by
  unfold disableLink; (repeat' first | split | dsimp only) <;> simp [State.refuse]
@[simp] theorem disableLink_nfu_first (n : Nat) (s : State) : (disableLink n s).1.nfu.first = s.nfu.first := by
  unfold disableLink; (repeat' first | split | dsimp only) <;> simp [State.refuse]
@[simp] theorem disableLink_nfu_refusalRecord (n : Nat) (s : State) : (disableLink n s).1.nfu.refusalRecord = s.nfu.refusalRecord := by
  unfold disableLink; (repeat' first | split | dsimp only) <;> simp [State.refuse]
@[simp] theorem disableLink_nfu_refusalNotice (n : Nat) (s : State) : (disableLink n s).1.nfu.refusalNotice = s.nfu.refusalNotice := by
  unfold disableLink; (repeat' first | split | dsimp only) <;> simp [State.refuse]
@[simp] theorem disableLink_sck (n : Nat) (s : State) : (disableLink n s).1.sck = s.sck := by
  unfold disableLink; (repeat' first | split | dsimp only) <;> simp [State.refuse]
set_option Elab.async false in
@[simp] theorem retrainLink_pending (n : Nat) (s : State) : (retrainLink n s).1.pending = s.pending := by
  unfold retrainLink; split <;> simp [State.refuse]
@[simp] theorem retrainLink_tagCount (n : Nat) (s : State) : (retrainLink n s).1.tagCount = s.tagCount := by
  unfold retrainLink; split <;> simp [State.refuse]
@[simp] theorem retrainLink_pp (n : Nat) (s : State) : (retrainLink n s).1.pp = s.pp := by
  unfold retrainLink; split <;> simp [State.refuse]
@[simp] theorem retrainLink_ci (n : Nat) (s : State) : (retrainLink n s).1.ci = s.ci := by
  unfold retrainLink; split <;> simp [State.refuse]
@[simp] theorem retrainLink_ct (n : Nat) (s : State) : (retrainLink n s).1.ct = s.ct := by
  unfold retrainLink; split <;> simp [State.refuse]
@[simp] theorem retrainLink_pu_counts (n : Nat) (s : State) : (retrainLink n s).1.pu.counts = s.pu.counts := by
  unfold retrainLink; split <;> simp [State.refuse]
@[simp] theorem retrainLink_pu_permitWindow (n : Nat) (s : State) : (retrainLink n s).1.pu.permitWindow = s.pu.permitWindow := by
  unfold retrainLink; split <;> simp [State.refuse]
@[simp] theorem retrainLink_pu_deadline (n : Nat) (s : State) : (retrainLink n s).1.pu.deadline = s.pu.deadline := by
  unfold retrainLink; split <;> simp [State.refuse]
@[simp] theorem retrainLink_pu_snapshot (n : Nat) (s : State) : (retrainLink n s).1.pu.snapshot = s.pu.snapshot := by
  unfold retrainLink; split <;> simp [State.refuse]
@[simp] theorem retrainLink_pu_evidence (n : Nat) (s : State) : (retrainLink n s).1.pu.evidence = s.pu.evidence := by
  unfold retrainLink; split <;> simp [State.refuse]
@[simp] theorem retrainLink_tu (n : Nat) (s : State) : (retrainLink n s).1.tu = s.tu := by
  unfold retrainLink; split <;> simp [State.refuse]
@[simp] theorem retrainLink_cc (n : Nat) (s : State) : (retrainLink n s).1.cc = s.cc := by
  unfold retrainLink; split <;> simp [State.refuse]
@[simp] theorem retrainLink_pq (n : Nat) (s : State) : (retrainLink n s).1.pq = s.pq := by
  unfold retrainLink; split <;> simp [State.refuse]
@[simp] theorem retrainLink_oe (n : Nat) (s : State) : (retrainLink n s).1.oe = s.oe := by
  unfold retrainLink; split <;> simp [State.refuse]
@[simp] theorem retrainLink_nfu_enables (n : Nat) (s : State) : (retrainLink n s).1.nfu.enables = s.nfu.enables := by
  unfold retrainLink; split <;> simp [State.refuse]
@[simp] theorem retrainLink_nfu_status (n : Nat) (s : State) : (retrainLink n s).1.nfu.status = s.nfu.status := by
  unfold retrainLink; split <;> simp [State.refuse]
@[simp] theorem retrainLink_nfu_masks (n : Nat) (s : State) : (retrainLink n s).1.nfu.masks = s.nfu.masks := by
  unfold retrainLink; split <;> simp [State.refuse]
@[simp] theorem retrainLink_nfu_severe (n : Nat) (s : State) : (retrainLink n s).1.nfu.severe = s.nfu.severe := by
  unfold retrainLink; split <;> simp [State.refuse]
@[simp] theorem retrainLink_nfu_first (n : Nat) (s : State) : (retrainLink n s).1.nfu.first = s.nfu.first := by
  unfold retrainLink; split <;> simp [State.refuse]
@[simp] theorem retrainLink_nfu_refusalRecord (n : Nat) (s : State) : (retrainLink n s).1.nfu.refusalRecord = s.nfu.refusalRecord := by
  unfold retrainLink; split <;> simp [State.refuse]
@[simp] theorem retrainLink_nfu_refusalNotice (n : Nat) (s : State) : (retrainLink n s).1.nfu.refusalNotice = s.nfu.refusalNotice := by
  unfold retrainLink; split <;> simp [State.refuse]
@[simp] theorem retrainLink_sck (n : Nat) (s : State) : (retrainLink n s).1.sck = s.sck := by
  unfold retrainLink; split <;> simp [State.refuse]
set_option Elab.async false in
@[simp] theorem retrainSegment_pending (g : Nat) (s : State) : (retrainSegment g s).1.pending = s.pending := by
  unfold retrainSegment; split <;> simp [State.refuse]
@[simp] theorem retrainSegment_tagCount (g : Nat) (s : State) : (retrainSegment g s).1.tagCount = s.tagCount := by
  unfold retrainSegment; split <;> simp [State.refuse]
@[simp] theorem retrainSegment_pp (g : Nat) (s : State) : (retrainSegment g s).1.pp = s.pp := by
  unfold retrainSegment; split <;> simp [State.refuse]
@[simp] theorem retrainSegment_ci (g : Nat) (s : State) : (retrainSegment g s).1.ci = s.ci := by
  unfold retrainSegment; split <;> simp [State.refuse]
@[simp] theorem retrainSegment_ct (g : Nat) (s : State) : (retrainSegment g s).1.ct = s.ct := by
  unfold retrainSegment; split <;> simp [State.refuse]
@[simp] theorem retrainSegment_pu_counts (g : Nat) (s : State) : (retrainSegment g s).1.pu.counts = s.pu.counts := by
  unfold retrainSegment; split <;> simp [State.refuse]
@[simp] theorem retrainSegment_pu_permitWindow (g : Nat) (s : State) : (retrainSegment g s).1.pu.permitWindow = s.pu.permitWindow := by
  unfold retrainSegment; split <;> simp [State.refuse]
@[simp] theorem retrainSegment_pu_deadline (g : Nat) (s : State) : (retrainSegment g s).1.pu.deadline = s.pu.deadline := by
  unfold retrainSegment; split <;> simp [State.refuse]
@[simp] theorem retrainSegment_pu_snapshot (g : Nat) (s : State) : (retrainSegment g s).1.pu.snapshot = s.pu.snapshot := by
  unfold retrainSegment; split <;> simp [State.refuse]
@[simp] theorem retrainSegment_pu_evidence (g : Nat) (s : State) : (retrainSegment g s).1.pu.evidence = s.pu.evidence := by
  unfold retrainSegment; split <;> simp [State.refuse]
@[simp] theorem retrainSegment_tu (g : Nat) (s : State) : (retrainSegment g s).1.tu = s.tu := by
  unfold retrainSegment; split <;> simp [State.refuse]
@[simp] theorem retrainSegment_cc (g : Nat) (s : State) : (retrainSegment g s).1.cc = s.cc := by
  unfold retrainSegment; split <;> simp [State.refuse]
@[simp] theorem retrainSegment_pq (g : Nat) (s : State) : (retrainSegment g s).1.pq = s.pq := by
  unfold retrainSegment; split <;> simp [State.refuse]
@[simp] theorem retrainSegment_oe (g : Nat) (s : State) : (retrainSegment g s).1.oe = s.oe := by
  unfold retrainSegment; split <;> simp [State.refuse]
@[simp] theorem retrainSegment_nfu_enables (g : Nat) (s : State) : (retrainSegment g s).1.nfu.enables = s.nfu.enables := by
  unfold retrainSegment; split <;> simp [State.refuse]
@[simp] theorem retrainSegment_nfu_status (g : Nat) (s : State) : (retrainSegment g s).1.nfu.status = s.nfu.status := by
  unfold retrainSegment; split <;> simp [State.refuse]
@[simp] theorem retrainSegment_nfu_masks (g : Nat) (s : State) : (retrainSegment g s).1.nfu.masks = s.nfu.masks := by
  unfold retrainSegment; split <;> simp [State.refuse]
@[simp] theorem retrainSegment_nfu_severe (g : Nat) (s : State) : (retrainSegment g s).1.nfu.severe = s.nfu.severe := by
  unfold retrainSegment; split <;> simp [State.refuse]
@[simp] theorem retrainSegment_nfu_first (g : Nat) (s : State) : (retrainSegment g s).1.nfu.first = s.nfu.first := by
  unfold retrainSegment; split <;> simp [State.refuse]
@[simp] theorem retrainSegment_nfu_refusalRecord (g : Nat) (s : State) : (retrainSegment g s).1.nfu.refusalRecord = s.nfu.refusalRecord := by
  unfold retrainSegment; split <;> simp [State.refuse]
@[simp] theorem retrainSegment_nfu_refusalNotice (g : Nat) (s : State) : (retrainSegment g s).1.nfu.refusalNotice = s.nfu.refusalNotice := by
  unfold retrainSegment; split <;> simp [State.refuse]
@[simp] theorem retrainSegment_sck (g : Nat) (s : State) : (retrainSegment g s).1.sck = s.sck := by
  unfold retrainSegment; split <;> simp [State.refuse]
set_option Elab.async false in
@[simp] theorem readLink_pending (n : Nat) (s : State) : (readLink n s).1.pending = s.pending := by
  unfold readLink; split <;> simp [State.refuse]
@[simp] theorem readLink_tagCount (n : Nat) (s : State) : (readLink n s).1.tagCount = s.tagCount := by
  unfold readLink; split <;> simp [State.refuse]
@[simp] theorem readLink_pp (n : Nat) (s : State) : (readLink n s).1.pp = s.pp := by
  unfold readLink; split <;> simp [State.refuse]
@[simp] theorem readLink_lk (n : Nat) (s : State) : (readLink n s).1.lk = s.lk := by
  unfold readLink; split <;> simp [State.refuse]
@[simp] theorem readLink_pt (n : Nat) (s : State) : (readLink n s).1.pt = s.pt := by
  unfold readLink; split <;> simp [State.refuse]
@[simp] theorem readLink_ci (n : Nat) (s : State) : (readLink n s).1.ci = s.ci := by
  unfold readLink; split <;> simp [State.refuse]
@[simp] theorem readLink_ct (n : Nat) (s : State) : (readLink n s).1.ct = s.ct := by
  unfold readLink; split <;> simp [State.refuse]
@[simp] theorem readLink_pu (n : Nat) (s : State) : (readLink n s).1.pu = s.pu := by
  unfold readLink; split <;> simp [State.refuse]
@[simp] theorem readLink_sc (n : Nat) (s : State) : (readLink n s).1.sc = s.sc := by
  unfold readLink; split <;> simp [State.refuse]
@[simp] theorem readLink_tu (n : Nat) (s : State) : (readLink n s).1.tu = s.tu := by
  unfold readLink; split <;> simp [State.refuse]
@[simp] theorem readLink_cc (n : Nat) (s : State) : (readLink n s).1.cc = s.cc := by
  unfold readLink; split <;> simp [State.refuse]
@[simp] theorem readLink_pq (n : Nat) (s : State) : (readLink n s).1.pq = s.pq := by
  unfold readLink; split <;> simp [State.refuse]
@[simp] theorem readLink_oe (n : Nat) (s : State) : (readLink n s).1.oe = s.oe := by
  unfold readLink; split <;> simp [State.refuse]
@[simp] theorem readLink_nfu (n : Nat) (s : State) : (readLink n s).1.nfu = s.nfu := by
  unfold readLink; split <;> simp [State.refuse]
@[simp] theorem readLink_sck (n : Nat) (s : State) : (readLink n s).1.sck = s.sck := by
  unfold readLink; split <;> simp [State.refuse]
set_option Elab.async false in
@[simp] theorem setVenue_pending (v : Nat) (row : VenueRow) (s : State) : (setVenue v row s).1.pending = s.pending := by
  unfold setVenue; (repeat' first | split | dsimp only) <;> simp [State.refuse]
@[simp] theorem setVenue_tagCount (v : Nat) (row : VenueRow) (s : State) : (setVenue v row s).1.tagCount = s.tagCount := by
  unfold setVenue; (repeat' first | split | dsimp only) <;> simp [State.refuse]
@[simp] theorem setVenue_pp (v : Nat) (row : VenueRow) (s : State) : (setVenue v row s).1.pp = s.pp := by
  unfold setVenue; (repeat' first | split | dsimp only) <;> simp [State.refuse]
@[simp] theorem setVenue_lk (v : Nat) (row : VenueRow) (s : State) : (setVenue v row s).1.lk = s.lk := by
  unfold setVenue; (repeat' first | split | dsimp only) <;> simp [State.refuse]
@[simp] theorem setVenue_pt (v : Nat) (row : VenueRow) (s : State) : (setVenue v row s).1.pt = s.pt := by
  unfold setVenue; (repeat' first | split | dsimp only) <;> simp [State.refuse]
@[simp] theorem setVenue_ci (v : Nat) (row : VenueRow) (s : State) : (setVenue v row s).1.ci = s.ci := by
  unfold setVenue; (repeat' first | split | dsimp only) <;> simp [State.refuse]
@[simp] theorem setVenue_ct (v : Nat) (row : VenueRow) (s : State) : (setVenue v row s).1.ct = s.ct := by
  unfold setVenue; (repeat' first | split | dsimp only) <;> simp [State.refuse]
@[simp] theorem setVenue_pu (v : Nat) (row : VenueRow) (s : State) : (setVenue v row s).1.pu = s.pu := by
  unfold setVenue; (repeat' first | split | dsimp only) <;> simp [State.refuse]
@[simp] theorem setVenue_sc (v : Nat) (row : VenueRow) (s : State) : (setVenue v row s).1.sc = s.sc := by
  unfold setVenue; (repeat' first | split | dsimp only) <;> simp [State.refuse]
@[simp] theorem setVenue_tu (v : Nat) (row : VenueRow) (s : State) : (setVenue v row s).1.tu = s.tu := by
  unfold setVenue; (repeat' first | split | dsimp only) <;> simp [State.refuse]
@[simp] theorem setVenue_cc_classes (v : Nat) (row : VenueRow) (s : State) : (setVenue v row s).1.cc.classes = s.cc.classes := by
  unfold setVenue; (repeat' first | split | dsimp only) <;> simp [State.refuse]
@[simp] theorem setVenue_cc_capped (v : Nat) (row : VenueRow) (s : State) : (setVenue v row s).1.cc.capped = s.cc.capped := by
  unfold setVenue; (repeat' first | split | dsimp only) <;> simp [State.refuse]
@[simp] theorem setVenue_cc_window (v : Nat) (row : VenueRow) (s : State) : (setVenue v row s).1.cc.window = s.cc.window := by
  unfold setVenue; (repeat' first | split | dsimp only) <;> simp [State.refuse]
@[simp] theorem setVenue_cc_tax (v : Nat) (row : VenueRow) (s : State) : (setVenue v row s).1.cc.tax = s.cc.tax := by
  unfold setVenue; (repeat' first | split | dsimp only) <;> simp [State.refuse]
@[simp] theorem setVenue_cc_restrictions (v : Nat) (row : VenueRow) (s : State) : (setVenue v row s).1.cc.restrictions = s.cc.restrictions := by
  unfold setVenue; (repeat' first | split | dsimp only) <;> simp [State.refuse]
@[simp] theorem setVenue_pq (v : Nat) (row : VenueRow) (s : State) : (setVenue v row s).1.pq = s.pq := by
  unfold setVenue; (repeat' first | split | dsimp only) <;> simp [State.refuse]
@[simp] theorem setVenue_oe (v : Nat) (row : VenueRow) (s : State) : (setVenue v row s).1.oe = s.oe := by
  unfold setVenue; (repeat' first | split | dsimp only) <;> simp [State.refuse]
@[simp] theorem setVenue_nfu (v : Nat) (row : VenueRow) (s : State) : (setVenue v row s).1.nfu = s.nfu := by
  unfold setVenue; (repeat' first | split | dsimp only) <;> simp [State.refuse]
@[simp] theorem setVenue_sck (v : Nat) (row : VenueRow) (s : State) : (setVenue v row s).1.sck = s.sck := by
  unfold setVenue; (repeat' first | split | dsimp only) <;> simp [State.refuse]
set_option Elab.async false in
@[simp] theorem setClass_pending (c rate code : Nat) (s : State) : (setClass c rate code s).1.pending = s.pending := by
  unfold setClass; split <;> simp [State.refuse]
@[simp] theorem setClass_tagCount (c rate code : Nat) (s : State) : (setClass c rate code s).1.tagCount = s.tagCount := by
  unfold setClass; split <;> simp [State.refuse]
@[simp] theorem setClass_pp (c rate code : Nat) (s : State) : (setClass c rate code s).1.pp = s.pp := by
  unfold setClass; split <;> simp [State.refuse]
@[simp] theorem setClass_lk (c rate code : Nat) (s : State) : (setClass c rate code s).1.lk = s.lk := by
  unfold setClass; split <;> simp [State.refuse]
@[simp] theorem setClass_pt (c rate code : Nat) (s : State) : (setClass c rate code s).1.pt = s.pt := by
  unfold setClass; split <;> simp [State.refuse]
@[simp] theorem setClass_ci (c rate code : Nat) (s : State) : (setClass c rate code s).1.ci = s.ci := by
  unfold setClass; split <;> simp [State.refuse]
@[simp] theorem setClass_ct (c rate code : Nat) (s : State) : (setClass c rate code s).1.ct = s.ct := by
  unfold setClass; split <;> simp [State.refuse]
@[simp] theorem setClass_pu (c rate code : Nat) (s : State) : (setClass c rate code s).1.pu = s.pu := by
  unfold setClass; split <;> simp [State.refuse]
@[simp] theorem setClass_sc (c rate code : Nat) (s : State) : (setClass c rate code s).1.sc = s.sc := by
  unfold setClass; split <;> simp [State.refuse]
@[simp] theorem setClass_tu (c rate code : Nat) (s : State) : (setClass c rate code s).1.tu = s.tu := by
  unfold setClass; split <;> simp [State.refuse]
@[simp] theorem setClass_cc_venues (c rate code : Nat) (s : State) : (setClass c rate code s).1.cc.venues = s.cc.venues := by
  unfold setClass; split <;> simp [State.refuse]
@[simp] theorem setClass_cc_capped (c rate code : Nat) (s : State) : (setClass c rate code s).1.cc.capped = s.cc.capped := by
  unfold setClass; split <;> simp [State.refuse]
@[simp] theorem setClass_cc_window (c rate code : Nat) (s : State) : (setClass c rate code s).1.cc.window = s.cc.window := by
  unfold setClass; split <;> simp [State.refuse]
@[simp] theorem setClass_cc_tax (c rate code : Nat) (s : State) : (setClass c rate code s).1.cc.tax = s.cc.tax := by
  unfold setClass; split <;> simp [State.refuse]
@[simp] theorem setClass_cc_restrictions (c rate code : Nat) (s : State) : (setClass c rate code s).1.cc.restrictions = s.cc.restrictions := by
  unfold setClass; split <;> simp [State.refuse]
@[simp] theorem setClass_pq (c rate code : Nat) (s : State) : (setClass c rate code s).1.pq = s.pq := by
  unfold setClass; split <;> simp [State.refuse]
@[simp] theorem setClass_oe (c rate code : Nat) (s : State) : (setClass c rate code s).1.oe = s.oe := by
  unfold setClass; split <;> simp [State.refuse]
@[simp] theorem setClass_nfu (c rate code : Nat) (s : State) : (setClass c rate code s).1.nfu = s.nfu := by
  unfold setClass; split <;> simp [State.refuse]
@[simp] theorem setClass_sck (c rate code : Nat) (s : State) : (setClass c rate code s).1.sck = s.sck := by
  unfold setClass; split <;> simp [State.refuse]
set_option Elab.async false in
@[simp] theorem setTaxState_pending (t : TaxState) (s : State) : (setTaxState t s).1.pending = s.pending := by
  rfl
@[simp] theorem setTaxState_tagCount (t : TaxState) (s : State) : (setTaxState t s).1.tagCount = s.tagCount := by
  rfl
@[simp] theorem setTaxState_pp (t : TaxState) (s : State) : (setTaxState t s).1.pp = s.pp := by
  rfl
@[simp] theorem setTaxState_lk (t : TaxState) (s : State) : (setTaxState t s).1.lk = s.lk := by
  rfl
@[simp] theorem setTaxState_pt (t : TaxState) (s : State) : (setTaxState t s).1.pt = s.pt := by
  rfl
@[simp] theorem setTaxState_ci (t : TaxState) (s : State) : (setTaxState t s).1.ci = s.ci := by
  rfl
@[simp] theorem setTaxState_ct (t : TaxState) (s : State) : (setTaxState t s).1.ct = s.ct := by
  rfl
@[simp] theorem setTaxState_pu (t : TaxState) (s : State) : (setTaxState t s).1.pu = s.pu := by
  rfl
@[simp] theorem setTaxState_sc (t : TaxState) (s : State) : (setTaxState t s).1.sc = s.sc := by
  rfl
@[simp] theorem setTaxState_tu (t : TaxState) (s : State) : (setTaxState t s).1.tu = s.tu := by
  rfl
@[simp] theorem setTaxState_cc_venues (t : TaxState) (s : State) : (setTaxState t s).1.cc.venues = s.cc.venues := by
  rfl
@[simp] theorem setTaxState_cc_classes (t : TaxState) (s : State) : (setTaxState t s).1.cc.classes = s.cc.classes := by
  rfl
@[simp] theorem setTaxState_cc_capped (t : TaxState) (s : State) : (setTaxState t s).1.cc.capped = s.cc.capped := by
  rfl
@[simp] theorem setTaxState_cc_window (t : TaxState) (s : State) : (setTaxState t s).1.cc.window = s.cc.window := by
  rfl
@[simp] theorem setTaxState_cc_restrictions (t : TaxState) (s : State) : (setTaxState t s).1.cc.restrictions = s.cc.restrictions := by
  rfl
@[simp] theorem setTaxState_pq (t : TaxState) (s : State) : (setTaxState t s).1.pq = s.pq := by
  rfl
@[simp] theorem setTaxState_oe (t : TaxState) (s : State) : (setTaxState t s).1.oe = s.oe := by
  rfl
@[simp] theorem setTaxState_nfu (t : TaxState) (s : State) : (setTaxState t s).1.nfu = s.nfu := by
  rfl
@[simp] theorem setTaxState_sck (t : TaxState) (s : State) : (setTaxState t s).1.sck = s.sck := by
  rfl
set_option Elab.async false in
@[simp] theorem setCap_pending (capped : BitVec 16) (window : Nat) (s : State) : (setCap capped window s).1.pending = s.pending := by
  rfl
@[simp] theorem setCap_tagCount (capped : BitVec 16) (window : Nat) (s : State) : (setCap capped window s).1.tagCount = s.tagCount := by
  rfl
@[simp] theorem setCap_pp (capped : BitVec 16) (window : Nat) (s : State) : (setCap capped window s).1.pp = s.pp := by
  rfl
@[simp] theorem setCap_lk (capped : BitVec 16) (window : Nat) (s : State) : (setCap capped window s).1.lk = s.lk := by
  rfl
@[simp] theorem setCap_pt (capped : BitVec 16) (window : Nat) (s : State) : (setCap capped window s).1.pt = s.pt := by
  rfl
@[simp] theorem setCap_ci (capped : BitVec 16) (window : Nat) (s : State) : (setCap capped window s).1.ci = s.ci := by
  rfl
@[simp] theorem setCap_ct (capped : BitVec 16) (window : Nat) (s : State) : (setCap capped window s).1.ct = s.ct := by
  rfl
@[simp] theorem setCap_pu (capped : BitVec 16) (window : Nat) (s : State) : (setCap capped window s).1.pu = s.pu := by
  rfl
@[simp] theorem setCap_sc (capped : BitVec 16) (window : Nat) (s : State) : (setCap capped window s).1.sc = s.sc := by
  rfl
@[simp] theorem setCap_tu (capped : BitVec 16) (window : Nat) (s : State) : (setCap capped window s).1.tu = s.tu := by
  rfl
@[simp] theorem setCap_cc_venues (capped : BitVec 16) (window : Nat) (s : State) : (setCap capped window s).1.cc.venues = s.cc.venues := by
  rfl
@[simp] theorem setCap_cc_classes (capped : BitVec 16) (window : Nat) (s : State) : (setCap capped window s).1.cc.classes = s.cc.classes := by
  rfl
@[simp] theorem setCap_cc_tax (capped : BitVec 16) (window : Nat) (s : State) : (setCap capped window s).1.cc.tax = s.cc.tax := by
  rfl
@[simp] theorem setCap_cc_restrictions (capped : BitVec 16) (window : Nat) (s : State) : (setCap capped window s).1.cc.restrictions = s.cc.restrictions := by
  rfl
@[simp] theorem setCap_pq (capped : BitVec 16) (window : Nat) (s : State) : (setCap capped window s).1.pq = s.pq := by
  rfl
@[simp] theorem setCap_oe (capped : BitVec 16) (window : Nat) (s : State) : (setCap capped window s).1.oe = s.oe := by
  rfl
@[simp] theorem setCap_nfu (capped : BitVec 16) (window : Nat) (s : State) : (setCap capped window s).1.nfu = s.nfu := by
  rfl
@[simp] theorem setCap_sck (capped : BitVec 16) (window : Nat) (s : State) : (setCap capped window s).1.sck = s.sck := by
  rfl
set_option Elab.async false in
@[simp] theorem setRestriction_pending (c v : Nat) (barred : BitVec 16) (s : State) : (setRestriction c v barred s).1.pending = s.pending := by
  unfold setRestriction; split <;> simp [State.refuse]
@[simp] theorem setRestriction_tagCount (c v : Nat) (barred : BitVec 16) (s : State) : (setRestriction c v barred s).1.tagCount = s.tagCount := by
  unfold setRestriction; split <;> simp [State.refuse]
@[simp] theorem setRestriction_pp (c v : Nat) (barred : BitVec 16) (s : State) : (setRestriction c v barred s).1.pp = s.pp := by
  unfold setRestriction; split <;> simp [State.refuse]
@[simp] theorem setRestriction_lk (c v : Nat) (barred : BitVec 16) (s : State) : (setRestriction c v barred s).1.lk = s.lk := by
  unfold setRestriction; split <;> simp [State.refuse]
@[simp] theorem setRestriction_pt (c v : Nat) (barred : BitVec 16) (s : State) : (setRestriction c v barred s).1.pt = s.pt := by
  unfold setRestriction; split <;> simp [State.refuse]
@[simp] theorem setRestriction_ci (c v : Nat) (barred : BitVec 16) (s : State) : (setRestriction c v barred s).1.ci = s.ci := by
  unfold setRestriction; split <;> simp [State.refuse]
@[simp] theorem setRestriction_ct (c v : Nat) (barred : BitVec 16) (s : State) : (setRestriction c v barred s).1.ct = s.ct := by
  unfold setRestriction; split <;> simp [State.refuse]
@[simp] theorem setRestriction_pu (c v : Nat) (barred : BitVec 16) (s : State) : (setRestriction c v barred s).1.pu = s.pu := by
  unfold setRestriction; split <;> simp [State.refuse]
@[simp] theorem setRestriction_sc (c v : Nat) (barred : BitVec 16) (s : State) : (setRestriction c v barred s).1.sc = s.sc := by
  unfold setRestriction; split <;> simp [State.refuse]
@[simp] theorem setRestriction_tu (c v : Nat) (barred : BitVec 16) (s : State) : (setRestriction c v barred s).1.tu = s.tu := by
  unfold setRestriction; split <;> simp [State.refuse]
@[simp] theorem setRestriction_cc_venues (c v : Nat) (barred : BitVec 16) (s : State) : (setRestriction c v barred s).1.cc.venues = s.cc.venues := by
  unfold setRestriction; split <;> simp [State.refuse]
@[simp] theorem setRestriction_cc_classes (c v : Nat) (barred : BitVec 16) (s : State) : (setRestriction c v barred s).1.cc.classes = s.cc.classes := by
  unfold setRestriction; split <;> simp [State.refuse]
@[simp] theorem setRestriction_cc_capped (c v : Nat) (barred : BitVec 16) (s : State) : (setRestriction c v barred s).1.cc.capped = s.cc.capped := by
  unfold setRestriction; split <;> simp [State.refuse]
@[simp] theorem setRestriction_cc_window (c v : Nat) (barred : BitVec 16) (s : State) : (setRestriction c v barred s).1.cc.window = s.cc.window := by
  unfold setRestriction; split <;> simp [State.refuse]
@[simp] theorem setRestriction_cc_tax (c v : Nat) (barred : BitVec 16) (s : State) : (setRestriction c v barred s).1.cc.tax = s.cc.tax := by
  unfold setRestriction; split <;> simp [State.refuse]
@[simp] theorem setRestriction_pq (c v : Nat) (barred : BitVec 16) (s : State) : (setRestriction c v barred s).1.pq = s.pq := by
  unfold setRestriction; split <;> simp [State.refuse]
@[simp] theorem setRestriction_oe (c v : Nat) (barred : BitVec 16) (s : State) : (setRestriction c v barred s).1.oe = s.oe := by
  unfold setRestriction; split <;> simp [State.refuse]
@[simp] theorem setRestriction_nfu (c v : Nat) (barred : BitVec 16) (s : State) : (setRestriction c v barred s).1.nfu = s.nfu := by
  unfold setRestriction; split <;> simp [State.refuse]
@[simp] theorem setRestriction_sck (c v : Nat) (barred : BitVec 16) (s : State) : (setRestriction c v barred s).1.sck = s.sck := by
  unfold setRestriction; split <;> simp [State.refuse]
set_option Elab.async false in
@[simp] theorem readVenueSettings_pending (s : State) : (readVenueSettings s).1.pending = s.pending := by
  rfl
@[simp] theorem readVenueSettings_tagCount (s : State) : (readVenueSettings s).1.tagCount = s.tagCount := by
  rfl
@[simp] theorem readVenueSettings_pp (s : State) : (readVenueSettings s).1.pp = s.pp := by
  rfl
@[simp] theorem readVenueSettings_lk (s : State) : (readVenueSettings s).1.lk = s.lk := by
  rfl
@[simp] theorem readVenueSettings_pt (s : State) : (readVenueSettings s).1.pt = s.pt := by
  rfl
@[simp] theorem readVenueSettings_ci (s : State) : (readVenueSettings s).1.ci = s.ci := by
  rfl
@[simp] theorem readVenueSettings_ct (s : State) : (readVenueSettings s).1.ct = s.ct := by
  rfl
@[simp] theorem readVenueSettings_pu (s : State) : (readVenueSettings s).1.pu = s.pu := by
  rfl
@[simp] theorem readVenueSettings_sc (s : State) : (readVenueSettings s).1.sc = s.sc := by
  rfl
@[simp] theorem readVenueSettings_tu (s : State) : (readVenueSettings s).1.tu = s.tu := by
  rfl
@[simp] theorem readVenueSettings_cc (s : State) : (readVenueSettings s).1.cc = s.cc := by
  rfl
@[simp] theorem readVenueSettings_pq (s : State) : (readVenueSettings s).1.pq = s.pq := by
  rfl
@[simp] theorem readVenueSettings_oe (s : State) : (readVenueSettings s).1.oe = s.oe := by
  rfl
@[simp] theorem readVenueSettings_nfu (s : State) : (readVenueSettings s).1.nfu = s.nfu := by
  rfl
@[simp] theorem readVenueSettings_sck (s : State) : (readVenueSettings s).1.sck = s.sck := by
  rfl
set_option Elab.async false in
@[simp] theorem bindTerminal_pending (t : Nat) (v : Option Nat) (s : State) : (bindTerminal t v s).1.pending = s.pending := by
  unfold bindTerminal; (repeat' first | split | dsimp only) <;> simp [State.refuse]
@[simp] theorem bindTerminal_tagCount (t : Nat) (v : Option Nat) (s : State) : (bindTerminal t v s).1.tagCount = s.tagCount := by
  unfold bindTerminal; (repeat' first | split | dsimp only) <;> simp [State.refuse]
@[simp] theorem bindTerminal_pp (t : Nat) (v : Option Nat) (s : State) : (bindTerminal t v s).1.pp = s.pp := by
  unfold bindTerminal; (repeat' first | split | dsimp only) <;> simp [State.refuse]
@[simp] theorem bindTerminal_lk (t : Nat) (v : Option Nat) (s : State) : (bindTerminal t v s).1.lk = s.lk := by
  unfold bindTerminal; (repeat' first | split | dsimp only) <;> simp [State.refuse]
@[simp] theorem bindTerminal_pt (t : Nat) (v : Option Nat) (s : State) : (bindTerminal t v s).1.pt = s.pt := by
  unfold bindTerminal; (repeat' first | split | dsimp only) <;> simp [State.refuse]
@[simp] theorem bindTerminal_ci (t : Nat) (v : Option Nat) (s : State) : (bindTerminal t v s).1.ci = s.ci := by
  unfold bindTerminal; (repeat' first | split | dsimp only) <;> simp [State.refuse]
@[simp] theorem bindTerminal_ct (t : Nat) (v : Option Nat) (s : State) : (bindTerminal t v s).1.ct = s.ct := by
  unfold bindTerminal; (repeat' first | split | dsimp only) <;> simp [State.refuse]
@[simp] theorem bindTerminal_pu (t : Nat) (v : Option Nat) (s : State) : (bindTerminal t v s).1.pu = s.pu := by
  unfold bindTerminal; (repeat' first | split | dsimp only) <;> simp [State.refuse]
@[simp] theorem bindTerminal_sc (t : Nat) (v : Option Nat) (s : State) : (bindTerminal t v s).1.sc = s.sc := by
  unfold bindTerminal; (repeat' first | split | dsimp only) <;> simp [State.refuse]
@[simp] theorem bindTerminal_tu_slots (t : Nat) (v : Option Nat) (s : State) : (bindTerminal t v s).1.tu.slots = s.tu.slots := by
  unfold bindTerminal; (repeat' first | split | dsimp only) <;> simp [State.refuse]
@[simp] theorem bindTerminal_tu_holds (t : Nat) (v : Option Nat) (s : State) : (bindTerminal t v s).1.tu.holds = s.tu.holds := by
  unfold bindTerminal; (repeat' first | split | dsimp only) <;> simp [State.refuse]
@[simp] theorem bindTerminal_cc (t : Nat) (v : Option Nat) (s : State) : (bindTerminal t v s).1.cc = s.cc := by
  unfold bindTerminal; (repeat' first | split | dsimp only) <;> simp [State.refuse]
@[simp] theorem bindTerminal_pq (t : Nat) (v : Option Nat) (s : State) : (bindTerminal t v s).1.pq = s.pq := by
  unfold bindTerminal; (repeat' first | split | dsimp only) <;> simp [State.refuse]
@[simp] theorem bindTerminal_oe (t : Nat) (v : Option Nat) (s : State) : (bindTerminal t v s).1.oe = s.oe := by
  unfold bindTerminal; (repeat' first | split | dsimp only) <;> simp [State.refuse]
@[simp] theorem bindTerminal_nfu (t : Nat) (v : Option Nat) (s : State) : (bindTerminal t v s).1.nfu = s.nfu := by
  unfold bindTerminal; (repeat' first | split | dsimp only) <;> simp [State.refuse]
@[simp] theorem bindTerminal_sck (t : Nat) (v : Option Nat) (s : State) : (bindTerminal t v s).1.sck = s.sck := by
  unfold bindTerminal; (repeat' first | split | dsimp only) <;> simp [State.refuse]
set_option Elab.async false in
@[simp] theorem setHold_pending (v : Nat) (held : Bool) (s : State) : (setHold v held s).1.pending = s.pending := by
  unfold setHold; split <;> simp [State.refuse]
@[simp] theorem setHold_tagCount (v : Nat) (held : Bool) (s : State) : (setHold v held s).1.tagCount = s.tagCount := by
  unfold setHold; split <;> simp [State.refuse]
@[simp] theorem setHold_pp (v : Nat) (held : Bool) (s : State) : (setHold v held s).1.pp = s.pp := by
  unfold setHold; split <;> simp [State.refuse]
@[simp] theorem setHold_lk (v : Nat) (held : Bool) (s : State) : (setHold v held s).1.lk = s.lk := by
  unfold setHold; split <;> simp [State.refuse]
@[simp] theorem setHold_pt (v : Nat) (held : Bool) (s : State) : (setHold v held s).1.pt = s.pt := by
  unfold setHold; split <;> simp [State.refuse]
@[simp] theorem setHold_ci (v : Nat) (held : Bool) (s : State) : (setHold v held s).1.ci = s.ci := by
  unfold setHold; split <;> simp [State.refuse]
@[simp] theorem setHold_ct (v : Nat) (held : Bool) (s : State) : (setHold v held s).1.ct = s.ct := by
  unfold setHold; split <;> simp [State.refuse]
@[simp] theorem setHold_pu (v : Nat) (held : Bool) (s : State) : (setHold v held s).1.pu = s.pu := by
  unfold setHold; split <;> simp [State.refuse]
@[simp] theorem setHold_sc (v : Nat) (held : Bool) (s : State) : (setHold v held s).1.sc = s.sc := by
  unfold setHold; split <;> simp [State.refuse]
@[simp] theorem setHold_tu_slots (v : Nat) (held : Bool) (s : State) : (setHold v held s).1.tu.slots = s.tu.slots := by
  unfold setHold; split <;> simp [State.refuse]
@[simp] theorem setHold_tu_terminals (v : Nat) (held : Bool) (s : State) : (setHold v held s).1.tu.terminals = s.tu.terminals := by
  unfold setHold; split <;> simp [State.refuse]
@[simp] theorem setHold_cc (v : Nat) (held : Bool) (s : State) : (setHold v held s).1.cc = s.cc := by
  unfold setHold; split <;> simp [State.refuse]
@[simp] theorem setHold_pq (v : Nat) (held : Bool) (s : State) : (setHold v held s).1.pq = s.pq := by
  unfold setHold; split <;> simp [State.refuse]
@[simp] theorem setHold_oe (v : Nat) (held : Bool) (s : State) : (setHold v held s).1.oe = s.oe := by
  unfold setHold; split <;> simp [State.refuse]
@[simp] theorem setHold_nfu (v : Nat) (held : Bool) (s : State) : (setHold v held s).1.nfu = s.nfu := by
  unfold setHold; split <;> simp [State.refuse]
@[simp] theorem setHold_sck (v : Nat) (held : Bool) (s : State) : (setHold v held s).1.sck = s.sck := by
  unfold setHold; split <;> simp [State.refuse]
set_option Elab.async false in
@[simp] theorem setRefusalReporting_pending (v : Nat) (record notice : Bool) (s : State) : (setRefusalReporting v record notice s).1.pending = s.pending := by
  unfold setRefusalReporting; split <;> simp [State.refuse]
@[simp] theorem setRefusalReporting_tagCount (v : Nat) (record notice : Bool) (s : State) : (setRefusalReporting v record notice s).1.tagCount = s.tagCount := by
  unfold setRefusalReporting; split <;> simp [State.refuse]
@[simp] theorem setRefusalReporting_pp (v : Nat) (record notice : Bool) (s : State) : (setRefusalReporting v record notice s).1.pp = s.pp := by
  unfold setRefusalReporting; split <;> simp [State.refuse]
@[simp] theorem setRefusalReporting_lk (v : Nat) (record notice : Bool) (s : State) : (setRefusalReporting v record notice s).1.lk = s.lk := by
  unfold setRefusalReporting; split <;> simp [State.refuse]
@[simp] theorem setRefusalReporting_pt (v : Nat) (record notice : Bool) (s : State) : (setRefusalReporting v record notice s).1.pt = s.pt := by
  unfold setRefusalReporting; split <;> simp [State.refuse]
@[simp] theorem setRefusalReporting_ci (v : Nat) (record notice : Bool) (s : State) : (setRefusalReporting v record notice s).1.ci = s.ci := by
  unfold setRefusalReporting; split <;> simp [State.refuse]
@[simp] theorem setRefusalReporting_ct (v : Nat) (record notice : Bool) (s : State) : (setRefusalReporting v record notice s).1.ct = s.ct := by
  unfold setRefusalReporting; split <;> simp [State.refuse]
@[simp] theorem setRefusalReporting_pu (v : Nat) (record notice : Bool) (s : State) : (setRefusalReporting v record notice s).1.pu = s.pu := by
  unfold setRefusalReporting; split <;> simp [State.refuse]
@[simp] theorem setRefusalReporting_sc (v : Nat) (record notice : Bool) (s : State) : (setRefusalReporting v record notice s).1.sc = s.sc := by
  unfold setRefusalReporting; split <;> simp [State.refuse]
@[simp] theorem setRefusalReporting_tu (v : Nat) (record notice : Bool) (s : State) : (setRefusalReporting v record notice s).1.tu = s.tu := by
  unfold setRefusalReporting; split <;> simp [State.refuse]
@[simp] theorem setRefusalReporting_cc (v : Nat) (record notice : Bool) (s : State) : (setRefusalReporting v record notice s).1.cc = s.cc := by
  unfold setRefusalReporting; split <;> simp [State.refuse]
@[simp] theorem setRefusalReporting_pq (v : Nat) (record notice : Bool) (s : State) : (setRefusalReporting v record notice s).1.pq = s.pq := by
  unfold setRefusalReporting; split <;> simp [State.refuse]
@[simp] theorem setRefusalReporting_oe (v : Nat) (record notice : Bool) (s : State) : (setRefusalReporting v record notice s).1.oe = s.oe := by
  unfold setRefusalReporting; split <;> simp [State.refuse]
@[simp] theorem setRefusalReporting_nfu_pending (v : Nat) (record notice : Bool) (s : State) : (setRefusalReporting v record notice s).1.nfu.pending = s.nfu.pending := by
  unfold setRefusalReporting; split <;> simp [State.refuse]
@[simp] theorem setRefusalReporting_nfu_enables (v : Nat) (record notice : Bool) (s : State) : (setRefusalReporting v record notice s).1.nfu.enables = s.nfu.enables := by
  unfold setRefusalReporting; split <;> simp [State.refuse]
@[simp] theorem setRefusalReporting_nfu_status (v : Nat) (record notice : Bool) (s : State) : (setRefusalReporting v record notice s).1.nfu.status = s.nfu.status := by
  unfold setRefusalReporting; split <;> simp [State.refuse]
@[simp] theorem setRefusalReporting_nfu_masks (v : Nat) (record notice : Bool) (s : State) : (setRefusalReporting v record notice s).1.nfu.masks = s.nfu.masks := by
  unfold setRefusalReporting; split <;> simp [State.refuse]
@[simp] theorem setRefusalReporting_nfu_severe (v : Nat) (record notice : Bool) (s : State) : (setRefusalReporting v record notice s).1.nfu.severe = s.nfu.severe := by
  unfold setRefusalReporting; split <;> simp [State.refuse]
@[simp] theorem setRefusalReporting_nfu_first (v : Nat) (record notice : Bool) (s : State) : (setRefusalReporting v record notice s).1.nfu.first = s.nfu.first := by
  unfold setRefusalReporting; split <;> simp [State.refuse]
@[simp] theorem setRefusalReporting_sck (v : Nat) (record notice : Bool) (s : State) : (setRefusalReporting v record notice s).1.sck = s.sck := by
  unfold setRefusalReporting; split <;> simp [State.refuse]
set_option Elab.async false in
@[simp] theorem readTab_pending (n : Nat) (s : State) : (readTab n s).1.pending = s.pending := by
  unfold readTab; split <;> simp [State.refuse]
@[simp] theorem readTab_tagCount (n : Nat) (s : State) : (readTab n s).1.tagCount = s.tagCount := by
  unfold readTab; split <;> simp [State.refuse]
@[simp] theorem readTab_pp (n : Nat) (s : State) : (readTab n s).1.pp = s.pp := by
  unfold readTab; split <;> simp [State.refuse]
@[simp] theorem readTab_lk (n : Nat) (s : State) : (readTab n s).1.lk = s.lk := by
  unfold readTab; split <;> simp [State.refuse]
@[simp] theorem readTab_pt (n : Nat) (s : State) : (readTab n s).1.pt = s.pt := by
  unfold readTab; split <;> simp [State.refuse]
@[simp] theorem readTab_ci (n : Nat) (s : State) : (readTab n s).1.ci = s.ci := by
  unfold readTab; split <;> simp [State.refuse]
@[simp] theorem readTab_ct (n : Nat) (s : State) : (readTab n s).1.ct = s.ct := by
  unfold readTab; split <;> simp [State.refuse]
@[simp] theorem readTab_pu (n : Nat) (s : State) : (readTab n s).1.pu = s.pu := by
  unfold readTab; split <;> simp [State.refuse]
@[simp] theorem readTab_sc (n : Nat) (s : State) : (readTab n s).1.sc = s.sc := by
  unfold readTab; split <;> simp [State.refuse]
@[simp] theorem readTab_tu (n : Nat) (s : State) : (readTab n s).1.tu = s.tu := by
  unfold readTab; split <;> simp [State.refuse]
@[simp] theorem readTab_cc (n : Nat) (s : State) : (readTab n s).1.cc = s.cc := by
  unfold readTab; split <;> simp [State.refuse]
@[simp] theorem readTab_pq (n : Nat) (s : State) : (readTab n s).1.pq = s.pq := by
  unfold readTab; split <;> simp [State.refuse]
@[simp] theorem readTab_oe (n : Nat) (s : State) : (readTab n s).1.oe = s.oe := by
  unfold readTab; split <;> simp [State.refuse]
@[simp] theorem readTab_nfu (n : Nat) (s : State) : (readTab n s).1.nfu = s.nfu := by
  unfold readTab; split <;> simp [State.refuse]
@[simp] theorem readTab_sck (n : Nat) (s : State) : (readTab n s).1.sck = s.sck := by
  unfold readTab; split <;> simp [State.refuse]
set_option Elab.async false in
@[simp] theorem readTerminal_pending (t : Nat) (s : State) : (readTerminal t s).1.pending = s.pending := by
  unfold readTerminal; split <;> simp [State.refuse]
@[simp] theorem readTerminal_tagCount (t : Nat) (s : State) : (readTerminal t s).1.tagCount = s.tagCount := by
  unfold readTerminal; split <;> simp [State.refuse]
@[simp] theorem readTerminal_pp (t : Nat) (s : State) : (readTerminal t s).1.pp = s.pp := by
  unfold readTerminal; split <;> simp [State.refuse]
@[simp] theorem readTerminal_lk (t : Nat) (s : State) : (readTerminal t s).1.lk = s.lk := by
  unfold readTerminal; split <;> simp [State.refuse]
@[simp] theorem readTerminal_pt (t : Nat) (s : State) : (readTerminal t s).1.pt = s.pt := by
  unfold readTerminal; split <;> simp [State.refuse]
@[simp] theorem readTerminal_ci (t : Nat) (s : State) : (readTerminal t s).1.ci = s.ci := by
  unfold readTerminal; split <;> simp [State.refuse]
@[simp] theorem readTerminal_ct (t : Nat) (s : State) : (readTerminal t s).1.ct = s.ct := by
  unfold readTerminal; split <;> simp [State.refuse]
@[simp] theorem readTerminal_pu (t : Nat) (s : State) : (readTerminal t s).1.pu = s.pu := by
  unfold readTerminal; split <;> simp [State.refuse]
@[simp] theorem readTerminal_sc (t : Nat) (s : State) : (readTerminal t s).1.sc = s.sc := by
  unfold readTerminal; split <;> simp [State.refuse]
@[simp] theorem readTerminal_tu (t : Nat) (s : State) : (readTerminal t s).1.tu = s.tu := by
  unfold readTerminal; split <;> simp [State.refuse]
@[simp] theorem readTerminal_cc (t : Nat) (s : State) : (readTerminal t s).1.cc = s.cc := by
  unfold readTerminal; split <;> simp [State.refuse]
@[simp] theorem readTerminal_pq (t : Nat) (s : State) : (readTerminal t s).1.pq = s.pq := by
  unfold readTerminal; split <;> simp [State.refuse]
@[simp] theorem readTerminal_oe (t : Nat) (s : State) : (readTerminal t s).1.oe = s.oe := by
  unfold readTerminal; split <;> simp [State.refuse]
@[simp] theorem readTerminal_nfu (t : Nat) (s : State) : (readTerminal t s).1.nfu = s.nfu := by
  unfold readTerminal; split <;> simp [State.refuse]
@[simp] theorem readTerminal_sck (t : Nat) (s : State) : (readTerminal t s).1.sck = s.sck := by
  unfold readTerminal; split <;> simp [State.refuse]
set_option Elab.async false in
@[simp] theorem takePosting_pending (s : State) : (takePosting s).1.pending = s.pending := by
  unfold takePosting; split <;> simp [State.refuse]
@[simp] theorem takePosting_tagCount (s : State) : (takePosting s).1.tagCount = s.tagCount := by
  unfold takePosting; split <;> simp [State.refuse]
@[simp] theorem takePosting_pp (s : State) : (takePosting s).1.pp = s.pp := by
  unfold takePosting; split <;> simp [State.refuse]
@[simp] theorem takePosting_lk (s : State) : (takePosting s).1.lk = s.lk := by
  unfold takePosting; split <;> simp [State.refuse]
@[simp] theorem takePosting_pt (s : State) : (takePosting s).1.pt = s.pt := by
  unfold takePosting; split <;> simp [State.refuse]
@[simp] theorem takePosting_ci (s : State) : (takePosting s).1.ci = s.ci := by
  unfold takePosting; split <;> simp [State.refuse]
@[simp] theorem takePosting_ct (s : State) : (takePosting s).1.ct = s.ct := by
  unfold takePosting; split <;> simp [State.refuse]
@[simp] theorem takePosting_pu (s : State) : (takePosting s).1.pu = s.pu := by
  unfold takePosting; split <;> simp [State.refuse]
@[simp] theorem takePosting_sc (s : State) : (takePosting s).1.sc = s.sc := by
  unfold takePosting; split <;> simp [State.refuse]
@[simp] theorem takePosting_tu (s : State) : (takePosting s).1.tu = s.tu := by
  unfold takePosting; split <;> simp [State.refuse]
@[simp] theorem takePosting_cc (s : State) : (takePosting s).1.cc = s.cc := by
  unfold takePosting; split <;> simp [State.refuse]
@[simp] theorem takePosting_pq_next (s : State) : (takePosting s).1.pq.next = s.pq.next := by
  unfold takePosting; split <;> simp [State.refuse]
@[simp] theorem takePosting_pq_unposted (s : State) : (takePosting s).1.pq.unposted = s.pq.unposted := by
  unfold takePosting; split <;> simp [State.refuse]
@[simp] theorem takePosting_nfu (s : State) : (takePosting s).1.nfu = s.nfu := by
  unfold takePosting; split <;> simp [State.refuse]
@[simp] theorem takePosting_sck (s : State) : (takePosting s).1.sck = s.sck := by
  unfold takePosting; split <;> simp [State.refuse]
set_option Elab.async false in
@[simp] theorem readQueueStatus_pending (s : State) : (readQueueStatus s).1.pending = s.pending := by
  rfl
@[simp] theorem readQueueStatus_tagCount (s : State) : (readQueueStatus s).1.tagCount = s.tagCount := by
  rfl
@[simp] theorem readQueueStatus_pp (s : State) : (readQueueStatus s).1.pp = s.pp := by
  rfl
@[simp] theorem readQueueStatus_lk (s : State) : (readQueueStatus s).1.lk = s.lk := by
  rfl
@[simp] theorem readQueueStatus_pt (s : State) : (readQueueStatus s).1.pt = s.pt := by
  rfl
@[simp] theorem readQueueStatus_ci (s : State) : (readQueueStatus s).1.ci = s.ci := by
  rfl
@[simp] theorem readQueueStatus_ct (s : State) : (readQueueStatus s).1.ct = s.ct := by
  rfl
@[simp] theorem readQueueStatus_pu (s : State) : (readQueueStatus s).1.pu = s.pu := by
  rfl
@[simp] theorem readQueueStatus_sc (s : State) : (readQueueStatus s).1.sc = s.sc := by
  rfl
@[simp] theorem readQueueStatus_tu (s : State) : (readQueueStatus s).1.tu = s.tu := by
  rfl
@[simp] theorem readQueueStatus_cc (s : State) : (readQueueStatus s).1.cc = s.cc := by
  rfl
@[simp] theorem readQueueStatus_pq_records (s : State) : (readQueueStatus s).1.pq.records = s.pq.records := by
  rfl
@[simp] theorem readQueueStatus_pq_next (s : State) : (readQueueStatus s).1.pq.next = s.pq.next := by
  rfl
@[simp] theorem readQueueStatus_oe (s : State) : (readQueueStatus s).1.oe = s.oe := by
  rfl
@[simp] theorem readQueueStatus_nfu (s : State) : (readQueueStatus s).1.nfu = s.nfu := by
  rfl
@[simp] theorem readQueueStatus_sck (s : State) : (readQueueStatus s).1.sck = s.sck := by
  rfl
set_option Elab.async false in
@[simp] theorem startOperation_pending (code first last : Nat) (s : State) : (startOperation code first last s).1.pending = s.pending := by
  simp only [startOperation, State.startDayClose]; (repeat' split) <;> simp [State.refuse, laneNumbers]
@[simp] theorem startOperation_tagCount (code first last : Nat) (s : State) : (startOperation code first last s).1.tagCount = s.tagCount := by
  simp only [startOperation, State.startDayClose]; (repeat' split) <;> simp [State.refuse, laneNumbers]
@[simp] theorem startOperation_pp (code first last : Nat) (s : State) : (startOperation code first last s).1.pp = s.pp := by
  simp only [startOperation, State.startDayClose]; (repeat' split) <;> simp [State.refuse, laneNumbers]
@[simp] theorem startOperation_lk (code first last : Nat) (s : State) : (startOperation code first last s).1.lk = s.lk := by
  simp only [startOperation, State.startDayClose]; (repeat' split) <;> simp [State.refuse, laneNumbers]
@[simp] theorem startOperation_ci (code first last : Nat) (s : State) : (startOperation code first last s).1.ci = s.ci := by
  simp only [startOperation, State.startDayClose]; (repeat' split) <;> simp [State.refuse, laneNumbers]
@[simp] theorem startOperation_ct (code first last : Nat) (s : State) : (startOperation code first last s).1.ct = s.ct := by
  simp only [startOperation, State.startDayClose]; (repeat' split) <;> simp [State.refuse, laneNumbers]
@[simp] theorem startOperation_pu_counts (code first last : Nat) (s : State) : (startOperation code first last s).1.pu.counts = s.pu.counts := by
  simp only [startOperation, State.startDayClose]; (repeat' split) <;> simp [State.refuse, laneNumbers]
@[simp] theorem startOperation_pu_permitWindow (code first last : Nat) (s : State) : (startOperation code first last s).1.pu.permitWindow = s.pu.permitWindow := by
  simp only [startOperation, State.startDayClose]; (repeat' split) <;> simp [State.refuse, laneNumbers]
@[simp] theorem startOperation_pu_deadline (code first last : Nat) (s : State) : (startOperation code first last s).1.pu.deadline = s.pu.deadline := by
  simp only [startOperation, State.startDayClose]; (repeat' split) <;> simp [State.refuse, laneNumbers]
@[simp] theorem startOperation_pu_snapshot (code first last : Nat) (s : State) : (startOperation code first last s).1.pu.snapshot = s.pu.snapshot := by
  simp only [startOperation, State.startDayClose]; (repeat' split) <;> simp [State.refuse, laneNumbers]
@[simp] theorem startOperation_pu_evidence (code first last : Nat) (s : State) : (startOperation code first last s).1.pu.evidence = s.pu.evidence := by
  simp only [startOperation, State.startDayClose]; (repeat' split) <;> simp [State.refuse, laneNumbers]
@[simp] theorem startOperation_sc (code first last : Nat) (s : State) : (startOperation code first last s).1.sc = s.sc := by
  simp only [startOperation, State.startDayClose]; (repeat' split) <;> simp [State.refuse, laneNumbers]
@[simp] theorem startOperation_tu (code first last : Nat) (s : State) : (startOperation code first last s).1.tu = s.tu := by
  simp only [startOperation, State.startDayClose]; (repeat' split) <;> simp [State.refuse, laneNumbers]
@[simp] theorem startOperation_cc (code first last : Nat) (s : State) : (startOperation code first last s).1.cc = s.cc := by
  simp only [startOperation, State.startDayClose]; (repeat' split) <;> simp [State.refuse, laneNumbers]
@[simp] theorem startOperation_pq_unposted (code first last : Nat) (s : State) : (startOperation code first last s).1.pq.unposted = s.pq.unposted := by
  simp only [startOperation, State.startDayClose]; (repeat' split) <;> simp [State.refuse, laneNumbers]
@[simp] theorem startOperation_nfu_enables (code first last : Nat) (s : State) : (startOperation code first last s).1.nfu.enables = s.nfu.enables := by
  simp only [startOperation, State.startDayClose]; (repeat' split) <;> simp [State.refuse, laneNumbers]
@[simp] theorem startOperation_nfu_status (code first last : Nat) (s : State) : (startOperation code first last s).1.nfu.status = s.nfu.status := by
  simp only [startOperation, State.startDayClose]; (repeat' split) <;> simp [State.refuse, laneNumbers]
@[simp] theorem startOperation_nfu_masks (code first last : Nat) (s : State) : (startOperation code first last s).1.nfu.masks = s.nfu.masks := by
  simp only [startOperation, State.startDayClose]; (repeat' split) <;> simp [State.refuse, laneNumbers]
@[simp] theorem startOperation_nfu_severe (code first last : Nat) (s : State) : (startOperation code first last s).1.nfu.severe = s.nfu.severe := by
  simp only [startOperation, State.startDayClose]; (repeat' split) <;> simp [State.refuse, laneNumbers]
@[simp] theorem startOperation_nfu_first (code first last : Nat) (s : State) : (startOperation code first last s).1.nfu.first = s.nfu.first := by
  simp only [startOperation, State.startDayClose]; (repeat' split) <;> simp [State.refuse, laneNumbers]
@[simp] theorem startOperation_nfu_refusalRecord (code first last : Nat) (s : State) : (startOperation code first last s).1.nfu.refusalRecord = s.nfu.refusalRecord := by
  simp only [startOperation, State.startDayClose]; (repeat' split) <;> simp [State.refuse, laneNumbers]
@[simp] theorem startOperation_nfu_refusalNotice (code first last : Nat) (s : State) : (startOperation code first last s).1.nfu.refusalNotice = s.nfu.refusalNotice := by
  simp only [startOperation, State.startDayClose]; (repeat' split) <;> simp [State.refuse, laneNumbers]
@[simp] theorem startOperation_sck_clock (code first last : Nat) (s : State) : (startOperation code first last s).1.sck.clock = s.sck.clock := by
  simp only [startOperation, State.startDayClose]; (repeat' split) <;> simp [State.refuse, laneNumbers]
@[simp] theorem startOperation_sck_clockSet (code first last : Nat) (s : State) : (startOperation code first last s).1.sck.clockSet = s.sck.clockSet := by
  simp only [startOperation, State.startDayClose]; (repeat' split) <;> simp [State.refuse, laneNumbers]
@[simp] theorem startOperation_sck_ms (code first last : Nat) (s : State) : (startOperation code first last s).1.sck.ms = s.sck.ms := by
  simp only [startOperation, State.startDayClose]; (repeat' split) <;> simp [State.refuse, laneNumbers]
@[simp] theorem startOperation_sck_elapsed (code first last : Nat) (s : State) : (startOperation code first last s).1.sck.elapsed = s.sck.elapsed := by
  simp only [startOperation, State.startDayClose]; (repeat' split) <;> simp [State.refuse, laneNumbers]
@[simp] theorem startOperation_sck_muster (code first last : Nat) (s : State) : (startOperation code first last s).1.sck.muster = s.sck.muster := by
  simp only [startOperation, State.startDayClose]; (repeat' split) <;> simp [State.refuse, laneNumbers]
@[simp] theorem startOperation_sck_musterLevel (code first last : Nat) (s : State) : (startOperation code first last s).1.sck.musterLevel = s.sck.musterLevel := by
  simp only [startOperation, State.startDayClose]; (repeat' split) <;> simp [State.refuse, laneNumbers]
@[simp] theorem startOperation_sck_musterLine (code first last : Nat) (s : State) : (startOperation code first last s).1.sck.musterLine = s.sck.musterLine := by
  simp only [startOperation, State.startDayClose]; (repeat' split) <;> simp [State.refuse, laneNumbers]
@[simp] theorem startOperation_sck_musterHold (code first last : Nat) (s : State) : (startOperation code first last s).1.sck.musterHold = s.sck.musterHold := by
  simp only [startOperation, State.startDayClose]; (repeat' split) <;> simp [State.refuse, laneNumbers]
@[simp] theorem startOperation_sck_supm (code first last : Nat) (s : State) : (startOperation code first last s).1.sck.supm = s.sck.supm := by
  simp only [startOperation, State.startDayClose]; (repeat' split) <;> simp [State.refuse, laneNumbers]
@[simp] theorem startOperation_sck_supb (code first last : Nat) (s : State) : (startOperation code first last s).1.sck.supb = s.sck.supb := by
  simp only [startOperation, State.startDayClose]; (repeat' split) <;> simp [State.refuse, laneNumbers]
@[simp] theorem startOperation_sck_resetLine (code first last : Nat) (s : State) : (startOperation code first last s).1.sck.resetLine = s.sck.resetLine := by
  simp only [startOperation, State.startDayClose]; (repeat' split) <;> simp [State.refuse, laneNumbers]
@[simp] theorem startOperation_sck_mark (code first last : Nat) (s : State) : (startOperation code first last s).1.sck.mark = s.sck.mark := by
  simp only [startOperation, State.startDayClose]; (repeat' split) <;> simp [State.refuse, laneNumbers]
@[simp] theorem startOperation_sck_returned (code first last : Nat) (s : State) : (startOperation code first last s).1.sck.returned = s.sck.returned := by
  simp only [startOperation, State.startDayClose]; (repeat' split) <;> simp [State.refuse, laneNumbers]
@[simp] theorem startOperation_sck_lastReset (code first last : Nat) (s : State) : (startOperation code first last s).1.sck.lastReset = s.sck.lastReset := by
  simp only [startOperation, State.startDayClose]; (repeat' split) <;> simp [State.refuse, laneNumbers]
set_option Elab.async false in
@[simp] theorem abortOperation_pending (s : State) : (abortOperation s).1.pending = s.pending := by
  unfold abortOperation; split <;> simp [State.refuse]
@[simp] theorem abortOperation_tagCount (s : State) : (abortOperation s).1.tagCount = s.tagCount := by
  unfold abortOperation; split <;> simp [State.refuse]
@[simp] theorem abortOperation_pp (s : State) : (abortOperation s).1.pp = s.pp := by
  unfold abortOperation; split <;> simp [State.refuse]
@[simp] theorem abortOperation_lk (s : State) : (abortOperation s).1.lk = s.lk := by
  unfold abortOperation; split <;> simp [State.refuse]
@[simp] theorem abortOperation_pt (s : State) : (abortOperation s).1.pt = s.pt := by
  unfold abortOperation; split <;> simp [State.refuse]
@[simp] theorem abortOperation_ci (s : State) : (abortOperation s).1.ci = s.ci := by
  unfold abortOperation; split <;> simp [State.refuse]
@[simp] theorem abortOperation_ct (s : State) : (abortOperation s).1.ct = s.ct := by
  unfold abortOperation; split <;> simp [State.refuse]
@[simp] theorem abortOperation_pu (s : State) : (abortOperation s).1.pu = s.pu := by
  unfold abortOperation; split <;> simp [State.refuse]
@[simp] theorem abortOperation_sc (s : State) : (abortOperation s).1.sc = s.sc := by
  unfold abortOperation; split <;> simp [State.refuse]
@[simp] theorem abortOperation_tu (s : State) : (abortOperation s).1.tu = s.tu := by
  unfold abortOperation; split <;> simp [State.refuse]
@[simp] theorem abortOperation_cc (s : State) : (abortOperation s).1.cc = s.cc := by
  unfold abortOperation; split <;> simp [State.refuse]
@[simp] theorem abortOperation_pq (s : State) : (abortOperation s).1.pq = s.pq := by
  unfold abortOperation; split <;> simp [State.refuse]
@[simp] theorem abortOperation_nfu_enables (s : State) : (abortOperation s).1.nfu.enables = s.nfu.enables := by
  unfold abortOperation; split <;> simp [State.refuse]
@[simp] theorem abortOperation_nfu_status (s : State) : (abortOperation s).1.nfu.status = s.nfu.status := by
  unfold abortOperation; split <;> simp [State.refuse]
@[simp] theorem abortOperation_nfu_masks (s : State) : (abortOperation s).1.nfu.masks = s.nfu.masks := by
  unfold abortOperation; split <;> simp [State.refuse]
@[simp] theorem abortOperation_nfu_severe (s : State) : (abortOperation s).1.nfu.severe = s.nfu.severe := by
  unfold abortOperation; split <;> simp [State.refuse]
@[simp] theorem abortOperation_nfu_first (s : State) : (abortOperation s).1.nfu.first = s.nfu.first := by
  unfold abortOperation; split <;> simp [State.refuse]
@[simp] theorem abortOperation_nfu_refusalRecord (s : State) : (abortOperation s).1.nfu.refusalRecord = s.nfu.refusalRecord := by
  unfold abortOperation; split <;> simp [State.refuse]
@[simp] theorem abortOperation_nfu_refusalNotice (s : State) : (abortOperation s).1.nfu.refusalNotice = s.nfu.refusalNotice := by
  unfold abortOperation; split <;> simp [State.refuse]
@[simp] theorem abortOperation_sck (s : State) : (abortOperation s).1.sck = s.sck := by
  unfold abortOperation; split <;> simp [State.refuse]
set_option Elab.async false in
@[simp] theorem readOperation_pending (s : State) : (readOperation s).1.pending = s.pending := by
  rfl
@[simp] theorem readOperation_tagCount (s : State) : (readOperation s).1.tagCount = s.tagCount := by
  rfl
@[simp] theorem readOperation_pp (s : State) : (readOperation s).1.pp = s.pp := by
  rfl
@[simp] theorem readOperation_lk (s : State) : (readOperation s).1.lk = s.lk := by
  rfl
@[simp] theorem readOperation_pt (s : State) : (readOperation s).1.pt = s.pt := by
  rfl
@[simp] theorem readOperation_ci (s : State) : (readOperation s).1.ci = s.ci := by
  rfl
@[simp] theorem readOperation_ct (s : State) : (readOperation s).1.ct = s.ct := by
  rfl
@[simp] theorem readOperation_pu (s : State) : (readOperation s).1.pu = s.pu := by
  rfl
@[simp] theorem readOperation_sc (s : State) : (readOperation s).1.sc = s.sc := by
  rfl
@[simp] theorem readOperation_tu (s : State) : (readOperation s).1.tu = s.tu := by
  rfl
@[simp] theorem readOperation_cc (s : State) : (readOperation s).1.cc = s.cc := by
  rfl
@[simp] theorem readOperation_pq (s : State) : (readOperation s).1.pq = s.pq := by
  rfl
@[simp] theorem readOperation_oe (s : State) : (readOperation s).1.oe = s.oe := by
  rfl
@[simp] theorem readOperation_nfu (s : State) : (readOperation s).1.nfu = s.nfu := by
  rfl
@[simp] theorem readOperation_sck (s : State) : (readOperation s).1.sck = s.sck := by
  rfl
set_option Elab.async false in
@[simp] theorem setClock_pending (time : Nat) (s : State) : (setClock time s).1.pending = s.pending := by
  unfold setClock; split <;> first | rfl | (dsimp only; split <;> split <;> simp)
@[simp] theorem setClock_tagCount (time : Nat) (s : State) : (setClock time s).1.tagCount = s.tagCount := by
  unfold setClock; split <;> first | rfl | (dsimp only; split <;> split <;> simp)
@[simp] theorem setClock_pp (time : Nat) (s : State) : (setClock time s).1.pp = s.pp := by
  unfold setClock; split <;> first | rfl | (dsimp only; split <;> split <;> simp)
@[simp] theorem setClock_lk (time : Nat) (s : State) : (setClock time s).1.lk = s.lk := by
  unfold setClock; split <;> first | rfl | (dsimp only; split <;> split <;> simp)
@[simp] theorem setClock_ci (time : Nat) (s : State) : (setClock time s).1.ci = s.ci := by
  unfold setClock; split <;> first | rfl | (dsimp only; split <;> split <;> simp)
@[simp] theorem setClock_ct (time : Nat) (s : State) : (setClock time s).1.ct = s.ct := by
  unfold setClock; split <;> first | rfl | (dsimp only; split <;> split <;> simp)
@[simp] theorem setClock_pu_counts (time : Nat) (s : State) : (setClock time s).1.pu.counts = s.pu.counts := by
  unfold setClock; split <;> first | rfl | (dsimp only; split <;> split <;> simp)
@[simp] theorem setClock_pu_permitWindow (time : Nat) (s : State) : (setClock time s).1.pu.permitWindow = s.pu.permitWindow := by
  unfold setClock; split <;> first | rfl | (dsimp only; split <;> split <;> simp)
@[simp] theorem setClock_pu_snapshot (time : Nat) (s : State) : (setClock time s).1.pu.snapshot = s.pu.snapshot := by
  unfold setClock; split <;> first | rfl | (dsimp only; split <;> split <;> simp)
@[simp] theorem setClock_pu_evidence (time : Nat) (s : State) : (setClock time s).1.pu.evidence = s.pu.evidence := by
  unfold setClock; split <;> first | rfl | (dsimp only; split <;> split <;> simp)
@[simp] theorem setClock_sc (time : Nat) (s : State) : (setClock time s).1.sc = s.sc := by
  unfold setClock; split <;> first | rfl | (dsimp only; split <;> split <;> simp)
@[simp] theorem setClock_tu (time : Nat) (s : State) : (setClock time s).1.tu = s.tu := by
  unfold setClock; split <;> first | rfl | (dsimp only; split <;> split <;> simp)
@[simp] theorem setClock_cc (time : Nat) (s : State) : (setClock time s).1.cc = s.cc := by
  unfold setClock; split <;> first | rfl | (dsimp only; split <;> split <;> simp)
@[simp] theorem setClock_pq (time : Nat) (s : State) : (setClock time s).1.pq = s.pq := by
  unfold setClock; split <;> first | rfl | (dsimp only; split <;> split <;> simp)
@[simp] theorem setClock_nfu_enables (time : Nat) (s : State) : (setClock time s).1.nfu.enables = s.nfu.enables := by
  unfold setClock; split <;> first | rfl | (dsimp only; split <;> split <;> simp)
@[simp] theorem setClock_nfu_status (time : Nat) (s : State) : (setClock time s).1.nfu.status = s.nfu.status := by
  unfold setClock; split <;> first | rfl | (dsimp only; split <;> split <;> simp)
@[simp] theorem setClock_nfu_masks (time : Nat) (s : State) : (setClock time s).1.nfu.masks = s.nfu.masks := by
  unfold setClock; split <;> first | rfl | (dsimp only; split <;> split <;> simp)
@[simp] theorem setClock_nfu_severe (time : Nat) (s : State) : (setClock time s).1.nfu.severe = s.nfu.severe := by
  unfold setClock; split <;> first | rfl | (dsimp only; split <;> split <;> simp)
@[simp] theorem setClock_nfu_first (time : Nat) (s : State) : (setClock time s).1.nfu.first = s.nfu.first := by
  unfold setClock; split <;> first | rfl | (dsimp only; split <;> split <;> simp)
@[simp] theorem setClock_nfu_refusalRecord (time : Nat) (s : State) : (setClock time s).1.nfu.refusalRecord = s.nfu.refusalRecord := by
  unfold setClock; split <;> first | rfl | (dsimp only; split <;> split <;> simp)
@[simp] theorem setClock_nfu_refusalNotice (time : Nat) (s : State) : (setClock time s).1.nfu.refusalNotice = s.nfu.refusalNotice := by
  unfold setClock; split <;> first | rfl | (dsimp only; split <;> split <;> simp)
@[simp] theorem setClock_sck_ms (time : Nat) (s : State) : (setClock time s).1.sck.ms = s.sck.ms := by
  unfold setClock; split <;> first | rfl | (dsimp only; split <;> split <;> simp)
@[simp] theorem setClock_sck_elapsed (time : Nat) (s : State) : (setClock time s).1.sck.elapsed = s.sck.elapsed := by
  unfold setClock; split <;> first | rfl | (dsimp only; split <;> split <;> simp)
@[simp] theorem setClock_sck_openDay (time : Nat) (s : State) : (setClock time s).1.sck.openDay = s.sck.openDay := by
  unfold setClock; split <;> first | rfl | (dsimp only; split <;> split <;> simp)
@[simp] theorem setClock_sck_muster (time : Nat) (s : State) : (setClock time s).1.sck.muster = s.sck.muster := by
  unfold setClock; split <;> first | rfl | (dsimp only; split <;> split <;> simp)
@[simp] theorem setClock_sck_musterLevel (time : Nat) (s : State) : (setClock time s).1.sck.musterLevel = s.sck.musterLevel := by
  unfold setClock; split <;> first | rfl | (dsimp only; split <;> split <;> simp)
@[simp] theorem setClock_sck_musterLine (time : Nat) (s : State) : (setClock time s).1.sck.musterLine = s.sck.musterLine := by
  unfold setClock; split <;> first | rfl | (dsimp only; split <;> split <;> simp)
@[simp] theorem setClock_sck_musterHold (time : Nat) (s : State) : (setClock time s).1.sck.musterHold = s.sck.musterHold := by
  unfold setClock; split <;> first | rfl | (dsimp only; split <;> split <;> simp)
@[simp] theorem setClock_sck_supm (time : Nat) (s : State) : (setClock time s).1.sck.supm = s.sck.supm := by
  unfold setClock; split <;> first | rfl | (dsimp only; split <;> split <;> simp)
@[simp] theorem setClock_sck_supb (time : Nat) (s : State) : (setClock time s).1.sck.supb = s.sck.supb := by
  unfold setClock; split <;> first | rfl | (dsimp only; split <;> split <;> simp)
@[simp] theorem setClock_sck_resetLine (time : Nat) (s : State) : (setClock time s).1.sck.resetLine = s.sck.resetLine := by
  unfold setClock; split <;> first | rfl | (dsimp only; split <;> split <;> simp)
@[simp] theorem setClock_sck_mark (time : Nat) (s : State) : (setClock time s).1.sck.mark = s.sck.mark := by
  unfold setClock; split <;> first | rfl | (dsimp only; split <;> split <;> simp)
@[simp] theorem setClock_sck_returned (time : Nat) (s : State) : (setClock time s).1.sck.returned = s.sck.returned := by
  unfold setClock; split <;> first | rfl | (dsimp only; split <;> split <;> simp)
@[simp] theorem setClock_sck_lastReset (time : Nat) (s : State) : (setClock time s).1.sck.lastReset = s.sck.lastReset := by
  unfold setClock; split <;> first | rfl | (dsimp only; split <;> split <;> simp)
set_option Elab.async false in
@[simp] theorem clearAll_pending (s : State) : (clearAll s).1.pending = s.pending := by
  unfold clearAll State.voyageClear; (repeat' first | split | dsimp only) <;> simp [State.refuse]
@[simp] theorem clearAll_tagCount (s : State) : (clearAll s).1.tagCount = s.tagCount := by
  unfold clearAll State.voyageClear; (repeat' first | split | dsimp only) <;> simp [State.refuse]
@[simp] theorem clearAll_pp (s : State) : (clearAll s).1.pp = s.pp := by
  unfold clearAll State.voyageClear; (repeat' first | split | dsimp only) <;> simp [State.refuse]
@[simp] theorem clearAll_lk (s : State) : (clearAll s).1.lk = s.lk := by
  unfold clearAll State.voyageClear; (repeat' first | split | dsimp only) <;> simp [State.refuse]
@[simp] theorem clearAll_pu_permitWindow (s : State) : (clearAll s).1.pu.permitWindow = s.pu.permitWindow := by
  unfold clearAll State.voyageClear; (repeat' first | split | dsimp only) <;> simp [State.refuse]
@[simp] theorem clearAll_pu_snapshot (s : State) : (clearAll s).1.pu.snapshot = s.pu.snapshot := by
  unfold clearAll State.voyageClear; (repeat' first | split | dsimp only) <;> simp [State.refuse]
@[simp] theorem clearAll_sc (s : State) : (clearAll s).1.sc = s.sc := by
  unfold clearAll State.voyageClear; (repeat' first | split | dsimp only) <;> simp [State.refuse]
@[simp] theorem clearAll_tu_holds (s : State) : (clearAll s).1.tu.holds = s.tu.holds := by
  unfold clearAll State.voyageClear; (repeat' first | split | dsimp only) <;> simp [State.refuse]
@[simp] theorem clearAll_cc (s : State) : (clearAll s).1.cc = s.cc := by
  unfold clearAll State.voyageClear; (repeat' first | split | dsimp only) <;> simp [State.refuse]
@[simp] theorem clearAll_pq_next (s : State) : (clearAll s).1.pq.next = s.pq.next := by
  unfold clearAll State.voyageClear; (repeat' first | split | dsimp only) <;> simp [State.refuse]
@[simp] theorem clearAll_pq_unposted (s : State) : (clearAll s).1.pq.unposted = s.pq.unposted := by
  unfold clearAll State.voyageClear; (repeat' first | split | dsimp only) <;> simp [State.refuse]
@[simp] theorem clearAll_oe (s : State) : (clearAll s).1.oe = s.oe := by
  unfold clearAll State.voyageClear; (repeat' first | split | dsimp only) <;> simp [State.refuse]
@[simp] theorem clearAll_nfu (s : State) : (clearAll s).1.nfu = s.nfu := by
  unfold clearAll State.voyageClear; (repeat' first | split | dsimp only) <;> simp [State.refuse]
@[simp] theorem clearAll_sck (s : State) : (clearAll s).1.sck = s.sck := by
  unfold clearAll State.voyageClear; (repeat' first | split | dsimp only) <;> simp [State.refuse]
set_option Elab.async false in
@[simp] theorem readClock_pending (s : State) : (readClock s).1.pending = s.pending := by
  rfl
@[simp] theorem readClock_tagCount (s : State) : (readClock s).1.tagCount = s.tagCount := by
  rfl
@[simp] theorem readClock_pp (s : State) : (readClock s).1.pp = s.pp := by
  rfl
@[simp] theorem readClock_lk (s : State) : (readClock s).1.lk = s.lk := by
  rfl
@[simp] theorem readClock_pt (s : State) : (readClock s).1.pt = s.pt := by
  rfl
@[simp] theorem readClock_ci (s : State) : (readClock s).1.ci = s.ci := by
  rfl
@[simp] theorem readClock_ct (s : State) : (readClock s).1.ct = s.ct := by
  rfl
@[simp] theorem readClock_pu (s : State) : (readClock s).1.pu = s.pu := by
  rfl
@[simp] theorem readClock_sc (s : State) : (readClock s).1.sc = s.sc := by
  rfl
@[simp] theorem readClock_tu (s : State) : (readClock s).1.tu = s.tu := by
  rfl
@[simp] theorem readClock_cc (s : State) : (readClock s).1.cc = s.cc := by
  rfl
@[simp] theorem readClock_pq (s : State) : (readClock s).1.pq = s.pq := by
  rfl
@[simp] theorem readClock_oe (s : State) : (readClock s).1.oe = s.oe := by
  rfl
@[simp] theorem readClock_nfu (s : State) : (readClock s).1.nfu = s.nfu := by
  rfl
@[simp] theorem readClock_sck (s : State) : (readClock s).1.sck = s.sck := by
  rfl
set_option Elab.async false in
@[simp] theorem readNotices_pending (s : State) : (readNotices s).1.pending = s.pending := by
  rfl
@[simp] theorem readNotices_tagCount (s : State) : (readNotices s).1.tagCount = s.tagCount := by
  rfl
@[simp] theorem readNotices_pp (s : State) : (readNotices s).1.pp = s.pp := by
  rfl
@[simp] theorem readNotices_lk (s : State) : (readNotices s).1.lk = s.lk := by
  rfl
@[simp] theorem readNotices_pt (s : State) : (readNotices s).1.pt = s.pt := by
  rfl
@[simp] theorem readNotices_ci (s : State) : (readNotices s).1.ci = s.ci := by
  rfl
@[simp] theorem readNotices_ct (s : State) : (readNotices s).1.ct = s.ct := by
  rfl
@[simp] theorem readNotices_pu (s : State) : (readNotices s).1.pu = s.pu := by
  rfl
@[simp] theorem readNotices_sc (s : State) : (readNotices s).1.sc = s.sc := by
  rfl
@[simp] theorem readNotices_tu (s : State) : (readNotices s).1.tu = s.tu := by
  rfl
@[simp] theorem readNotices_cc (s : State) : (readNotices s).1.cc = s.cc := by
  rfl
@[simp] theorem readNotices_pq (s : State) : (readNotices s).1.pq = s.pq := by
  rfl
@[simp] theorem readNotices_oe (s : State) : (readNotices s).1.oe = s.oe := by
  rfl
@[simp] theorem readNotices_nfu (s : State) : (readNotices s).1.nfu = s.nfu := by
  rfl
@[simp] theorem readNotices_sck (s : State) : (readNotices s).1.sck = s.sck := by
  rfl
set_option Elab.async false in
@[simp] theorem clearNotices_pending (kinds : BitVec 24) (s : State) : (clearNotices kinds s).1.pending = s.pending := by
  unfold clearNotices; split <;> simp [State.refuse]
@[simp] theorem clearNotices_tagCount (kinds : BitVec 24) (s : State) : (clearNotices kinds s).1.tagCount = s.tagCount := by
  unfold clearNotices; split <;> simp [State.refuse]
@[simp] theorem clearNotices_pp (kinds : BitVec 24) (s : State) : (clearNotices kinds s).1.pp = s.pp := by
  unfold clearNotices; split <;> simp [State.refuse]
@[simp] theorem clearNotices_lk (kinds : BitVec 24) (s : State) : (clearNotices kinds s).1.lk = s.lk := by
  unfold clearNotices; split <;> simp [State.refuse]
@[simp] theorem clearNotices_pt (kinds : BitVec 24) (s : State) : (clearNotices kinds s).1.pt = s.pt := by
  unfold clearNotices; split <;> simp [State.refuse]
@[simp] theorem clearNotices_ci (kinds : BitVec 24) (s : State) : (clearNotices kinds s).1.ci = s.ci := by
  unfold clearNotices; split <;> simp [State.refuse]
@[simp] theorem clearNotices_ct (kinds : BitVec 24) (s : State) : (clearNotices kinds s).1.ct = s.ct := by
  unfold clearNotices; split <;> simp [State.refuse]
@[simp] theorem clearNotices_pu (kinds : BitVec 24) (s : State) : (clearNotices kinds s).1.pu = s.pu := by
  unfold clearNotices; split <;> simp [State.refuse]
@[simp] theorem clearNotices_sc (kinds : BitVec 24) (s : State) : (clearNotices kinds s).1.sc = s.sc := by
  unfold clearNotices; split <;> simp [State.refuse]
@[simp] theorem clearNotices_tu (kinds : BitVec 24) (s : State) : (clearNotices kinds s).1.tu = s.tu := by
  unfold clearNotices; split <;> simp [State.refuse]
@[simp] theorem clearNotices_cc (kinds : BitVec 24) (s : State) : (clearNotices kinds s).1.cc = s.cc := by
  unfold clearNotices; split <;> simp [State.refuse]
@[simp] theorem clearNotices_pq (kinds : BitVec 24) (s : State) : (clearNotices kinds s).1.pq = s.pq := by
  unfold clearNotices; split <;> simp [State.refuse]
@[simp] theorem clearNotices_oe (kinds : BitVec 24) (s : State) : (clearNotices kinds s).1.oe = s.oe := by
  unfold clearNotices; split <;> simp [State.refuse]
@[simp] theorem clearNotices_nfu_enables (kinds : BitVec 24) (s : State) : (clearNotices kinds s).1.nfu.enables = s.nfu.enables := by
  unfold clearNotices; split <;> simp [State.refuse]
@[simp] theorem clearNotices_nfu_status (kinds : BitVec 24) (s : State) : (clearNotices kinds s).1.nfu.status = s.nfu.status := by
  unfold clearNotices; split <;> simp [State.refuse]
@[simp] theorem clearNotices_nfu_masks (kinds : BitVec 24) (s : State) : (clearNotices kinds s).1.nfu.masks = s.nfu.masks := by
  unfold clearNotices; split <;> simp [State.refuse]
@[simp] theorem clearNotices_nfu_severe (kinds : BitVec 24) (s : State) : (clearNotices kinds s).1.nfu.severe = s.nfu.severe := by
  unfold clearNotices; split <;> simp [State.refuse]
@[simp] theorem clearNotices_nfu_first (kinds : BitVec 24) (s : State) : (clearNotices kinds s).1.nfu.first = s.nfu.first := by
  unfold clearNotices; split <;> simp [State.refuse]
@[simp] theorem clearNotices_nfu_refusalRecord (kinds : BitVec 24) (s : State) : (clearNotices kinds s).1.nfu.refusalRecord = s.nfu.refusalRecord := by
  unfold clearNotices; split <;> simp [State.refuse]
@[simp] theorem clearNotices_nfu_refusalNotice (kinds : BitVec 24) (s : State) : (clearNotices kinds s).1.nfu.refusalNotice = s.nfu.refusalNotice := by
  unfold clearNotices; split <;> simp [State.refuse]
@[simp] theorem clearNotices_sck (kinds : BitVec 24) (s : State) : (clearNotices kinds s).1.sck = s.sck := by
  unfold clearNotices; split <;> simp [State.refuse]
set_option Elab.async false in
@[simp] theorem setEnables_pending (kinds : BitVec 24) (s : State) : (setEnables kinds s).1.pending = s.pending := by
  unfold setEnables; split <;> simp [State.refuse]
@[simp] theorem setEnables_tagCount (kinds : BitVec 24) (s : State) : (setEnables kinds s).1.tagCount = s.tagCount := by
  unfold setEnables; split <;> simp [State.refuse]
@[simp] theorem setEnables_pp (kinds : BitVec 24) (s : State) : (setEnables kinds s).1.pp = s.pp := by
  unfold setEnables; split <;> simp [State.refuse]
@[simp] theorem setEnables_lk (kinds : BitVec 24) (s : State) : (setEnables kinds s).1.lk = s.lk := by
  unfold setEnables; split <;> simp [State.refuse]
@[simp] theorem setEnables_pt (kinds : BitVec 24) (s : State) : (setEnables kinds s).1.pt = s.pt := by
  unfold setEnables; split <;> simp [State.refuse]
@[simp] theorem setEnables_ci (kinds : BitVec 24) (s : State) : (setEnables kinds s).1.ci = s.ci := by
  unfold setEnables; split <;> simp [State.refuse]
@[simp] theorem setEnables_ct (kinds : BitVec 24) (s : State) : (setEnables kinds s).1.ct = s.ct := by
  unfold setEnables; split <;> simp [State.refuse]
@[simp] theorem setEnables_pu (kinds : BitVec 24) (s : State) : (setEnables kinds s).1.pu = s.pu := by
  unfold setEnables; split <;> simp [State.refuse]
@[simp] theorem setEnables_sc (kinds : BitVec 24) (s : State) : (setEnables kinds s).1.sc = s.sc := by
  unfold setEnables; split <;> simp [State.refuse]
@[simp] theorem setEnables_tu (kinds : BitVec 24) (s : State) : (setEnables kinds s).1.tu = s.tu := by
  unfold setEnables; split <;> simp [State.refuse]
@[simp] theorem setEnables_cc (kinds : BitVec 24) (s : State) : (setEnables kinds s).1.cc = s.cc := by
  unfold setEnables; split <;> simp [State.refuse]
@[simp] theorem setEnables_pq (kinds : BitVec 24) (s : State) : (setEnables kinds s).1.pq = s.pq := by
  unfold setEnables; split <;> simp [State.refuse]
@[simp] theorem setEnables_oe (kinds : BitVec 24) (s : State) : (setEnables kinds s).1.oe = s.oe := by
  unfold setEnables; split <;> simp [State.refuse]
@[simp] theorem setEnables_nfu_pending (kinds : BitVec 24) (s : State) : (setEnables kinds s).1.nfu.pending = s.nfu.pending := by
  unfold setEnables; split <;> simp [State.refuse]
@[simp] theorem setEnables_nfu_status (kinds : BitVec 24) (s : State) : (setEnables kinds s).1.nfu.status = s.nfu.status := by
  unfold setEnables; split <;> simp [State.refuse]
@[simp] theorem setEnables_nfu_masks (kinds : BitVec 24) (s : State) : (setEnables kinds s).1.nfu.masks = s.nfu.masks := by
  unfold setEnables; split <;> simp [State.refuse]
@[simp] theorem setEnables_nfu_severe (kinds : BitVec 24) (s : State) : (setEnables kinds s).1.nfu.severe = s.nfu.severe := by
  unfold setEnables; split <;> simp [State.refuse]
@[simp] theorem setEnables_nfu_first (kinds : BitVec 24) (s : State) : (setEnables kinds s).1.nfu.first = s.nfu.first := by
  unfold setEnables; split <;> simp [State.refuse]
@[simp] theorem setEnables_nfu_refusalRecord (kinds : BitVec 24) (s : State) : (setEnables kinds s).1.nfu.refusalRecord = s.nfu.refusalRecord := by
  unfold setEnables; split <;> simp [State.refuse]
@[simp] theorem setEnables_nfu_refusalNotice (kinds : BitVec 24) (s : State) : (setEnables kinds s).1.nfu.refusalNotice = s.nfu.refusalNotice := by
  unfold setEnables; split <;> simp [State.refuse]
@[simp] theorem setEnables_sck (kinds : BitVec 24) (s : State) : (setEnables kinds s).1.sck = s.sck := by
  unfold setEnables; split <;> simp [State.refuse]
set_option Elab.async false in
@[simp] theorem readFaults_pending (s : State) : (readFaults s).1.pending = s.pending := by
  rfl
@[simp] theorem readFaults_tagCount (s : State) : (readFaults s).1.tagCount = s.tagCount := by
  rfl
@[simp] theorem readFaults_pp (s : State) : (readFaults s).1.pp = s.pp := by
  rfl
@[simp] theorem readFaults_lk (s : State) : (readFaults s).1.lk = s.lk := by
  rfl
@[simp] theorem readFaults_pt (s : State) : (readFaults s).1.pt = s.pt := by
  rfl
@[simp] theorem readFaults_ci (s : State) : (readFaults s).1.ci = s.ci := by
  rfl
@[simp] theorem readFaults_ct (s : State) : (readFaults s).1.ct = s.ct := by
  rfl
@[simp] theorem readFaults_pu (s : State) : (readFaults s).1.pu = s.pu := by
  rfl
@[simp] theorem readFaults_sc (s : State) : (readFaults s).1.sc = s.sc := by
  rfl
@[simp] theorem readFaults_tu (s : State) : (readFaults s).1.tu = s.tu := by
  rfl
@[simp] theorem readFaults_cc (s : State) : (readFaults s).1.cc = s.cc := by
  rfl
@[simp] theorem readFaults_pq (s : State) : (readFaults s).1.pq = s.pq := by
  rfl
@[simp] theorem readFaults_oe (s : State) : (readFaults s).1.oe = s.oe := by
  rfl
@[simp] theorem readFaults_nfu (s : State) : (readFaults s).1.nfu = s.nfu := by
  rfl
@[simp] theorem readFaults_sck (s : State) : (readFaults s).1.sck = s.sck := by
  rfl
set_option Elab.async false in
@[simp] theorem clearFaults_pending (kinds : BitVec 16) (s : State) : (clearFaults kinds s).1.pending = s.pending := by
  rfl
@[simp] theorem clearFaults_tagCount (kinds : BitVec 16) (s : State) : (clearFaults kinds s).1.tagCount = s.tagCount := by
  rfl
@[simp] theorem clearFaults_pp (kinds : BitVec 16) (s : State) : (clearFaults kinds s).1.pp = s.pp := by
  rfl
@[simp] theorem clearFaults_lk (kinds : BitVec 16) (s : State) : (clearFaults kinds s).1.lk = s.lk := by
  rfl
@[simp] theorem clearFaults_pt (kinds : BitVec 16) (s : State) : (clearFaults kinds s).1.pt = s.pt := by
  rfl
@[simp] theorem clearFaults_ci (kinds : BitVec 16) (s : State) : (clearFaults kinds s).1.ci = s.ci := by
  rfl
@[simp] theorem clearFaults_ct (kinds : BitVec 16) (s : State) : (clearFaults kinds s).1.ct = s.ct := by
  rfl
@[simp] theorem clearFaults_pu (kinds : BitVec 16) (s : State) : (clearFaults kinds s).1.pu = s.pu := by
  rfl
@[simp] theorem clearFaults_sc (kinds : BitVec 16) (s : State) : (clearFaults kinds s).1.sc = s.sc := by
  rfl
@[simp] theorem clearFaults_tu (kinds : BitVec 16) (s : State) : (clearFaults kinds s).1.tu = s.tu := by
  rfl
@[simp] theorem clearFaults_cc (kinds : BitVec 16) (s : State) : (clearFaults kinds s).1.cc = s.cc := by
  rfl
@[simp] theorem clearFaults_pq (kinds : BitVec 16) (s : State) : (clearFaults kinds s).1.pq = s.pq := by
  rfl
@[simp] theorem clearFaults_oe (kinds : BitVec 16) (s : State) : (clearFaults kinds s).1.oe = s.oe := by
  rfl
@[simp] theorem clearFaults_nfu_pending (kinds : BitVec 16) (s : State) : (clearFaults kinds s).1.nfu.pending = s.nfu.pending := by
  rfl
@[simp] theorem clearFaults_nfu_enables (kinds : BitVec 16) (s : State) : (clearFaults kinds s).1.nfu.enables = s.nfu.enables := by
  rfl
@[simp] theorem clearFaults_nfu_masks (kinds : BitVec 16) (s : State) : (clearFaults kinds s).1.nfu.masks = s.nfu.masks := by
  rfl
@[simp] theorem clearFaults_nfu_severe (kinds : BitVec 16) (s : State) : (clearFaults kinds s).1.nfu.severe = s.nfu.severe := by
  rfl
@[simp] theorem clearFaults_nfu_refusalRecord (kinds : BitVec 16) (s : State) : (clearFaults kinds s).1.nfu.refusalRecord = s.nfu.refusalRecord := by
  rfl
@[simp] theorem clearFaults_nfu_refusalNotice (kinds : BitVec 16) (s : State) : (clearFaults kinds s).1.nfu.refusalNotice = s.nfu.refusalNotice := by
  rfl
@[simp] theorem clearFaults_sck (kinds : BitVec 16) (s : State) : (clearFaults kinds s).1.sck = s.sck := by
  rfl
set_option Elab.async false in
@[simp] theorem setMasks_pending (masks severe : BitVec 16) (s : State) : (setMasks masks severe s).1.pending = s.pending := by
  unfold setMasks; split <;> simp [State.refuse]
@[simp] theorem setMasks_tagCount (masks severe : BitVec 16) (s : State) : (setMasks masks severe s).1.tagCount = s.tagCount := by
  unfold setMasks; split <;> simp [State.refuse]
@[simp] theorem setMasks_pp (masks severe : BitVec 16) (s : State) : (setMasks masks severe s).1.pp = s.pp := by
  unfold setMasks; split <;> simp [State.refuse]
@[simp] theorem setMasks_lk (masks severe : BitVec 16) (s : State) : (setMasks masks severe s).1.lk = s.lk := by
  unfold setMasks; split <;> simp [State.refuse]
@[simp] theorem setMasks_pt (masks severe : BitVec 16) (s : State) : (setMasks masks severe s).1.pt = s.pt := by
  unfold setMasks; split <;> simp [State.refuse]
@[simp] theorem setMasks_ci (masks severe : BitVec 16) (s : State) : (setMasks masks severe s).1.ci = s.ci := by
  unfold setMasks; split <;> simp [State.refuse]
@[simp] theorem setMasks_ct (masks severe : BitVec 16) (s : State) : (setMasks masks severe s).1.ct = s.ct := by
  unfold setMasks; split <;> simp [State.refuse]
@[simp] theorem setMasks_pu (masks severe : BitVec 16) (s : State) : (setMasks masks severe s).1.pu = s.pu := by
  unfold setMasks; split <;> simp [State.refuse]
@[simp] theorem setMasks_sc (masks severe : BitVec 16) (s : State) : (setMasks masks severe s).1.sc = s.sc := by
  unfold setMasks; split <;> simp [State.refuse]
@[simp] theorem setMasks_tu (masks severe : BitVec 16) (s : State) : (setMasks masks severe s).1.tu = s.tu := by
  unfold setMasks; split <;> simp [State.refuse]
@[simp] theorem setMasks_cc (masks severe : BitVec 16) (s : State) : (setMasks masks severe s).1.cc = s.cc := by
  unfold setMasks; split <;> simp [State.refuse]
@[simp] theorem setMasks_pq (masks severe : BitVec 16) (s : State) : (setMasks masks severe s).1.pq = s.pq := by
  unfold setMasks; split <;> simp [State.refuse]
@[simp] theorem setMasks_oe (masks severe : BitVec 16) (s : State) : (setMasks masks severe s).1.oe = s.oe := by
  unfold setMasks; split <;> simp [State.refuse]
@[simp] theorem setMasks_nfu_pending (masks severe : BitVec 16) (s : State) : (setMasks masks severe s).1.nfu.pending = s.nfu.pending := by
  unfold setMasks; split <;> simp [State.refuse]
@[simp] theorem setMasks_nfu_enables (masks severe : BitVec 16) (s : State) : (setMasks masks severe s).1.nfu.enables = s.nfu.enables := by
  unfold setMasks; split <;> simp [State.refuse]
@[simp] theorem setMasks_nfu_status (masks severe : BitVec 16) (s : State) : (setMasks masks severe s).1.nfu.status = s.nfu.status := by
  unfold setMasks; split <;> simp [State.refuse]
@[simp] theorem setMasks_nfu_first (masks severe : BitVec 16) (s : State) : (setMasks masks severe s).1.nfu.first = s.nfu.first := by
  unfold setMasks; split <;> simp [State.refuse]
@[simp] theorem setMasks_nfu_refusalRecord (masks severe : BitVec 16) (s : State) : (setMasks masks severe s).1.nfu.refusalRecord = s.nfu.refusalRecord := by
  unfold setMasks; split <;> simp [State.refuse]
@[simp] theorem setMasks_nfu_refusalNotice (masks severe : BitVec 16) (s : State) : (setMasks masks severe s).1.nfu.refusalNotice = s.nfu.refusalNotice := by
  unfold setMasks; split <;> simp [State.refuse]
@[simp] theorem setMasks_sck (masks severe : BitVec 16) (s : State) : (setMasks masks severe s).1.sck = s.sck := by
  unfold setMasks; split <;> simp [State.refuse]

end Sys2Proof.Machine
end

