-- ==== Sys2Proof/Laws/Requests.lean ====
section
/-! SUPPORT. What the tab unit's requests can do, and what they leave as it is.
The first lemma about an operation is elaborated before the others, so that they do not wait for each other to make the
equations that all of them unfold it by. -/

namespace Sys2Proof.Machine

set_option Elab.async false in
@[simp] theorem State.createTab_pending (n terminal venue p : Nat) (s : State) : (s.createTab n terminal venue p).1.pending = s.pending := by
  simp [State.createTab]
@[simp] theorem State.createTab_tagCount (n terminal venue p : Nat) (s : State) : (s.createTab n terminal venue p).1.tagCount = s.tagCount := by
  simp [State.createTab]
@[simp] theorem State.createTab_pp (n terminal venue p : Nat) (s : State) : (s.createTab n terminal venue p).1.pp = s.pp := by
  simp [State.createTab]
@[simp] theorem State.createTab_lk (n terminal venue p : Nat) (s : State) : (s.createTab n terminal venue p).1.lk = s.lk := by
  simp [State.createTab]
@[simp] theorem State.createTab_ci (n terminal venue p : Nat) (s : State) : (s.createTab n terminal venue p).1.ci = s.ci := by
  simp [State.createTab]
@[simp] theorem State.createTab_ct (n terminal venue p : Nat) (s : State) : (s.createTab n terminal venue p).1.ct = s.ct := by
  simp [State.createTab]
@[simp] theorem State.createTab_pu (n terminal venue p : Nat) (s : State) : (s.createTab n terminal venue p).1.pu = s.pu := by
  simp [State.createTab]
@[simp] theorem State.createTab_sc (n terminal venue p : Nat) (s : State) : (s.createTab n terminal venue p).1.sc = s.sc := by
  simp [State.createTab]
@[simp] theorem State.createTab_tu_holds (n terminal venue p : Nat) (s : State) : (s.createTab n terminal venue p).1.tu.holds = s.tu.holds := by
  simp [State.createTab]
@[simp] theorem State.createTab_cc (n terminal venue p : Nat) (s : State) : (s.createTab n terminal venue p).1.cc = s.cc := by
  simp [State.createTab]
@[simp] theorem State.createTab_pq (n terminal venue p : Nat) (s : State) : (s.createTab n terminal venue p).1.pq = s.pq := by
  simp [State.createTab]
@[simp] theorem State.createTab_oe (n terminal venue p : Nat) (s : State) : (s.createTab n terminal venue p).1.oe = s.oe := by
  simp [State.createTab]
@[simp] theorem State.createTab_nfu (n terminal venue p : Nat) (s : State) : (s.createTab n terminal venue p).1.nfu = s.nfu := by
  simp [State.createTab]
@[simp] theorem State.createTab_sck (n terminal venue p : Nat) (s : State) : (s.createTab n terminal venue p).1.sck = s.sck := by
  simp [State.createTab]

/-- R98: a close: empty, refused for a full queue, or charged. -/
theorem State.closeTab_eq (s : State) (n : Nat) (t : Tab) (tip : Nat) (forced quick : Bool) :
    s.closeTab n t tip forced quick =
      if lineTotal t.lines = 0 then
        .empty ((s.dropTab n t).modPerson t.person fun r =>
          { r with folio := { r.folio with held := r.folio.held - t.total } })
      else if s.free < 1 then .full
      else
        let c := closeFigures (s.price t.venue (s.classOf t.person) t.lines) (s.folioOf t.person) t.total tip
        .charged (((s.append s.sck.clock (some t.person) (s.folioOf t.person).day
            (.charge (chargeBody t { slot := n, use := (s.slot n).use } c forced quick))).dropTab n t).modPerson t.person
          fun r => { r with folio := r.folio.charge c t.total }) c.amount c.tip c.balance s.pq.next := by
  unfold State.closeTab
  by_cases h : lineTotal t.lines = 0
  · simp [h]
  · by_cases h2 : s.free < 1 <;> simp [h, State.append?_eq, h2]

set_option Elab.async false in
@[simp] theorem forceClose_pending (n : Nat) (s : State) : (forceClose n s).1.pending = s.pending := by
  unfold forceClose; split <;> (try dsimp only) <;> (try split) <;> (try rfl); rw [State.closeTab_eq]; by_cases h1 : lineTotal (Tab.lines ‹Tab›) = 0 <;> by_cases h2 : s.free < 1 <;> simp [h1, h2, State.refuse]
@[simp] theorem forceClose_tagCount (n : Nat) (s : State) : (forceClose n s).1.tagCount = s.tagCount := by
  unfold forceClose; split <;> (try dsimp only) <;> (try split) <;> (try rfl); rw [State.closeTab_eq]; by_cases h1 : lineTotal (Tab.lines ‹Tab›) = 0 <;> by_cases h2 : s.free < 1 <;> simp [h1, h2, State.refuse]
@[simp] theorem forceClose_pp (n : Nat) (s : State) : (forceClose n s).1.pp = s.pp := by
  unfold forceClose; split <;> (try dsimp only) <;> (try split) <;> (try rfl); rw [State.closeTab_eq]; by_cases h1 : lineTotal (Tab.lines ‹Tab›) = 0 <;> by_cases h2 : s.free < 1 <;> simp [h1, h2, State.refuse]
@[simp] theorem forceClose_lk (n : Nat) (s : State) : (forceClose n s).1.lk = s.lk := by
  unfold forceClose; split <;> (try dsimp only) <;> (try split) <;> (try rfl); rw [State.closeTab_eq]; by_cases h1 : lineTotal (Tab.lines ‹Tab›) = 0 <;> by_cases h2 : s.free < 1 <;> simp [h1, h2, State.refuse]
@[simp] theorem forceClose_ci (n : Nat) (s : State) : (forceClose n s).1.ci = s.ci := by
  unfold forceClose; split <;> (try dsimp only) <;> (try split) <;> (try rfl); rw [State.closeTab_eq]; by_cases h1 : lineTotal (Tab.lines ‹Tab›) = 0 <;> by_cases h2 : s.free < 1 <;> simp [h1, h2, State.refuse]
@[simp] theorem forceClose_ct (n : Nat) (s : State) : (forceClose n s).1.ct = s.ct := by
  unfold forceClose; split <;> (try dsimp only) <;> (try split) <;> (try rfl); rw [State.closeTab_eq]; by_cases h1 : lineTotal (Tab.lines ‹Tab›) = 0 <;> by_cases h2 : s.free < 1 <;> simp [h1, h2, State.refuse]
@[simp] theorem forceClose_pu (n : Nat) (s : State) : (forceClose n s).1.pu = s.pu := by
  unfold forceClose; split <;> (try dsimp only) <;> (try split) <;> (try rfl); rw [State.closeTab_eq]; by_cases h1 : lineTotal (Tab.lines ‹Tab›) = 0 <;> by_cases h2 : s.free < 1 <;> simp [h1, h2, State.refuse]
@[simp] theorem forceClose_sc (n : Nat) (s : State) : (forceClose n s).1.sc = s.sc := by
  unfold forceClose; split <;> (try dsimp only) <;> (try split) <;> (try rfl); rw [State.closeTab_eq]; by_cases h1 : lineTotal (Tab.lines ‹Tab›) = 0 <;> by_cases h2 : s.free < 1 <;> simp [h1, h2, State.refuse]
@[simp] theorem forceClose_tu_holds (n : Nat) (s : State) : (forceClose n s).1.tu.holds = s.tu.holds := by
  unfold forceClose; split <;> (try dsimp only) <;> (try split) <;> (try rfl); rw [State.closeTab_eq]; by_cases h1 : lineTotal (Tab.lines ‹Tab›) = 0 <;> by_cases h2 : s.free < 1 <;> simp [h1, h2, State.refuse]
@[simp] theorem forceClose_cc (n : Nat) (s : State) : (forceClose n s).1.cc = s.cc := by
  unfold forceClose; split <;> (try dsimp only) <;> (try split) <;> (try rfl); rw [State.closeTab_eq]; by_cases h1 : lineTotal (Tab.lines ‹Tab›) = 0 <;> by_cases h2 : s.free < 1 <;> simp [h1, h2, State.refuse]
@[simp] theorem forceClose_pq_unposted (n : Nat) (s : State) : (forceClose n s).1.pq.unposted = s.pq.unposted := by
  unfold forceClose; split <;> (try dsimp only) <;> (try split) <;> (try rfl); rw [State.closeTab_eq]; by_cases h1 : lineTotal (Tab.lines ‹Tab›) = 0 <;> by_cases h2 : s.free < 1 <;> simp [h1, h2, State.refuse]
@[simp] theorem forceClose_oe (n : Nat) (s : State) : (forceClose n s).1.oe = s.oe := by
  unfold forceClose; split <;> (try dsimp only) <;> (try split) <;> (try rfl); rw [State.closeTab_eq]; by_cases h1 : lineTotal (Tab.lines ‹Tab›) = 0 <;> by_cases h2 : s.free < 1 <;> simp [h1, h2, State.refuse]
@[simp] theorem forceClose_nfu_enables (n : Nat) (s : State) : (forceClose n s).1.nfu.enables = s.nfu.enables := by
  unfold forceClose; split <;> (try dsimp only) <;> (try split) <;> (try rfl); rw [State.closeTab_eq]; by_cases h1 : lineTotal (Tab.lines ‹Tab›) = 0 <;> by_cases h2 : s.free < 1 <;> simp [h1, h2, State.refuse]
@[simp] theorem forceClose_nfu_status (n : Nat) (s : State) : (forceClose n s).1.nfu.status = s.nfu.status := by
  unfold forceClose; split <;> (try dsimp only) <;> (try split) <;> (try rfl); rw [State.closeTab_eq]; by_cases h1 : lineTotal (Tab.lines ‹Tab›) = 0 <;> by_cases h2 : s.free < 1 <;> simp [h1, h2, State.refuse]
@[simp] theorem forceClose_nfu_masks (n : Nat) (s : State) : (forceClose n s).1.nfu.masks = s.nfu.masks := by
  unfold forceClose; split <;> (try dsimp only) <;> (try split) <;> (try rfl); rw [State.closeTab_eq]; by_cases h1 : lineTotal (Tab.lines ‹Tab›) = 0 <;> by_cases h2 : s.free < 1 <;> simp [h1, h2, State.refuse]
@[simp] theorem forceClose_nfu_severe (n : Nat) (s : State) : (forceClose n s).1.nfu.severe = s.nfu.severe := by
  unfold forceClose; split <;> (try dsimp only) <;> (try split) <;> (try rfl); rw [State.closeTab_eq]; by_cases h1 : lineTotal (Tab.lines ‹Tab›) = 0 <;> by_cases h2 : s.free < 1 <;> simp [h1, h2, State.refuse]
@[simp] theorem forceClose_nfu_first (n : Nat) (s : State) : (forceClose n s).1.nfu.first = s.nfu.first := by
  unfold forceClose; split <;> (try dsimp only) <;> (try split) <;> (try rfl); rw [State.closeTab_eq]; by_cases h1 : lineTotal (Tab.lines ‹Tab›) = 0 <;> by_cases h2 : s.free < 1 <;> simp [h1, h2, State.refuse]
@[simp] theorem forceClose_nfu_refusalRecord (n : Nat) (s : State) : (forceClose n s).1.nfu.refusalRecord = s.nfu.refusalRecord := by
  unfold forceClose; split <;> (try dsimp only) <;> (try split) <;> (try rfl); rw [State.closeTab_eq]; by_cases h1 : lineTotal (Tab.lines ‹Tab›) = 0 <;> by_cases h2 : s.free < 1 <;> simp [h1, h2, State.refuse]
@[simp] theorem forceClose_nfu_refusalNotice (n : Nat) (s : State) : (forceClose n s).1.nfu.refusalNotice = s.nfu.refusalNotice := by
  unfold forceClose; split <;> (try dsimp only) <;> (try split) <;> (try rfl); rw [State.closeTab_eq]; by_cases h1 : lineTotal (Tab.lines ‹Tab›) = 0 <;> by_cases h2 : s.free < 1 <;> simp [h1, h2, State.refuse]
@[simp] theorem forceClose_sck (n : Nat) (s : State) : (forceClose n s).1.sck = s.sck := by
  unfold forceClose; split <;> (try dsimp only) <;> (try split) <;> (try rfl); rw [State.closeTab_eq]; by_cases h1 : lineTotal (Tab.lines ‹Tab›) = 0 <;> by_cases h2 : s.free < 1 <;> simp [h1, h2, State.refuse]
set_option Elab.async false in
@[simp] theorem closeTab_pending (terminal : Nat) (ref : TabRef) (tip : Nat) (s : State) : (closeTab terminal ref tip s).state.pending = s.pending := by
  unfold closeTab; split <;> (try rfl); rw [State.closeTab_eq]; by_cases h1 : lineTotal (Tab.lines ‹Tab›) = 0 <;> by_cases h2 : s.free < 1 <;> simp [h1, h2, State.decline]
@[simp] theorem closeTab_tagCount (terminal : Nat) (ref : TabRef) (tip : Nat) (s : State) : (closeTab terminal ref tip s).state.tagCount = s.tagCount := by
  unfold closeTab; split <;> (try rfl); rw [State.closeTab_eq]; by_cases h1 : lineTotal (Tab.lines ‹Tab›) = 0 <;> by_cases h2 : s.free < 1 <;> simp [h1, h2, State.decline]
@[simp] theorem closeTab_pp (terminal : Nat) (ref : TabRef) (tip : Nat) (s : State) : (closeTab terminal ref tip s).state.pp = s.pp := by
  unfold closeTab; split <;> (try rfl); rw [State.closeTab_eq]; by_cases h1 : lineTotal (Tab.lines ‹Tab›) = 0 <;> by_cases h2 : s.free < 1 <;> simp [h1, h2, State.decline]
@[simp] theorem closeTab_lk (terminal : Nat) (ref : TabRef) (tip : Nat) (s : State) : (closeTab terminal ref tip s).state.lk = s.lk := by
  unfold closeTab; split <;> (try rfl); rw [State.closeTab_eq]; by_cases h1 : lineTotal (Tab.lines ‹Tab›) = 0 <;> by_cases h2 : s.free < 1 <;> simp [h1, h2, State.decline]
@[simp] theorem closeTab_ci (terminal : Nat) (ref : TabRef) (tip : Nat) (s : State) : (closeTab terminal ref tip s).state.ci = s.ci := by
  unfold closeTab; split <;> (try rfl); rw [State.closeTab_eq]; by_cases h1 : lineTotal (Tab.lines ‹Tab›) = 0 <;> by_cases h2 : s.free < 1 <;> simp [h1, h2, State.decline]
@[simp] theorem closeTab_ct (terminal : Nat) (ref : TabRef) (tip : Nat) (s : State) : (closeTab terminal ref tip s).state.ct = s.ct := by
  unfold closeTab; split <;> (try rfl); rw [State.closeTab_eq]; by_cases h1 : lineTotal (Tab.lines ‹Tab›) = 0 <;> by_cases h2 : s.free < 1 <;> simp [h1, h2, State.decline]
@[simp] theorem closeTab_pu (terminal : Nat) (ref : TabRef) (tip : Nat) (s : State) : (closeTab terminal ref tip s).state.pu = s.pu := by
  unfold closeTab; split <;> (try rfl); rw [State.closeTab_eq]; by_cases h1 : lineTotal (Tab.lines ‹Tab›) = 0 <;> by_cases h2 : s.free < 1 <;> simp [h1, h2, State.decline]
@[simp] theorem closeTab_sc (terminal : Nat) (ref : TabRef) (tip : Nat) (s : State) : (closeTab terminal ref tip s).state.sc = s.sc := by
  unfold closeTab; split <;> (try rfl); rw [State.closeTab_eq]; by_cases h1 : lineTotal (Tab.lines ‹Tab›) = 0 <;> by_cases h2 : s.free < 1 <;> simp [h1, h2, State.decline]
@[simp] theorem closeTab_tu_holds (terminal : Nat) (ref : TabRef) (tip : Nat) (s : State) : (closeTab terminal ref tip s).state.tu.holds = s.tu.holds := by
  unfold closeTab; split <;> (try rfl); rw [State.closeTab_eq]; by_cases h1 : lineTotal (Tab.lines ‹Tab›) = 0 <;> by_cases h2 : s.free < 1 <;> simp [h1, h2, State.decline]
@[simp] theorem closeTab_cc (terminal : Nat) (ref : TabRef) (tip : Nat) (s : State) : (closeTab terminal ref tip s).state.cc = s.cc := by
  unfold closeTab; split <;> (try rfl); rw [State.closeTab_eq]; by_cases h1 : lineTotal (Tab.lines ‹Tab›) = 0 <;> by_cases h2 : s.free < 1 <;> simp [h1, h2, State.decline]
@[simp] theorem closeTab_pq_unposted (terminal : Nat) (ref : TabRef) (tip : Nat) (s : State) : (closeTab terminal ref tip s).state.pq.unposted = s.pq.unposted := by
  unfold closeTab; split <;> (try rfl); rw [State.closeTab_eq]; by_cases h1 : lineTotal (Tab.lines ‹Tab›) = 0 <;> by_cases h2 : s.free < 1 <;> simp [h1, h2, State.decline]
@[simp] theorem closeTab_oe (terminal : Nat) (ref : TabRef) (tip : Nat) (s : State) : (closeTab terminal ref tip s).state.oe = s.oe := by
  unfold closeTab; split <;> (try rfl); rw [State.closeTab_eq]; by_cases h1 : lineTotal (Tab.lines ‹Tab›) = 0 <;> by_cases h2 : s.free < 1 <;> simp [h1, h2, State.decline]
@[simp] theorem closeTab_nfu_enables (terminal : Nat) (ref : TabRef) (tip : Nat) (s : State) : (closeTab terminal ref tip s).state.nfu.enables = s.nfu.enables := by
  unfold closeTab; split <;> (try rfl); rw [State.closeTab_eq]; by_cases h1 : lineTotal (Tab.lines ‹Tab›) = 0 <;> by_cases h2 : s.free < 1 <;> simp [h1, h2, State.decline]
@[simp] theorem closeTab_nfu_status (terminal : Nat) (ref : TabRef) (tip : Nat) (s : State) : (closeTab terminal ref tip s).state.nfu.status = s.nfu.status := by
  unfold closeTab; split <;> (try rfl); rw [State.closeTab_eq]; by_cases h1 : lineTotal (Tab.lines ‹Tab›) = 0 <;> by_cases h2 : s.free < 1 <;> simp [h1, h2, State.decline]
@[simp] theorem closeTab_nfu_masks (terminal : Nat) (ref : TabRef) (tip : Nat) (s : State) : (closeTab terminal ref tip s).state.nfu.masks = s.nfu.masks := by
  unfold closeTab; split <;> (try rfl); rw [State.closeTab_eq]; by_cases h1 : lineTotal (Tab.lines ‹Tab›) = 0 <;> by_cases h2 : s.free < 1 <;> simp [h1, h2, State.decline]
@[simp] theorem closeTab_nfu_severe (terminal : Nat) (ref : TabRef) (tip : Nat) (s : State) : (closeTab terminal ref tip s).state.nfu.severe = s.nfu.severe := by
  unfold closeTab; split <;> (try rfl); rw [State.closeTab_eq]; by_cases h1 : lineTotal (Tab.lines ‹Tab›) = 0 <;> by_cases h2 : s.free < 1 <;> simp [h1, h2, State.decline]
@[simp] theorem closeTab_nfu_first (terminal : Nat) (ref : TabRef) (tip : Nat) (s : State) : (closeTab terminal ref tip s).state.nfu.first = s.nfu.first := by
  unfold closeTab; split <;> (try rfl); rw [State.closeTab_eq]; by_cases h1 : lineTotal (Tab.lines ‹Tab›) = 0 <;> by_cases h2 : s.free < 1 <;> simp [h1, h2, State.decline]
@[simp] theorem closeTab_nfu_refusalRecord (terminal : Nat) (ref : TabRef) (tip : Nat) (s : State) : (closeTab terminal ref tip s).state.nfu.refusalRecord = s.nfu.refusalRecord := by
  unfold closeTab; split <;> (try rfl); rw [State.closeTab_eq]; by_cases h1 : lineTotal (Tab.lines ‹Tab›) = 0 <;> by_cases h2 : s.free < 1 <;> simp [h1, h2, State.decline]
@[simp] theorem closeTab_nfu_refusalNotice (terminal : Nat) (ref : TabRef) (tip : Nat) (s : State) : (closeTab terminal ref tip s).state.nfu.refusalNotice = s.nfu.refusalNotice := by
  unfold closeTab; split <;> (try rfl); rw [State.closeTab_eq]; by_cases h1 : lineTotal (Tab.lines ‹Tab›) = 0 <;> by_cases h2 : s.free < 1 <;> simp [h1, h2, State.decline]
@[simp] theorem closeTab_sck (terminal : Nat) (ref : TabRef) (tip : Nat) (s : State) : (closeTab terminal ref tip s).state.sck = s.sck := by
  unfold closeTab; split <;> (try rfl); rw [State.closeTab_eq]; by_cases h1 : lineTotal (Tab.lines ‹Tab›) = 0 <;> by_cases h2 : s.free < 1 <;> simp [h1, h2, State.decline]
set_option Elab.async false in
@[simp] theorem addLine_pending (terminal : Nat) (ref : TabRef) (category price quantity : Nat) (s : State) : (addLine terminal ref category price quantity s).state.pending = s.pending := by
  unfold addLine; (repeat' first | split | dsimp only) <;> simp [State.decline]
@[simp] theorem addLine_tagCount (terminal : Nat) (ref : TabRef) (category price quantity : Nat) (s : State) : (addLine terminal ref category price quantity s).state.tagCount = s.tagCount := by
  unfold addLine; (repeat' first | split | dsimp only) <;> simp [State.decline]
@[simp] theorem addLine_pp (terminal : Nat) (ref : TabRef) (category price quantity : Nat) (s : State) : (addLine terminal ref category price quantity s).state.pp = s.pp := by
  unfold addLine; (repeat' first | split | dsimp only) <;> simp [State.decline]
@[simp] theorem addLine_lk (terminal : Nat) (ref : TabRef) (category price quantity : Nat) (s : State) : (addLine terminal ref category price quantity s).state.lk = s.lk := by
  unfold addLine; (repeat' first | split | dsimp only) <;> simp [State.decline]
@[simp] theorem addLine_ci (terminal : Nat) (ref : TabRef) (category price quantity : Nat) (s : State) : (addLine terminal ref category price quantity s).state.ci = s.ci := by
  unfold addLine; (repeat' first | split | dsimp only) <;> simp [State.decline]
@[simp] theorem addLine_ct (terminal : Nat) (ref : TabRef) (category price quantity : Nat) (s : State) : (addLine terminal ref category price quantity s).state.ct = s.ct := by
  unfold addLine; (repeat' first | split | dsimp only) <;> simp [State.decline]
@[simp] theorem addLine_pu (terminal : Nat) (ref : TabRef) (category price quantity : Nat) (s : State) : (addLine terminal ref category price quantity s).state.pu = s.pu := by
  unfold addLine; (repeat' first | split | dsimp only) <;> simp [State.decline]
@[simp] theorem addLine_sc (terminal : Nat) (ref : TabRef) (category price quantity : Nat) (s : State) : (addLine terminal ref category price quantity s).state.sc = s.sc := by
  unfold addLine; (repeat' first | split | dsimp only) <;> simp [State.decline]
@[simp] theorem addLine_tu_terminals (terminal : Nat) (ref : TabRef) (category price quantity : Nat) (s : State) : (addLine terminal ref category price quantity s).state.tu.terminals = s.tu.terminals := by
  unfold addLine; (repeat' first | split | dsimp only) <;> simp [State.decline]
@[simp] theorem addLine_tu_holds (terminal : Nat) (ref : TabRef) (category price quantity : Nat) (s : State) : (addLine terminal ref category price quantity s).state.tu.holds = s.tu.holds := by
  unfold addLine; (repeat' first | split | dsimp only) <;> simp [State.decline]
@[simp] theorem addLine_cc (terminal : Nat) (ref : TabRef) (category price quantity : Nat) (s : State) : (addLine terminal ref category price quantity s).state.cc = s.cc := by
  unfold addLine; (repeat' first | split | dsimp only) <;> simp [State.decline]
@[simp] theorem addLine_pq (terminal : Nat) (ref : TabRef) (category price quantity : Nat) (s : State) : (addLine terminal ref category price quantity s).state.pq = s.pq := by
  unfold addLine; (repeat' first | split | dsimp only) <;> simp [State.decline]
@[simp] theorem addLine_oe (terminal : Nat) (ref : TabRef) (category price quantity : Nat) (s : State) : (addLine terminal ref category price quantity s).state.oe = s.oe := by
  unfold addLine; (repeat' first | split | dsimp only) <;> simp [State.decline]
@[simp] theorem addLine_nfu (terminal : Nat) (ref : TabRef) (category price quantity : Nat) (s : State) : (addLine terminal ref category price quantity s).state.nfu = s.nfu := by
  unfold addLine; (repeat' first | split | dsimp only) <;> simp [State.decline]
@[simp] theorem addLine_sck (terminal : Nat) (ref : TabRef) (category price quantity : Nat) (s : State) : (addLine terminal ref category price quantity s).state.sck = s.sck := by
  unfold addLine; (repeat' first | split | dsimp only) <;> simp [State.decline]
set_option Elab.async false in
@[simp] theorem voidLast_pending (terminal : Nat) (ref : TabRef) (s : State) : (voidLast terminal ref s).state.pending = s.pending := by
  unfold voidLast; (repeat' first | split | dsimp only) <;> simp [State.decline]
@[simp] theorem voidLast_tagCount (terminal : Nat) (ref : TabRef) (s : State) : (voidLast terminal ref s).state.tagCount = s.tagCount := by
  unfold voidLast; (repeat' first | split | dsimp only) <;> simp [State.decline]
@[simp] theorem voidLast_pp (terminal : Nat) (ref : TabRef) (s : State) : (voidLast terminal ref s).state.pp = s.pp := by
  unfold voidLast; (repeat' first | split | dsimp only) <;> simp [State.decline]
@[simp] theorem voidLast_lk (terminal : Nat) (ref : TabRef) (s : State) : (voidLast terminal ref s).state.lk = s.lk := by
  unfold voidLast; (repeat' first | split | dsimp only) <;> simp [State.decline]
@[simp] theorem voidLast_ci (terminal : Nat) (ref : TabRef) (s : State) : (voidLast terminal ref s).state.ci = s.ci := by
  unfold voidLast; (repeat' first | split | dsimp only) <;> simp [State.decline]
@[simp] theorem voidLast_ct (terminal : Nat) (ref : TabRef) (s : State) : (voidLast terminal ref s).state.ct = s.ct := by
  unfold voidLast; (repeat' first | split | dsimp only) <;> simp [State.decline]
@[simp] theorem voidLast_pu (terminal : Nat) (ref : TabRef) (s : State) : (voidLast terminal ref s).state.pu = s.pu := by
  unfold voidLast; (repeat' first | split | dsimp only) <;> simp [State.decline]
@[simp] theorem voidLast_sc (terminal : Nat) (ref : TabRef) (s : State) : (voidLast terminal ref s).state.sc = s.sc := by
  unfold voidLast; (repeat' first | split | dsimp only) <;> simp [State.decline]
@[simp] theorem voidLast_tu_terminals (terminal : Nat) (ref : TabRef) (s : State) : (voidLast terminal ref s).state.tu.terminals = s.tu.terminals := by
  unfold voidLast; (repeat' first | split | dsimp only) <;> simp [State.decline]
@[simp] theorem voidLast_tu_holds (terminal : Nat) (ref : TabRef) (s : State) : (voidLast terminal ref s).state.tu.holds = s.tu.holds := by
  unfold voidLast; (repeat' first | split | dsimp only) <;> simp [State.decline]
@[simp] theorem voidLast_cc (terminal : Nat) (ref : TabRef) (s : State) : (voidLast terminal ref s).state.cc = s.cc := by
  unfold voidLast; (repeat' first | split | dsimp only) <;> simp [State.decline]
@[simp] theorem voidLast_pq (terminal : Nat) (ref : TabRef) (s : State) : (voidLast terminal ref s).state.pq = s.pq := by
  unfold voidLast; (repeat' first | split | dsimp only) <;> simp [State.decline]
@[simp] theorem voidLast_oe (terminal : Nat) (ref : TabRef) (s : State) : (voidLast terminal ref s).state.oe = s.oe := by
  unfold voidLast; (repeat' first | split | dsimp only) <;> simp [State.decline]
@[simp] theorem voidLast_nfu (terminal : Nat) (ref : TabRef) (s : State) : (voidLast terminal ref s).state.nfu = s.nfu := by
  unfold voidLast; (repeat' first | split | dsimp only) <;> simp [State.decline]
@[simp] theorem voidLast_sck (terminal : Nat) (ref : TabRef) (s : State) : (voidLast terminal ref s).state.sck = s.sck := by
  unfold voidLast; (repeat' first | split | dsimp only) <;> simp [State.decline]

/-- R92, R93: a property that the card checks keep holds of whatever they find. -/
theorem State.cardAsk_keeps {β : Type} (g : State → β) (f : Frame) (serial : Serial) (hold : Bool) (s : State)
    (h1 : ∀ r, g (s.recordFault r) = g s) (h2 : ∀ p src, g (s.revokedUse p serial src) = g s)
    (h3 : ∀ e, g (s.sendEvidence e) = g s) :
    (∀ r, s.cardAsk f serial hold = .declined r → g r.state = g s) ∧
      ∀ s1 v p r, s.cardAsk f serial hold = .passed s1 v p r → g s1 = g s := by
  unfold State.cardAsk
  split
  · constructor
    · intro r h; cases h; exact h1 _
    · intro _ _ _ _ h; cases h
  · split
    · constructor
      · intro r h; cases h; rfl
      · intro _ _ _ _ h; cases h
    · split
      · constructor
        · intro r h; cases h; rfl
        · intro _ _ _ _ h; cases h
      · split
        · constructor
          · intro r h; cases h; exact h2 _ _
          · intro _ _ _ _ h; cases h
        · dsimp only
          split
          · constructor
            · intro r h; cases h; exact h3 _
            · intro _ _ _ _ h; cases h
          · split
            · constructor
              · intro r h; cases h
              · intro _ _ _ _ h; cases h; exact h3 _
            · constructor
              · intro r h; cases h; exact h3 _
              · intro _ _ _ _ h; cases h

set_option Elab.async false in
@[simp] theorem openTab_pending (f : Frame) (serial : Serial) (s : State) : (openTab f serial s).state.pending = s.pending := by
  have hk := State.cardAsk_keeps (fun s => s.pending) f serial true s (by intros; simp) (by intros; simp) (by intros; simp); unfold openTab; cases hc : s.cardAsk f serial true <;> rw [hc] at hk <;> simp at hk ⊢ <;> (try split) <;> (try split) <;> simp [State.decline, hk]
@[simp] theorem openTab_tagCount (f : Frame) (serial : Serial) (s : State) : (openTab f serial s).state.tagCount = s.tagCount := by
  have hk := State.cardAsk_keeps (fun s => s.tagCount) f serial true s (by intros; simp) (by intros; simp) (by intros; simp); unfold openTab; cases hc : s.cardAsk f serial true <;> rw [hc] at hk <;> simp at hk ⊢ <;> (try split) <;> (try split) <;> simp [State.decline, hk]
@[simp] theorem openTab_pp (f : Frame) (serial : Serial) (s : State) : (openTab f serial s).state.pp = s.pp := by
  have hk := State.cardAsk_keeps (fun s => s.pp) f serial true s (by intros; simp) (by intros; simp) (by intros; simp); unfold openTab; cases hc : s.cardAsk f serial true <;> rw [hc] at hk <;> simp at hk ⊢ <;> (try split) <;> (try split) <;> simp [State.decline, hk]
@[simp] theorem openTab_ci (f : Frame) (serial : Serial) (s : State) : (openTab f serial s).state.ci = s.ci := by
  have hk := State.cardAsk_keeps (fun s => s.ci) f serial true s (by intros; simp) (by intros; simp) (by intros; simp); unfold openTab; cases hc : s.cardAsk f serial true <;> rw [hc] at hk <;> simp at hk ⊢ <;> (try split) <;> (try split) <;> simp [State.decline, hk]
@[simp] theorem openTab_ct (f : Frame) (serial : Serial) (s : State) : (openTab f serial s).state.ct = s.ct := by
  have hk := State.cardAsk_keeps (fun s => s.ct) f serial true s (by intros; simp) (by intros; simp) (by intros; simp); unfold openTab; cases hc : s.cardAsk f serial true <;> rw [hc] at hk <;> simp at hk ⊢ <;> (try split) <;> (try split) <;> simp [State.decline, hk]
@[simp] theorem openTab_pu_counts (f : Frame) (serial : Serial) (s : State) : (openTab f serial s).state.pu.counts = s.pu.counts := by
  have hk := State.cardAsk_keeps (fun s => s.pu.counts) f serial true s (by intros; simp) (by intros; simp) (by intros; simp); unfold openTab; cases hc : s.cardAsk f serial true <;> rw [hc] at hk <;> simp at hk ⊢ <;> (try split) <;> (try split) <;> simp [State.decline, hk]
@[simp] theorem openTab_pu_permitWindow (f : Frame) (serial : Serial) (s : State) : (openTab f serial s).state.pu.permitWindow = s.pu.permitWindow := by
  have hk := State.cardAsk_keeps (fun s => s.pu.permitWindow) f serial true s (by intros; simp) (by intros; simp) (by intros; simp); unfold openTab; cases hc : s.cardAsk f serial true <;> rw [hc] at hk <;> simp at hk ⊢ <;> (try split) <;> (try split) <;> simp [State.decline, hk]
@[simp] theorem openTab_pu_deadline (f : Frame) (serial : Serial) (s : State) : (openTab f serial s).state.pu.deadline = s.pu.deadline := by
  have hk := State.cardAsk_keeps (fun s => s.pu.deadline) f serial true s (by intros; simp) (by intros; simp) (by intros; simp); unfold openTab; cases hc : s.cardAsk f serial true <;> rw [hc] at hk <;> simp at hk ⊢ <;> (try split) <;> (try split) <;> simp [State.decline, hk]
@[simp] theorem openTab_pu_snapshot (f : Frame) (serial : Serial) (s : State) : (openTab f serial s).state.pu.snapshot = s.pu.snapshot := by
  have hk := State.cardAsk_keeps (fun s => s.pu.snapshot) f serial true s (by intros; simp) (by intros; simp) (by intros; simp); unfold openTab; cases hc : s.cardAsk f serial true <;> rw [hc] at hk <;> simp at hk ⊢ <;> (try split) <;> (try split) <;> simp [State.decline, hk]
@[simp] theorem openTab_tu_holds (f : Frame) (serial : Serial) (s : State) : (openTab f serial s).state.tu.holds = s.tu.holds := by
  have hk := State.cardAsk_keeps (fun s => s.tu.holds) f serial true s (by intros; simp) (by intros; simp) (by intros; simp); unfold openTab; cases hc : s.cardAsk f serial true <;> rw [hc] at hk <;> simp at hk ⊢ <;> (try split) <;> (try split) <;> simp [State.decline, hk]
@[simp] theorem openTab_cc (f : Frame) (serial : Serial) (s : State) : (openTab f serial s).state.cc = s.cc := by
  have hk := State.cardAsk_keeps (fun s => s.cc) f serial true s (by intros; simp) (by intros; simp) (by intros; simp); unfold openTab; cases hc : s.cardAsk f serial true <;> rw [hc] at hk <;> simp at hk ⊢ <;> (try split) <;> (try split) <;> simp [State.decline, hk]
@[simp] theorem openTab_pq_unposted (f : Frame) (serial : Serial) (s : State) : (openTab f serial s).state.pq.unposted = s.pq.unposted := by
  have hk := State.cardAsk_keeps (fun s => s.pq.unposted) f serial true s (by intros; simp) (by intros; simp) (by intros; simp); unfold openTab; cases hc : s.cardAsk f serial true <;> rw [hc] at hk <;> simp at hk ⊢ <;> (try split) <;> (try split) <;> simp [State.decline, hk]
@[simp] theorem openTab_oe (f : Frame) (serial : Serial) (s : State) : (openTab f serial s).state.oe = s.oe := by
  have hk := State.cardAsk_keeps (fun s => s.oe) f serial true s (by intros; simp) (by intros; simp) (by intros; simp); unfold openTab; cases hc : s.cardAsk f serial true <;> rw [hc] at hk <;> simp at hk ⊢ <;> (try split) <;> (try split) <;> simp [State.decline, hk]
@[simp] theorem openTab_nfu_enables (f : Frame) (serial : Serial) (s : State) : (openTab f serial s).state.nfu.enables = s.nfu.enables := by
  have hk := State.cardAsk_keeps (fun s => s.nfu.enables) f serial true s (by intros; simp) (by intros; simp) (by intros; simp); unfold openTab; cases hc : s.cardAsk f serial true <;> rw [hc] at hk <;> simp at hk ⊢ <;> (try split) <;> (try split) <;> simp [State.decline, hk]
@[simp] theorem openTab_nfu_masks (f : Frame) (serial : Serial) (s : State) : (openTab f serial s).state.nfu.masks = s.nfu.masks := by
  have hk := State.cardAsk_keeps (fun s => s.nfu.masks) f serial true s (by intros; simp) (by intros; simp) (by intros; simp); unfold openTab; cases hc : s.cardAsk f serial true <;> rw [hc] at hk <;> simp at hk ⊢ <;> (try split) <;> (try split) <;> simp [State.decline, hk]
@[simp] theorem openTab_nfu_severe (f : Frame) (serial : Serial) (s : State) : (openTab f serial s).state.nfu.severe = s.nfu.severe := by
  have hk := State.cardAsk_keeps (fun s => s.nfu.severe) f serial true s (by intros; simp) (by intros; simp) (by intros; simp); unfold openTab; cases hc : s.cardAsk f serial true <;> rw [hc] at hk <;> simp at hk ⊢ <;> (try split) <;> (try split) <;> simp [State.decline, hk]
@[simp] theorem openTab_nfu_refusalRecord (f : Frame) (serial : Serial) (s : State) : (openTab f serial s).state.nfu.refusalRecord = s.nfu.refusalRecord := by
  have hk := State.cardAsk_keeps (fun s => s.nfu.refusalRecord) f serial true s (by intros; simp) (by intros; simp) (by intros; simp); unfold openTab; cases hc : s.cardAsk f serial true <;> rw [hc] at hk <;> simp at hk ⊢ <;> (try split) <;> (try split) <;> simp [State.decline, hk]
@[simp] theorem openTab_nfu_refusalNotice (f : Frame) (serial : Serial) (s : State) : (openTab f serial s).state.nfu.refusalNotice = s.nfu.refusalNotice := by
  have hk := State.cardAsk_keeps (fun s => s.nfu.refusalNotice) f serial true s (by intros; simp) (by intros; simp) (by intros; simp); unfold openTab; cases hc : s.cardAsk f serial true <;> rw [hc] at hk <;> simp at hk ⊢ <;> (try split) <;> (try split) <;> simp [State.decline, hk]
@[simp] theorem openTab_sck (f : Frame) (serial : Serial) (s : State) : (openTab f serial s).state.sck = s.sck := by
  have hk := State.cardAsk_keeps (fun s => s.sck) f serial true s (by intros; simp) (by intros; simp) (by intros; simp); unfold openTab; cases hc : s.cardAsk f serial true <;> rw [hc] at hk <;> simp at hk ⊢ <;> (try split) <;> (try split) <;> simp [State.decline, hk]
set_option Elab.async false in
@[simp] theorem queryBalance_pending (f : Frame) (serial : Serial) (s : State) : (queryBalance f serial s).state.pending = s.pending := by
  have hk := State.cardAsk_keeps (fun s => s.pending) f serial false s (by intros; simp) (by intros; simp) (by intros; simp); unfold queryBalance; cases hc : s.cardAsk f serial false <;> rw [hc] at hk <;> simp at hk ⊢ <;> simp [hk]
@[simp] theorem queryBalance_tagCount (f : Frame) (serial : Serial) (s : State) : (queryBalance f serial s).state.tagCount = s.tagCount := by
  have hk := State.cardAsk_keeps (fun s => s.tagCount) f serial false s (by intros; simp) (by intros; simp) (by intros; simp); unfold queryBalance; cases hc : s.cardAsk f serial false <;> rw [hc] at hk <;> simp at hk ⊢ <;> simp [hk]
@[simp] theorem queryBalance_pp (f : Frame) (serial : Serial) (s : State) : (queryBalance f serial s).state.pp = s.pp := by
  have hk := State.cardAsk_keeps (fun s => s.pp) f serial false s (by intros; simp) (by intros; simp) (by intros; simp); unfold queryBalance; cases hc : s.cardAsk f serial false <;> rw [hc] at hk <;> simp at hk ⊢ <;> simp [hk]
@[simp] theorem queryBalance_ci (f : Frame) (serial : Serial) (s : State) : (queryBalance f serial s).state.ci = s.ci := by
  have hk := State.cardAsk_keeps (fun s => s.ci) f serial false s (by intros; simp) (by intros; simp) (by intros; simp); unfold queryBalance; cases hc : s.cardAsk f serial false <;> rw [hc] at hk <;> simp at hk ⊢ <;> simp [hk]
@[simp] theorem queryBalance_ct (f : Frame) (serial : Serial) (s : State) : (queryBalance f serial s).state.ct = s.ct := by
  have hk := State.cardAsk_keeps (fun s => s.ct) f serial false s (by intros; simp) (by intros; simp) (by intros; simp); unfold queryBalance; cases hc : s.cardAsk f serial false <;> rw [hc] at hk <;> simp at hk ⊢ <;> simp [hk]
@[simp] theorem queryBalance_pu_counts (f : Frame) (serial : Serial) (s : State) : (queryBalance f serial s).state.pu.counts = s.pu.counts := by
  have hk := State.cardAsk_keeps (fun s => s.pu.counts) f serial false s (by intros; simp) (by intros; simp) (by intros; simp); unfold queryBalance; cases hc : s.cardAsk f serial false <;> rw [hc] at hk <;> simp at hk ⊢ <;> simp [hk]
@[simp] theorem queryBalance_pu_permitWindow (f : Frame) (serial : Serial) (s : State) : (queryBalance f serial s).state.pu.permitWindow = s.pu.permitWindow := by
  have hk := State.cardAsk_keeps (fun s => s.pu.permitWindow) f serial false s (by intros; simp) (by intros; simp) (by intros; simp); unfold queryBalance; cases hc : s.cardAsk f serial false <;> rw [hc] at hk <;> simp at hk ⊢ <;> simp [hk]
@[simp] theorem queryBalance_pu_deadline (f : Frame) (serial : Serial) (s : State) : (queryBalance f serial s).state.pu.deadline = s.pu.deadline := by
  have hk := State.cardAsk_keeps (fun s => s.pu.deadline) f serial false s (by intros; simp) (by intros; simp) (by intros; simp); unfold queryBalance; cases hc : s.cardAsk f serial false <;> rw [hc] at hk <;> simp at hk ⊢ <;> simp [hk]
@[simp] theorem queryBalance_pu_snapshot (f : Frame) (serial : Serial) (s : State) : (queryBalance f serial s).state.pu.snapshot = s.pu.snapshot := by
  have hk := State.cardAsk_keeps (fun s => s.pu.snapshot) f serial false s (by intros; simp) (by intros; simp) (by intros; simp); unfold queryBalance; cases hc : s.cardAsk f serial false <;> rw [hc] at hk <;> simp at hk ⊢ <;> simp [hk]
@[simp] theorem queryBalance_tu (f : Frame) (serial : Serial) (s : State) : (queryBalance f serial s).state.tu = s.tu := by
  have hk := State.cardAsk_keeps (fun s => s.tu) f serial false s (by intros; simp) (by intros; simp) (by intros; simp); unfold queryBalance; cases hc : s.cardAsk f serial false <;> rw [hc] at hk <;> simp at hk ⊢ <;> simp [hk]
@[simp] theorem queryBalance_cc (f : Frame) (serial : Serial) (s : State) : (queryBalance f serial s).state.cc = s.cc := by
  have hk := State.cardAsk_keeps (fun s => s.cc) f serial false s (by intros; simp) (by intros; simp) (by intros; simp); unfold queryBalance; cases hc : s.cardAsk f serial false <;> rw [hc] at hk <;> simp at hk ⊢ <;> simp [hk]
@[simp] theorem queryBalance_pq_unposted (f : Frame) (serial : Serial) (s : State) : (queryBalance f serial s).state.pq.unposted = s.pq.unposted := by
  have hk := State.cardAsk_keeps (fun s => s.pq.unposted) f serial false s (by intros; simp) (by intros; simp) (by intros; simp); unfold queryBalance; cases hc : s.cardAsk f serial false <;> rw [hc] at hk <;> simp at hk ⊢ <;> simp [hk]
@[simp] theorem queryBalance_oe (f : Frame) (serial : Serial) (s : State) : (queryBalance f serial s).state.oe = s.oe := by
  have hk := State.cardAsk_keeps (fun s => s.oe) f serial false s (by intros; simp) (by intros; simp) (by intros; simp); unfold queryBalance; cases hc : s.cardAsk f serial false <;> rw [hc] at hk <;> simp at hk ⊢ <;> simp [hk]
@[simp] theorem queryBalance_nfu_enables (f : Frame) (serial : Serial) (s : State) : (queryBalance f serial s).state.nfu.enables = s.nfu.enables := by
  have hk := State.cardAsk_keeps (fun s => s.nfu.enables) f serial false s (by intros; simp) (by intros; simp) (by intros; simp); unfold queryBalance; cases hc : s.cardAsk f serial false <;> rw [hc] at hk <;> simp at hk ⊢ <;> simp [hk]
@[simp] theorem queryBalance_nfu_masks (f : Frame) (serial : Serial) (s : State) : (queryBalance f serial s).state.nfu.masks = s.nfu.masks := by
  have hk := State.cardAsk_keeps (fun s => s.nfu.masks) f serial false s (by intros; simp) (by intros; simp) (by intros; simp); unfold queryBalance; cases hc : s.cardAsk f serial false <;> rw [hc] at hk <;> simp at hk ⊢ <;> simp [hk]
@[simp] theorem queryBalance_nfu_severe (f : Frame) (serial : Serial) (s : State) : (queryBalance f serial s).state.nfu.severe = s.nfu.severe := by
  have hk := State.cardAsk_keeps (fun s => s.nfu.severe) f serial false s (by intros; simp) (by intros; simp) (by intros; simp); unfold queryBalance; cases hc : s.cardAsk f serial false <;> rw [hc] at hk <;> simp at hk ⊢ <;> simp [hk]
@[simp] theorem queryBalance_nfu_refusalRecord (f : Frame) (serial : Serial) (s : State) : (queryBalance f serial s).state.nfu.refusalRecord = s.nfu.refusalRecord := by
  have hk := State.cardAsk_keeps (fun s => s.nfu.refusalRecord) f serial false s (by intros; simp) (by intros; simp) (by intros; simp); unfold queryBalance; cases hc : s.cardAsk f serial false <;> rw [hc] at hk <;> simp at hk ⊢ <;> simp [hk]
@[simp] theorem queryBalance_nfu_refusalNotice (f : Frame) (serial : Serial) (s : State) : (queryBalance f serial s).state.nfu.refusalNotice = s.nfu.refusalNotice := by
  have hk := State.cardAsk_keeps (fun s => s.nfu.refusalNotice) f serial false s (by intros; simp) (by intros; simp) (by intros; simp); unfold queryBalance; cases hc : s.cardAsk f serial false <;> rw [hc] at hk <;> simp at hk ⊢ <;> simp [hk]
@[simp] theorem queryBalance_sck (f : Frame) (serial : Serial) (s : State) : (queryBalance f serial s).state.sck = s.sck := by
  have hk := State.cardAsk_keeps (fun s => s.sck) f serial false s (by intros; simp) (by intros; simp) (by intros; simp); unfold queryBalance; cases hc : s.cardAsk f serial false <;> rw [hc] at hk <;> simp at hk ⊢ <;> simp [hk]
set_option Elab.async false in
@[simp] theorem State.sellQuick_pending (n terminal venue p : Nat) (line : Line) (c : LineCheck) (tip : Nat) (s : State) : (s.sellQuick n terminal venue p line c tip).state.pending = s.pending := by
  unfold State.sellQuick; dsimp only; rw [State.closeTab_eq]; split <;> rename_i h <;> split at h <;> (try split at h) <;> cases h <;> simp [State.decline]
@[simp] theorem State.sellQuick_tagCount (n terminal venue p : Nat) (line : Line) (c : LineCheck) (tip : Nat) (s : State) : (s.sellQuick n terminal venue p line c tip).state.tagCount = s.tagCount := by
  unfold State.sellQuick; dsimp only; rw [State.closeTab_eq]; split <;> rename_i h <;> split at h <;> (try split at h) <;> cases h <;> simp [State.decline]
@[simp] theorem State.sellQuick_pp (n terminal venue p : Nat) (line : Line) (c : LineCheck) (tip : Nat) (s : State) : (s.sellQuick n terminal venue p line c tip).state.pp = s.pp := by
  unfold State.sellQuick; dsimp only; rw [State.closeTab_eq]; split <;> rename_i h <;> split at h <;> (try split at h) <;> cases h <;> simp [State.decline]
@[simp] theorem State.sellQuick_lk (n terminal venue p : Nat) (line : Line) (c : LineCheck) (tip : Nat) (s : State) : (s.sellQuick n terminal venue p line c tip).state.lk = s.lk := by
  unfold State.sellQuick; dsimp only; rw [State.closeTab_eq]; split <;> rename_i h <;> split at h <;> (try split at h) <;> cases h <;> simp [State.decline]
@[simp] theorem State.sellQuick_ci (n terminal venue p : Nat) (line : Line) (c : LineCheck) (tip : Nat) (s : State) : (s.sellQuick n terminal venue p line c tip).state.ci = s.ci := by
  unfold State.sellQuick; dsimp only; rw [State.closeTab_eq]; split <;> rename_i h <;> split at h <;> (try split at h) <;> cases h <;> simp [State.decline]
@[simp] theorem State.sellQuick_ct (n terminal venue p : Nat) (line : Line) (c : LineCheck) (tip : Nat) (s : State) : (s.sellQuick n terminal venue p line c tip).state.ct = s.ct := by
  unfold State.sellQuick; dsimp only; rw [State.closeTab_eq]; split <;> rename_i h <;> split at h <;> (try split at h) <;> cases h <;> simp [State.decline]
@[simp] theorem State.sellQuick_pu (n terminal venue p : Nat) (line : Line) (c : LineCheck) (tip : Nat) (s : State) : (s.sellQuick n terminal venue p line c tip).state.pu = s.pu := by
  unfold State.sellQuick; dsimp only; rw [State.closeTab_eq]; split <;> rename_i h <;> split at h <;> (try split at h) <;> cases h <;> simp [State.decline]
@[simp] theorem State.sellQuick_sc (n terminal venue p : Nat) (line : Line) (c : LineCheck) (tip : Nat) (s : State) : (s.sellQuick n terminal venue p line c tip).state.sc = s.sc := by
  unfold State.sellQuick; dsimp only; rw [State.closeTab_eq]; split <;> rename_i h <;> split at h <;> (try split at h) <;> cases h <;> simp [State.decline]
@[simp] theorem State.sellQuick_tu_holds (n terminal venue p : Nat) (line : Line) (c : LineCheck) (tip : Nat) (s : State) : (s.sellQuick n terminal venue p line c tip).state.tu.holds = s.tu.holds := by
  unfold State.sellQuick; dsimp only; rw [State.closeTab_eq]; split <;> rename_i h <;> split at h <;> (try split at h) <;> cases h <;> simp [State.decline]
@[simp] theorem State.sellQuick_cc (n terminal venue p : Nat) (line : Line) (c : LineCheck) (tip : Nat) (s : State) : (s.sellQuick n terminal venue p line c tip).state.cc = s.cc := by
  unfold State.sellQuick; dsimp only; rw [State.closeTab_eq]; split <;> rename_i h <;> split at h <;> (try split at h) <;> cases h <;> simp [State.decline]
@[simp] theorem State.sellQuick_pq_unposted (n terminal venue p : Nat) (line : Line) (c : LineCheck) (tip : Nat) (s : State) : (s.sellQuick n terminal venue p line c tip).state.pq.unposted = s.pq.unposted := by
  unfold State.sellQuick; dsimp only; rw [State.closeTab_eq]; split <;> rename_i h <;> split at h <;> (try split at h) <;> cases h <;> simp [State.decline]
@[simp] theorem State.sellQuick_oe (n terminal venue p : Nat) (line : Line) (c : LineCheck) (tip : Nat) (s : State) : (s.sellQuick n terminal venue p line c tip).state.oe = s.oe := by
  unfold State.sellQuick; dsimp only; rw [State.closeTab_eq]; split <;> rename_i h <;> split at h <;> (try split at h) <;> cases h <;> simp [State.decline]
@[simp] theorem State.sellQuick_nfu_enables (n terminal venue p : Nat) (line : Line) (c : LineCheck) (tip : Nat) (s : State) : (s.sellQuick n terminal venue p line c tip).state.nfu.enables = s.nfu.enables := by
  unfold State.sellQuick; dsimp only; rw [State.closeTab_eq]; split <;> rename_i h <;> split at h <;> (try split at h) <;> cases h <;> simp [State.decline]
@[simp] theorem State.sellQuick_nfu_status (n terminal venue p : Nat) (line : Line) (c : LineCheck) (tip : Nat) (s : State) : (s.sellQuick n terminal venue p line c tip).state.nfu.status = s.nfu.status := by
  unfold State.sellQuick; dsimp only; rw [State.closeTab_eq]; split <;> rename_i h <;> split at h <;> (try split at h) <;> cases h <;> simp [State.decline]
@[simp] theorem State.sellQuick_nfu_masks (n terminal venue p : Nat) (line : Line) (c : LineCheck) (tip : Nat) (s : State) : (s.sellQuick n terminal venue p line c tip).state.nfu.masks = s.nfu.masks := by
  unfold State.sellQuick; dsimp only; rw [State.closeTab_eq]; split <;> rename_i h <;> split at h <;> (try split at h) <;> cases h <;> simp [State.decline]
@[simp] theorem State.sellQuick_nfu_severe (n terminal venue p : Nat) (line : Line) (c : LineCheck) (tip : Nat) (s : State) : (s.sellQuick n terminal venue p line c tip).state.nfu.severe = s.nfu.severe := by
  unfold State.sellQuick; dsimp only; rw [State.closeTab_eq]; split <;> rename_i h <;> split at h <;> (try split at h) <;> cases h <;> simp [State.decline]
@[simp] theorem State.sellQuick_nfu_first (n terminal venue p : Nat) (line : Line) (c : LineCheck) (tip : Nat) (s : State) : (s.sellQuick n terminal venue p line c tip).state.nfu.first = s.nfu.first := by
  unfold State.sellQuick; dsimp only; rw [State.closeTab_eq]; split <;> rename_i h <;> split at h <;> (try split at h) <;> cases h <;> simp [State.decline]
@[simp] theorem State.sellQuick_nfu_refusalRecord (n terminal venue p : Nat) (line : Line) (c : LineCheck) (tip : Nat) (s : State) : (s.sellQuick n terminal venue p line c tip).state.nfu.refusalRecord = s.nfu.refusalRecord := by
  unfold State.sellQuick; dsimp only; rw [State.closeTab_eq]; split <;> rename_i h <;> split at h <;> (try split at h) <;> cases h <;> simp [State.decline]
@[simp] theorem State.sellQuick_nfu_refusalNotice (n terminal venue p : Nat) (line : Line) (c : LineCheck) (tip : Nat) (s : State) : (s.sellQuick n terminal venue p line c tip).state.nfu.refusalNotice = s.nfu.refusalNotice := by
  unfold State.sellQuick; dsimp only; rw [State.closeTab_eq]; split <;> rename_i h <;> split at h <;> (try split at h) <;> cases h <;> simp [State.decline]
@[simp] theorem State.sellQuick_sck (n terminal venue p : Nat) (line : Line) (c : LineCheck) (tip : Nat) (s : State) : (s.sellQuick n terminal venue p line c tip).state.sck = s.sck := by
  unfold State.sellQuick; dsimp only; rw [State.closeTab_eq]; split <;> rename_i h <;> split at h <;> (try split at h) <;> cases h <;> simp [State.decline]
set_option Elab.async false in
@[simp] theorem quickSale_pending (f : Frame) (serial : Serial) (category price quantity tip : Nat) (s : State) : (quickSale f serial category price quantity tip s).state.pending = s.pending := by
  have hk := State.cardAsk_keeps (fun s => s.pending) f serial true s (by intros; simp) (by intros; simp) (by intros; simp); unfold quickSale; cases hc : s.cardAsk f serial true <;> rw [hc] at hk <;> simp at hk ⊢ <;> (repeat' first | split | dsimp only) <;> simp [State.decline, hk]
@[simp] theorem quickSale_tagCount (f : Frame) (serial : Serial) (category price quantity tip : Nat) (s : State) : (quickSale f serial category price quantity tip s).state.tagCount = s.tagCount := by
  have hk := State.cardAsk_keeps (fun s => s.tagCount) f serial true s (by intros; simp) (by intros; simp) (by intros; simp); unfold quickSale; cases hc : s.cardAsk f serial true <;> rw [hc] at hk <;> simp at hk ⊢ <;> (repeat' first | split | dsimp only) <;> simp [State.decline, hk]
@[simp] theorem quickSale_pp (f : Frame) (serial : Serial) (category price quantity tip : Nat) (s : State) : (quickSale f serial category price quantity tip s).state.pp = s.pp := by
  have hk := State.cardAsk_keeps (fun s => s.pp) f serial true s (by intros; simp) (by intros; simp) (by intros; simp); unfold quickSale; cases hc : s.cardAsk f serial true <;> rw [hc] at hk <;> simp at hk ⊢ <;> (repeat' first | split | dsimp only) <;> simp [State.decline, hk]
@[simp] theorem quickSale_ci (f : Frame) (serial : Serial) (category price quantity tip : Nat) (s : State) : (quickSale f serial category price quantity tip s).state.ci = s.ci := by
  have hk := State.cardAsk_keeps (fun s => s.ci) f serial true s (by intros; simp) (by intros; simp) (by intros; simp); unfold quickSale; cases hc : s.cardAsk f serial true <;> rw [hc] at hk <;> simp at hk ⊢ <;> (repeat' first | split | dsimp only) <;> simp [State.decline, hk]
@[simp] theorem quickSale_ct (f : Frame) (serial : Serial) (category price quantity tip : Nat) (s : State) : (quickSale f serial category price quantity tip s).state.ct = s.ct := by
  have hk := State.cardAsk_keeps (fun s => s.ct) f serial true s (by intros; simp) (by intros; simp) (by intros; simp); unfold quickSale; cases hc : s.cardAsk f serial true <;> rw [hc] at hk <;> simp at hk ⊢ <;> (repeat' first | split | dsimp only) <;> simp [State.decline, hk]
@[simp] theorem quickSale_pu_counts (f : Frame) (serial : Serial) (category price quantity tip : Nat) (s : State) : (quickSale f serial category price quantity tip s).state.pu.counts = s.pu.counts := by
  have hk := State.cardAsk_keeps (fun s => s.pu.counts) f serial true s (by intros; simp) (by intros; simp) (by intros; simp); unfold quickSale; cases hc : s.cardAsk f serial true <;> rw [hc] at hk <;> simp at hk ⊢ <;> (repeat' first | split | dsimp only) <;> simp [State.decline, hk]
@[simp] theorem quickSale_pu_permitWindow (f : Frame) (serial : Serial) (category price quantity tip : Nat) (s : State) : (quickSale f serial category price quantity tip s).state.pu.permitWindow = s.pu.permitWindow := by
  have hk := State.cardAsk_keeps (fun s => s.pu.permitWindow) f serial true s (by intros; simp) (by intros; simp) (by intros; simp); unfold quickSale; cases hc : s.cardAsk f serial true <;> rw [hc] at hk <;> simp at hk ⊢ <;> (repeat' first | split | dsimp only) <;> simp [State.decline, hk]
@[simp] theorem quickSale_pu_deadline (f : Frame) (serial : Serial) (category price quantity tip : Nat) (s : State) : (quickSale f serial category price quantity tip s).state.pu.deadline = s.pu.deadline := by
  have hk := State.cardAsk_keeps (fun s => s.pu.deadline) f serial true s (by intros; simp) (by intros; simp) (by intros; simp); unfold quickSale; cases hc : s.cardAsk f serial true <;> rw [hc] at hk <;> simp at hk ⊢ <;> (repeat' first | split | dsimp only) <;> simp [State.decline, hk]
@[simp] theorem quickSale_pu_snapshot (f : Frame) (serial : Serial) (category price quantity tip : Nat) (s : State) : (quickSale f serial category price quantity tip s).state.pu.snapshot = s.pu.snapshot := by
  have hk := State.cardAsk_keeps (fun s => s.pu.snapshot) f serial true s (by intros; simp) (by intros; simp) (by intros; simp); unfold quickSale; cases hc : s.cardAsk f serial true <;> rw [hc] at hk <;> simp at hk ⊢ <;> (repeat' first | split | dsimp only) <;> simp [State.decline, hk]
@[simp] theorem quickSale_tu_holds (f : Frame) (serial : Serial) (category price quantity tip : Nat) (s : State) : (quickSale f serial category price quantity tip s).state.tu.holds = s.tu.holds := by
  have hk := State.cardAsk_keeps (fun s => s.tu.holds) f serial true s (by intros; simp) (by intros; simp) (by intros; simp); unfold quickSale; cases hc : s.cardAsk f serial true <;> rw [hc] at hk <;> simp at hk ⊢ <;> (repeat' first | split | dsimp only) <;> simp [State.decline, hk]
@[simp] theorem quickSale_cc (f : Frame) (serial : Serial) (category price quantity tip : Nat) (s : State) : (quickSale f serial category price quantity tip s).state.cc = s.cc := by
  have hk := State.cardAsk_keeps (fun s => s.cc) f serial true s (by intros; simp) (by intros; simp) (by intros; simp); unfold quickSale; cases hc : s.cardAsk f serial true <;> rw [hc] at hk <;> simp at hk ⊢ <;> (repeat' first | split | dsimp only) <;> simp [State.decline, hk]
@[simp] theorem quickSale_pq_unposted (f : Frame) (serial : Serial) (category price quantity tip : Nat) (s : State) : (quickSale f serial category price quantity tip s).state.pq.unposted = s.pq.unposted := by
  have hk := State.cardAsk_keeps (fun s => s.pq.unposted) f serial true s (by intros; simp) (by intros; simp) (by intros; simp); unfold quickSale; cases hc : s.cardAsk f serial true <;> rw [hc] at hk <;> simp at hk ⊢ <;> (repeat' first | split | dsimp only) <;> simp [State.decline, hk]
@[simp] theorem quickSale_oe (f : Frame) (serial : Serial) (category price quantity tip : Nat) (s : State) : (quickSale f serial category price quantity tip s).state.oe = s.oe := by
  have hk := State.cardAsk_keeps (fun s => s.oe) f serial true s (by intros; simp) (by intros; simp) (by intros; simp); unfold quickSale; cases hc : s.cardAsk f serial true <;> rw [hc] at hk <;> simp at hk ⊢ <;> (repeat' first | split | dsimp only) <;> simp [State.decline, hk]
@[simp] theorem quickSale_nfu_enables (f : Frame) (serial : Serial) (category price quantity tip : Nat) (s : State) : (quickSale f serial category price quantity tip s).state.nfu.enables = s.nfu.enables := by
  have hk := State.cardAsk_keeps (fun s => s.nfu.enables) f serial true s (by intros; simp) (by intros; simp) (by intros; simp); unfold quickSale; cases hc : s.cardAsk f serial true <;> rw [hc] at hk <;> simp at hk ⊢ <;> (repeat' first | split | dsimp only) <;> simp [State.decline, hk]
@[simp] theorem quickSale_nfu_masks (f : Frame) (serial : Serial) (category price quantity tip : Nat) (s : State) : (quickSale f serial category price quantity tip s).state.nfu.masks = s.nfu.masks := by
  have hk := State.cardAsk_keeps (fun s => s.nfu.masks) f serial true s (by intros; simp) (by intros; simp) (by intros; simp); unfold quickSale; cases hc : s.cardAsk f serial true <;> rw [hc] at hk <;> simp at hk ⊢ <;> (repeat' first | split | dsimp only) <;> simp [State.decline, hk]
@[simp] theorem quickSale_nfu_severe (f : Frame) (serial : Serial) (category price quantity tip : Nat) (s : State) : (quickSale f serial category price quantity tip s).state.nfu.severe = s.nfu.severe := by
  have hk := State.cardAsk_keeps (fun s => s.nfu.severe) f serial true s (by intros; simp) (by intros; simp) (by intros; simp); unfold quickSale; cases hc : s.cardAsk f serial true <;> rw [hc] at hk <;> simp at hk ⊢ <;> (repeat' first | split | dsimp only) <;> simp [State.decline, hk]
@[simp] theorem quickSale_nfu_refusalRecord (f : Frame) (serial : Serial) (category price quantity tip : Nat) (s : State) : (quickSale f serial category price quantity tip s).state.nfu.refusalRecord = s.nfu.refusalRecord := by
  have hk := State.cardAsk_keeps (fun s => s.nfu.refusalRecord) f serial true s (by intros; simp) (by intros; simp) (by intros; simp); unfold quickSale; cases hc : s.cardAsk f serial true <;> rw [hc] at hk <;> simp at hk ⊢ <;> (repeat' first | split | dsimp only) <;> simp [State.decline, hk]
@[simp] theorem quickSale_nfu_refusalNotice (f : Frame) (serial : Serial) (category price quantity tip : Nat) (s : State) : (quickSale f serial category price quantity tip s).state.nfu.refusalNotice = s.nfu.refusalNotice := by
  have hk := State.cardAsk_keeps (fun s => s.nfu.refusalNotice) f serial true s (by intros; simp) (by intros; simp) (by intros; simp); unfold quickSale; cases hc : s.cardAsk f serial true <;> rw [hc] at hk <;> simp at hk ⊢ <;> (repeat' first | split | dsimp only) <;> simp [State.decline, hk]
@[simp] theorem quickSale_sck (f : Frame) (serial : Serial) (category price quantity tip : Nat) (s : State) : (quickSale f serial category price quantity tip s).state.sck = s.sck := by
  have hk := State.cardAsk_keeps (fun s => s.sck) f serial true s (by intros; simp) (by intros; simp) (by intros; simp); unfold quickSale; cases hc : s.cardAsk f serial true <;> rw [hc] at hk <;> simp at hk ⊢ <;> (repeat' first | split | dsimp only) <;> simp [State.decline, hk]

end Sys2Proof.Machine
end

