-- ==== Sys2Proof/Laws/Table.lean ====
section
/-! SUPPORT. Reading a sparse table after writing it, and the canonical form that every write keeps. -/

namespace Sys2Proof.Machine

variable {α : Type}

/-! ### Read after write -/

theorem find?_insert (t : Table α) (k j : Nat) (a : α) :
    find? (insert t k a) j = if j = k then some a else find? t j := by
  induction t with
  | nil => by_cases h : k = j <;> simp [insert, find?, h, eq_comm]
  | cons e rest ih =>
    obtain ⟨n, b⟩ := e
    unfold insert
    split
    · by_cases h : j = k
      · simp [find?, h]
      · simp only [find?, h, if_neg (Ne.symm h), if_false]
    · split
      · rename_i h1 h2
        by_cases h : k = j <;> simp_all [find?]
        intro h3; exact absurd h3.symm h
      · by_cases h : n = j <;> simp_all [find?]
        intro h3; omega

theorem find?_erase (t : Table α) (k j : Nat) : find? (erase t k) j = if j = k then none else find? t j := by
  induction t with
  | nil => simp [erase, find?]
  | cons e rest ih =>
    obtain ⟨n, b⟩ := e
    unfold erase at ih ⊢
    by_cases h : n = k
    · subst h
      by_cases h2 : j = n
      · subst h2; simpa [List.filter, find?] using ih
      · simp only [List.filter, ne_eq, not_true_eq_false, decide_false, ih, find?, if_neg h2]
        rw [if_neg (fun x => h2 x.symm)]
    · by_cases h2 : n = j <;> simp_all [List.filter, find?]

@[simp] theorem find?_insert_self (t : Table α) (k : Nat) (a : α) : find? (insert t k a) k = some a := by
  simp [find?_insert]

theorem find?_insert_ne (t : Table α) {k j : Nat} (a : α) (h : j ≠ k) : find? (insert t k a) j = find? t j := by
  simp [find?_insert, h]

@[simp] theorem find?_erase_self (t : Table α) (k : Nat) : find? (erase t k) k = none := by
  simp [find?_erase]

theorem find?_mapRecords (f : α → α) (t : Table α) (k : Nat) : find? (mapRecords f t) k = (find? t k).map f := by
  induction t with
  | nil => rfl
  | cons e rest ih =>
    obtain ⟨n, b⟩ := e
    by_cases h : n = k
    · simp [mapRecords, find?, h]
    · have ih' : find? (List.map (fun e => (e.1, f e.2)) rest) k = Option.map f (find? rest k) := ih
      simp [mapRecords, find?, h, ih']

/-- A record written reads back, and every other record reads as before. -/
theorem getD_setD [DecidableEq α] (t : Table α) (k j : Nat) (c a : α) :
    getD (setD t k c a) j c = if j = k then a else getD t j c := by
  unfold setD getD
  split
  · rename_i h; rw [find?_erase]; split <;> simp_all
  · rw [find?_insert]; split <;> simp_all

@[simp] theorem getD_setD_self [DecidableEq α] (t : Table α) (k : Nat) (c a : α) : getD (setD t k c a) k c = a := by
  simp [getD_setD]

theorem getD_setD_ne [DecidableEq α] (t : Table α) {k j : Nat} (c a : α) (h : j ≠ k) :
    getD (setD t k c a) j c = getD t j c := by
  simp [getD_setD, h]

@[simp] theorem getD_nil (k : Nat) (c : α) : getD ([] : Table α) k c = c := rfl

/-! ### The canonical form -/

theorem rising_iff (t : Table α) : rising t = true ↔ t.Pairwise fun a b => a.1 < b.1 := by
  induction t with
  | nil => simp [rising]
  | cons e rest ih =>
    cases rest with
    | nil => simp [rising]
    | cons e2 rest2 =>
      obtain ⟨j, a⟩ := e; obtain ⟨k, b⟩ := e2
      simp only [rising, Bool.and_eq_true, decide_eq_true_eq, ih]
      constructor
      · rintro ⟨h1, h2⟩
        refine List.pairwise_cons.2 ⟨?_, h2⟩
        intro x hx
        rcases List.mem_cons.1 hx with rfl | hx
        · exact h1
        · exact lt_trans h1 ((List.pairwise_cons.1 h2).1 x hx)
      · intro h
        exact ⟨(List.pairwise_cons.1 h).1 (k, b) (by simp), (List.pairwise_cons.1 h).2⟩

theorem mem_insert {t : Table α} {k : Nat} {a : α} {e : Nat × α} (h : e ∈ insert t k a) : e = (k, a) ∨ e ∈ t := by
  induction t with
  | nil => simpa [insert] using h
  | cons x rest ih =>
    obtain ⟨j, b⟩ := x
    unfold insert at h
    split at h
    · simpa using h
    · split at h
      · rcases List.mem_cons.1 h with h | h
        · exact .inl h
        · exact .inr (List.mem_cons_of_mem _ h)
      · rcases List.mem_cons.1 h with h | h
        · exact .inr (by simp [h])
        · rcases ih h with h | h
          · exact .inl h
          · exact .inr (List.mem_cons_of_mem _ h)

theorem rising_insert {t : Table α} (k : Nat) (a : α) (h : rising t = true) : rising (insert t k a) = true := by
  rw [rising_iff] at h ⊢
  induction t with
  | nil => simp [insert]
  | cons x rest ih =>
    obtain ⟨j, b⟩ := x
    obtain ⟨h1, h2⟩ := List.pairwise_cons.1 h
    unfold insert
    split
    · rename_i hk
      refine List.pairwise_cons.2 ⟨?_, h⟩
      intro y hy
      rcases List.mem_cons.1 hy with rfl | hy
      · exact hk
      · exact lt_trans hk (h1 y hy)
    · split
      · rename_i hk _
        subst_vars
        exact List.pairwise_cons.2 ⟨fun y hy => h1 y hy, h2⟩
      · refine List.pairwise_cons.2 ⟨?_, ih h2⟩
        intro y hy
        rcases mem_insert hy with rfl | hy
        · show j < k; omega
        · exact h1 y hy

theorem rising_erase {t : Table α} (k : Nat) (h : rising t = true) : rising (erase t k) = true := by
  rw [rising_iff] at h ⊢
  exact h.filter _

theorem rising_mapRecords {t : Table α} (f : α → α) (h : rising t = true) : rising (mapRecords f t) = true := by
  rw [rising_iff] at h ⊢
  exact List.pairwise_map.2 h

/-- Every write of a record keeps the canonical form. -/
theorem canonical_setD [DecidableEq α] {t : Table α} {c : α} (k : Nat) (a : α) (h : canonical c t = true) :
    canonical c (setD t k c a) = true := by
  unfold canonical at h ⊢
  simp only [Bool.and_eq_true, List.all_eq_true, decide_eq_true_eq] at h ⊢
  unfold setD
  split
  · exact ⟨rising_erase k h.1, fun e he => h.2 e (List.mem_of_mem_filter he)⟩
  · refine ⟨rising_insert k a h.1, fun e he => ?_⟩
    rcases mem_insert he with rfl | he
    · assumption
    · exact h.2 e he

/-- Changing every record keeps the canonical form. -/
theorem canonical_mapD [DecidableEq α] {t : Table α} {c : α} (f : α → α) (h : rising t = true) :
    canonical c (mapD c f t) = true := by
  unfold canonical mapD
  simp only [Bool.and_eq_true, List.all_eq_true, decide_eq_true_eq]
  constructor
  · rw [rising_iff] at h ⊢
    refine List.Pairwise.filterMap _ ?_ h
    intro a b hab x hx y hy
    split at hx
    · simp at hx
    · split at hy
      · simp at hy
      · simp at hx hy; subst hx; subst hy; exact hab
  · intro e he
    obtain ⟨x, _, hx⟩ := List.mem_filterMap.1 he
    split at hx
    · simp at hx
    · simp at hx; subst hx; assumption

theorem find?_of_mem {t : Table α} {k : Nat} {a : α} (h : rising t = true) (hm : (k, a) ∈ t) : find? t k = some a := by
  rw [rising_iff] at h
  induction t with
  | nil => simp at hm
  | cons x rest ih =>
    obtain ⟨j, b⟩ := x
    obtain ⟨h1, h2⟩ := List.pairwise_cons.1 h
    rcases List.mem_cons.1 hm with hm | hm
    · cases hm; simp [find?]
    · have := h1 _ hm
      have hne : j ≠ k := by have : j < k := this; omega
      simp [find?, hne, ih h2 hm]

theorem mem_of_find? {t : Table α} {k : Nat} {a : α} (h : find? t k = some a) : (k, a) ∈ t := by
  induction t with
  | nil => simp [find?] at h
  | cons x rest ih =>
    obtain ⟨j, b⟩ := x
    unfold find? at h
    split at h
    · cases h; simp_all
    · exact List.mem_cons_of_mem _ (ih h)

/-- A record of a table changed throughout, where the change keeps the cleared record. -/
theorem getD_mapD [DecidableEq α] {t : Table α} {c : α} (f : α → α) (hf : f c = c) (h : rising t = true) (k : Nat) :
    getD (mapD c f t) k c = f (getD t k c) := by
  have hr : rising (mapD c f t) = true := by
    have := canonical_mapD (c := c) f h
    unfold canonical at this
    simp only [Bool.and_eq_true] at this
    exact this.1
  cases hk : find? t k with
  | none =>
    have : find? (mapD c f t) k = none := by
      cases hm : find? (mapD c f t) k with
      | none => rfl
      | some a =>
        have hmem := mem_of_find? hm
        unfold mapD at hmem
        obtain ⟨x, hx, hy⟩ := List.mem_filterMap.1 hmem
        dsimp only at hy
        split at hy
        · simp at hy
        · obtain ⟨xk, xv⟩ := x
          simp at hy
          obtain ⟨rfl, -⟩ := hy
          rw [find?_of_mem h hx] at hk
          cases hk
    simp [getD, this, hk, hf]
  | some a =>
    have hmem := mem_of_find? hk
    by_cases hc : f a = c
    · have : find? (mapD c f t) k = none := by
        cases hm : find? (mapD c f t) k with
        | none => rfl
        | some b =>
          have hmem2 := mem_of_find? hm
          unfold mapD at hmem2
          obtain ⟨x, hx, hy⟩ := List.mem_filterMap.1 hmem2
          dsimp only at hy
          split at hy
          · simp at hy
          · obtain ⟨xk, xv⟩ := x
            simp at hy
            obtain ⟨rfl, -⟩ := hy
            have := find?_of_mem h hx
            rw [hk] at this
            cases this
            contradiction
      simp [getD, this, hk, hc]
    · have : (k, f a) ∈ mapD c f t := List.mem_filterMap.2 ⟨(k, a), hmem, by simp [hc]⟩
      simp [getD, find?_of_mem hr this, hk]

end Sys2Proof.Machine
end

