-- ==== Sys2Proof/Tests/Slice0.lean ====
section
/-! SUPPORT. Tests: ill-formed terms refused, figures of the spec's own worked cases, and for each statement with
hypotheses a state and operands that meet them. -/

namespace Sys2Proof.Tests
open Sys2Proof Sys2Proof.Machine

/-! ### Well-formedness: each check refuses an ill-formed term -/

def adm (p : Nat) : Admission :=
  { person := p, cls := 0, cabin := none, master := false, holdAboard := false, areas := 0, creditLimit := 50000
    dailyLimit := none }
def row11 : VenueRow :=
  { inUse := true, serviceRate := 1800, serviceApplies := true, taxRate := 725, taxable := true, classDiscount := false }

theorem test_wf_two_bytes : (Instr.admitPerson 0 (adm 65535)).wf = true ∧ (Instr.admitPerson 0 (adm 65536)).wf = false := by
  decide
theorem test_wf_admission : (Instr.admitPerson 0 { adm 0 with cls := 256 }).wf = false ∧
    (Instr.admitPerson 0 { adm 0 with cabin := some 65536 }).wf = false ∧
    (Instr.admitPerson 0 { adm 0 with creditLimit := 4294967296 }).wf = false ∧
    (Instr.admitPerson 0 { adm 0 with dailyLimit := some 4294967296 }).wf = false := by decide
theorem test_wf_amendment :
    (Instr.amendPerson 0 0 ⟨some 256, none, none, none, none, none, none⟩).wf = false ∧
    (Instr.amendPerson 0 0 ⟨none, some (some 65536), none, none, none, none, none⟩).wf = false ∧
    (Instr.amendPerson 0 0 ⟨none, none, none, none, none, some 4294967296, none⟩).wf = false ∧
    (Instr.amendPerson 0 0 ⟨none, none, none, none, none, none, some (some 4294967296)⟩).wf = false := by decide
theorem test_wf_signed : (Instr.postPayment 0 0 (-2147483648)).wf = true ∧ (Instr.postPayment 0 0 2147483648).wf = false ∧
    (Instr.postPayment 0 0 (-2147483649)).wf = false := by decide
theorem test_wf_kind : (Instr.enrolLock 0 0 1 (.cabin 65536)).wf = false ∧
    (Instr.enrolLock 0 0 1 (.area 65536)).wf = false ∧ (Instr.enrolLock 0 256 1 (.area 0)).wf = false := by decide
theorem test_wf_list : (Instr.setSegment 0 0 0 50 5 [(65536, true)]).wf = false := by decide
theorem test_wf_venue : (Instr.setVenue 0 0 { row11 with serviceRate := 4294967296 }).wf = false ∧
    (Instr.setVenue 0 0 { row11 with taxRate := 4294967296 }).wf = false := by decide
theorem test_wf_link : (Instr.train 5).wf = true ∧ (Instr.train 6).wf = false := by decide
theorem test_wf_segment : (Instr.poll 3).wf = true ∧ (Instr.poll 4).wf = false := by decide
theorem test_wf_lane : (Instr.permitExpiry 8).wf = true ∧ (Instr.permitExpiry 0).wf = false ∧
    (Instr.permitExpiry 9).wf = false := by decide
theorem test_wf_station : (Instr.contactDeadline 0 600).wf = true ∧ (Instr.contactDeadline 0 601).wf = false ∧
    (Instr.contactDeadline 0 0).wf = false := by decide
theorem test_wf_ref : (Instr.voidLast 1 0 ⟨256, 0⟩).wf = false ∧ (Instr.voidLast 1 0 ⟨0, 256⟩).wf = false := by decide
theorem test_wf_reports : (Instr.pollReply 0 1 0 ⟨65536, ⟨false, false, false, false⟩, false, 0⟩).wf = false ∧
    (Instr.pollReply 0 1 0 ⟨0, ⟨false, false, false, false⟩, false, 256⟩).wf = false ∧
    (Instr.logReply 0 1 0 ⟨true, 0, 4294967296, true, 0⟩).wf = false ∧
    (Instr.logReply 0 1 0 ⟨true, 0, 0, true, 256⟩).wf = false := by decide

/-! ### Numbers and frames -/

set_option maxRecDepth 4000 in
/-- PRESUMED: the published check value of CRC-16 with this polynomial and preset over the digits 1 to 9. -/
theorem test_crc_digits : crc [0x31, 0x32, 0x33, 0x34, 0x35, 0x36, 0x37, 0x38, 0x39] = 0x29B1 := by decide
/-- R174: a code's number is its position in R1's table. -/
theorem test_code_numbers : Code.ok.number = 0 ∧ Code.format.number = 1 ∧ Code.granted.number = 14 ∧
    Code.closedEmpty.number = 30 ∧ Code.permit.number = 31 ∧ Code.occupantsFull.number = 45 := by decide
/-- R181, R184: kinds are numbered by their place in the tables. -/
theorem test_kind_numbers : Notice.restart.number = 0 ∧ Notice.linkChange.number = 11 ∧ Notice.refusal.number = 17 ∧
    FaultKind.frameCheck.number = 0 ∧ FaultKind.hubSilent.number = 5 ∧ FaultKind.trainingFailed.number = 8 := by decide
/-- R175: station, kind, tag, length, body, check, high byte first. -/
theorem test_frame_layout : (Frame.bytes ⟨0x0102, 0x31, 9, [1]⟩).take 6 = [1, 2, 0x31, 9, 1, 1] := by decide
/-- R176: a passage of lane 2 inward. -/
theorem test_decode_passage : decodeStation 1 ⟨2, 0x31, 9, [1]⟩ = some (.passage 2 9 .inward) := by decide
/-- R176: a presentation's serial, generation and deadbolt flag. -/
theorem test_decode_presentation :
    decodeStation 3 ⟨147, 0x10, 5, [0, 0, 0, 0, 1, 2, 0, 3, 1]⟩ = some (.presentation 1 147 5 0x102 3 true) := by decide
/-- R177, R180: SET PERMIT WINDOW is code 13 with one four-byte field. -/
theorem test_decode_command : decodeCommand 13 7 [0, 0, 0, 20] = .command (.setPermitWindow 7 20) := by decide
/-- R172: a body too short, and one too long. -/
theorem test_command_lengths : decodeCommand 13 7 [0, 0, 20] = .format ∧ decodeCommand 13 7 [0, 0, 0, 0, 20] = .format ∧
    decodeCommand 55 7 [] = .format ∧ decodeCommand 0 7 [] = .format := by decide

/-! ### A small ship -/

def guest : Person :=
  { cls := 0, cabin := some 5, master := false, holdAboard := false, reissueDue := false, areas := 1, card := some 10
    folio := { balance := 12000, creditLimit := 50000, held := 0, dailyLimit := none, dailySpend := 0, day := 1 }
    tabs := [], servings := [], presence := .aboard, ashoreSince := none, permitLane := none, lastLane := none
    lastCrossing := none }
def mate : Person := { guest with card := some 11, presence := .ashore, ashoreSince := some 900 }
def crew : Person := { guest with card := none, cabin := none, presence := .notEmbarked, folio := { guest.folio with balance := 0 } }
def lock7 : Lock :=
  { kind := .cabin 5, excluded := false, state := .online, ackGen := some 3, lastContact := some 0, dozeAtContact := 0
    status := ⟨false, false, false, false⟩, release := .normal, logCount := 0 }
def cabin5 : Cabin := { inUse := true, label := 5, occupants := [1, 2], keyGen := 3, lock := some (0, 7) }
def up : Link := { Link.cold with state := .up, attempt := 0 }
def seg0 : Segment := { Segment.cold with roster := [(7, lock7)] }
def card (p : Nat) : Card := { person := p, generation := 3, state := .active, issueTime := 0 }

/-- Persons 1 to 3, cabins 5 and 6, lock 7 of segment 0, lane 1, terminal 22 at venue 11, and VL, GL and LS0 UP. -/
def ship : State :=
  { State.reset with
    lk := [(0, up), (1, up), (2, up)]
    pt := [(1, guest), (2, mate), (3, crew)]
    ci := { entries := [(10, card 1), (11, card 2)], order := [] }
    ct := [(5, cabin5), (6, { Cabin.cold with inUse := true })]
    pu := { State.reset.pu with
      counts := { notEmbarked := 1, aboard := 1, ashore := 1, disputed := 0, disembarked := 0 }
      lanes := [(1, { Lane.cold with configured := .both, effective := .both })] }
    sc := [(0, seg0)]
    tu := { State.reset.tu with terminals := [(22, { venue := some 11, tabs := [] })] }
    cc := { State.reset.cc with venues := [(11, row11)] }
    sck := { State.reset.sck with clock := 1000, clockSet := true } }

/-- The state that a step answers. -/
def after (o : Host.Outcome State Fault Refusal) : State :=
  match o with
  | .next t => t
  | _ => State.reset

def run (i : Instr) (s : State) : State := after (exec i s)

/-- A frame at the head of a link's intake queue. -/
def arriving (s : State) (i : Instr) : State :=
  match i.stationFrame with
  | some (n, f) => s.setLink n { s.link n with intake := [f] }
  | none => s

/-! ### Worked cases of the spec -/

/-- R108's two examples. -/
theorem test_rate_steps : rateStep 1005 1000 = 101 ∧ rateStep 2995 2500 = 749 := by decide

/-- Ch. 6, a bar tab: beer, cocktail and soda at SEA, then the soda voided in PORT. -/
theorem test_bar_tab_prices : (pricesAt 1700 0 1800 0).total = 2006 ∧ (pricesAt 2995 0 1800 0).total = 3534 ∧
    (pricesAt 3445 0 1800 0).total = 4065 ∧ (pricesAt 2995 0 1800 725).total = 3790 ∧
    (pricesAt 2995 2500 1800 725).total = 2842 := by decide

/-- Ch. 6: the close with a tip request of 300, and the variant with the limit lowered to 15,500. -/
theorem test_bar_tab_close :
    let p := pricesAt 2995 0 1800 725
    let c := closeFigures p { guest.folio with held := 3790 } 3790 300
    let d := closeFigures p { guest.folio with held := 3790, creditLimit := 15500 } 3790 300
    c.tip = 300 ∧ c.amount = 4090 ∧ c.balance = 16090 ∧ c.overLimit = false ∧ c.tipClamped = false ∧
      d.tip = 0 ∧ d.tipClamped = true ∧ d.overLimit = true ∧ d.balance = 15790 := by decide

/-- Ch. 6: the serving cap at the night club: 22:02 refused, 22:06 pruned, the newest entry removed. -/
theorem test_night_club :
    let a : Serving := ⟨1265, 9, 0, 2⟩
    let b : Serving := ⟨1300, 9, 1, 1⟩
    pruneServings 1322 60 [a, b] = [a, b] ∧ pruneServings 1326 60 [a, b] = [b] ∧
      removeServing [b, ⟨1326, 9, 2, 2⟩] 9 2 = [b] := by decide

/-- Ch. 4: the contact deadline of station 44 with the doze credit. -/
theorem test_doze_credit :
    let k : Lock := { lock7 with lastContact := some 7200000, dozeAtContact := 1500000 }
    let c : Segment := { Segment.cold with window := 15 }
    Segment.deadline? { c with dozeCount := 1500000 } k = some 8100000 ∧
      Segment.deadline? { c with dozeCount := 3300000 } k = some 9900000 := by decide

/-- Ch. 1: a lost card in a shared cabin: the card, the cabin, the push list and the cabinmate. -/
theorem test_lost_card :
    let t := run (.revokeCard 1 10) ship
    (t.card? 10).map (·.state) = some (.revoked 1) ∧ t.ci.order = [10] ∧ (t.person? 1).map (·.card) = some none ∧
      (t.cabin 5).keyGen = 4 ∧ (t.seg 0).pushes = [7] ∧ (t.person? 1).map (·.reissueDue) = some false ∧
      (t.person? 2).map (·.reissueDue) = some true := by decide

/-- Ch. 3: the cabinmate's card one generation behind opens with GRANTED_REISSUE (R49). -/
theorem test_reissue_door :
    let t := run (.revokeCard 1 11) ship
    t.doorDecision (.cabin 5) 10 3 false = .grantedReissue ∧ t.doorDecision (.cabin 5) 11 3 false = .revoked ∧
      ship.doorDecision (.cabin 5) 10 3 true = .granted ∧ ship.doorDecision (.cabin 6) 10 3 false = .notOccupant ∧
      ship.doorDecision (.area 0) 10 3 false = .granted ∧ ship.doorDecision (.area 1) 10 3 false = .area ∧
      ship.doorDecision (.cabin 5) 10 4 false = .unknownCard := by decide

/-- R33, R29: a scan out and its passage: the permit, the crossing and the counts. -/
theorem test_gangway_crossing :
    let i := Instr.scan 1 4 10
    let j := Instr.passage 1 5 .outward
    let s := run i (arriving ship i)
    let t := run j (arriving s j)
    ((s.lane 1).permit.map (·.person)) = some 1 ∧ (s.lane 1).tallies.granted = 1 ∧ (t.lane 1).permit = none ∧
      (t.lane 1).tallies.outward = 1 ∧ t.pu.counts.ashore = 2 ∧ t.pu.counts.aboard = 0 ∧ t.pq.records.length = 1 := by decide

/-- R38: evidence of a door turns the person ashore into DISPUTED. -/
theorem test_dispute :
    let s : State := { ship with pu := { ship.pu with evidence := [⟨2, 950, 11, .door 0 7, false⟩] } }
    ((run .evidence s).person? 2).map (·.presence) = some .disputed ∧ (run .evidence s).pu.counts.disputed = 1 := by decide

/-- Ch. 11: a mis-fitted hub: a MINOR fault captured, a SEVERE one taking LS0 through RECOVERY to TRAINING. -/
theorem test_faults :
    let s := ship.recordFault (bareFault .frameCheck 2)
    let t := s.recordFault (bareFault .hubSilent 2)
    (s.link 2).state = .up ∧ s.nfu.first.map (·.kind) = some .frameCheck ∧ (t.link 2).state = .training ∧
      (t.link 2).history = [.recovery, .up, .down] ∧ t.nfu.first.map (·.kind) = some .frameCheck ∧
      t.nfu.status.toNat = 33 := by decide

/-- R165: the first TRAIN frame goes out at the start of the attempt; R163: a reply of the link's kind ends training. -/
theorem test_training : (run (.train 3) State.reset |>.link 3).trains = 1 ∧
    (run (.trainReply 3 2) State.reset |>.link 3).state = .up ∧
    (run (.trainReply 3 0) State.reset |>.link 3).state = .training := by decide

/-- R173: the three markers and the lead byte of an answer. -/
theorem test_answer_read : (run (.answerRead 2) ship).pp.pdo = [0xF1, 0xF1] ∧
    (run (.answerRead 2) { ship with pp := { ship.pp with port := .busy .evidence } }).pp.pdo = [0xF0, 0xF0] ∧
    ((run (.answerRead 3) (run (.setTaxState 0x1234 .port) ship)).pp.pdo) = [0xAA, 0x12, 0x34] := by decide

/-- R157, R160: a release of RESET with the MUSTER line active is a WARM reset that enters the muster state. -/
theorem test_warm_reset :
    let t := run .resetRelease { ship with sck := { ship.sck with resetLine := true, musterLevel := true, elapsed := 9 } }
    t.sck.muster = true ∧ t.sck.elapsed = 0 ∧ t.sck.clock = 1000 ∧ t.sck.lastReset = .warm ∧ (t.seg 0).wanted = true ∧
      (t.lane 1).effective = .inbound ∧ (t.link 0).state = .training := by decide

/-- R159: the filter takes a change once it has held for 50 ms, and a shorter pulse leaves nothing behind. -/
theorem test_muster_filter :
    let c : ShipClock := { ship.sck with musterLine := true, musterHold := 48 }
    c.filter.musterLevel = false ∧ c.filter.musterHold = 49 ∧ c.filter.filter.musterLevel = true ∧
      c.filter.filter.musterHold = 0 ∧ { c with musterLine := false }.filter.musterHold = 0 := by decide

/-- The MUSTER line at a level that the filter has let through. -/
def lineAt (level : Bool) (s : State) : State :=
  { s with sck := { s.sck with musterLevel := level, musterLine := level } }
/-- R159: a move of the line is not yet the muster state; the filtered level is. -/
theorem test_muster_line : (run .musterEntry ship).sck.musterLine = true ∧ (run .musterEntry ship).sck.muster = false ∧
    (run .musterEntry ship).nextDue = ship.nextDue ∧ (lineAt true ship).nextDue = some .musterEntry ∧
    (run .musterEntry (lineAt true ship)).sck.muster = true := by decide

/-- R71: an answer decided while the link is not UP is abandoned: a frame left in the intake queue of a link in DOZE. -/
theorem test_answer_in_doze :
    let i := Instr.presentation 0 7 1 10 3 true
    let s := arriving ship i
    let dozing := s.setLink 2 { s.link 2 with state := .doze }
    ((run i s).link 2).answers.length = 1 ∧ ((run i dozing).link 2).answers = [] ∧
      (run i dozing).pu.evidence.length = 1 := by decide

/-- R170, R178: the milliseconds since the last good frame take four bytes. -/
theorem test_read_link :
    let s := ship.setLink 0 { up with lastGood := some 4464 }
    (readLink 0 { s with sck := { s.sck with elapsed := 70000 } }).2.body.drop 12 = [0, 1, 0, 0] := by decide

/-! ### States and operands that meet the statements' hypotheses -/

theorem witness_ExecAnswersNext :
    ({ ship with sck := { ship.sck with supm := false } } : State).takesEvents = false ∧
      ({ ship with sck := { ship.sck with resetLine := true } } : State).takesEvents = false ∧
      actsWithoutEvents (.scan 1 0 10) = false := by decide

/-- Every link DOWN: nothing is due. -/
def quiet : State :=
  { State.reset with lk := linkNumbers.map fun n => (n, { Link.cold with state := .down, attempt := 0 }) }
theorem witness_IdleMillisecond : quiet.pending = [] ∧ quiet.unlisted? = none ∧ quiet.nextDue = none := by decide
/-- R79: the same with a link in DOZE, at the end of a second. -/
theorem witness_IdleMillisecond_doze :
    let s : State := { quiet with
      lk := setD quiet.lk 2 Link.cold { up with state := .doze }, sck := { quiet.sck with ms := 999 } }
    s.pending = [] ∧ s.unlisted? = none ∧ s.nextDue = none ∧ (s.tick.seg 0).dozeCount = 1 ∧ s.tick.sck.clock = 1 := by decide
/-- R154, R159: below the top of the elapsed base, with the MUSTER line held for 49 ms; and without SUPM. -/
theorem witness_IdleMillisecond_filter :
    let s : State := { quiet with
      sck := { quiet.sck with elapsed := 281474976710654, musterLine := true, musterHold := 49 } }
    let dark : State := { s with sck := { s.sck with supm := false } }
    s.pending = [] ∧ s.unlisted? = none ∧ s.nextDue = none ∧ s.tick.sck.elapsed = 281474976710655 ∧ s.tick.sck.musterLevel = true ∧
      dark.unlisted? = none ∧ dark.nextDue = none ∧ dark.tick.sck.elapsed = 281474976710654 ∧ dark.tick.sck.musterHold = 49 := by decide

def frames : List Instr :=
  [.presentation 3 600 1 10 3 true, .pushAck 0 7 2 4, .pollReply 0 7 2 ⟨4, ⟨true, false, true, false⟩, true, 3⟩,
   .logReply 0 7 2 ⟨true, 10, 900, true, 2⟩, .openTab 22 1 10, .addLine 22 1 ⟨0, 1⟩ 3 850 2, .voidLast 22 1 ⟨0, 1⟩,
   .closeTab 22 1 ⟨0, 1⟩ 300, .quickSale 22 1 10 3 850 2 300, .queryBalance 22 1 10, .scan 1 4 10,
   .passage 1 4 .inward]
theorem witness_FrameRoundTrip_steps : frames.all (fun i => i.wf && i.stationFrame.isSome) = true := by decide
theorem witness_FrameRoundTrip :
    let f : Frame := ⟨65535, 0x25, 0, [0, 0, 0, 0, 0, 10]⟩
    f.station < 65536 ∧ hubBodyLength 0 f.kind = some f.body.length ∧ codedFieldsOk f.kind f.body = true := by decide
theorem witness_CommandRoundTrip :
    [Instr.setCabin 7 2047 true 5, .postPayment 7 1 (-5), .armDeadline 7 5, .setSegment 7 0 1 50 5 [(7, true)],
     .readFaults 7].all (fun i => i.wf && i.command.any fun c => c.2.2.length < 65536) = true := by decide

/-- Each invariant holds after reset, and reset has a next state. -/
theorem witness_StepKeepsCounts : State.reset.countsHold ∧ ∃ t, step State.reset = .next t :=
  ⟨⟨rfl, fun st => by cases st <;> rfl⟩, _, rfl⟩
theorem witness_StepKeepsQueue : State.reset.queueHolds ∧ ∃ t, step State.reset = .next t :=
  ⟨⟨by decide, fun _ _ h => by simp [State.reset] at h⟩, _, rfl⟩
theorem witness_StepKeepsDays : State.reset.daysHold ∧ ∃ t, step State.reset = .next t :=
  ⟨⟨fun _ _ h => by simp [State.reset, State.person?, find?] at h, fun _ _ _ h => by simp [State.reset, find?] at h⟩, _, rfl⟩
theorem witness_StepKeepsFolios : State.reset.foliosHold ∧ State.reset.servingsHold ∧ ∃ t, step State.reset = .next t :=
  ⟨fun _ _ h => by simp [State.reset, State.person?, find?] at h, fun _ _ h => by simp [State.reset, State.person?, find?] at h,
    _, rfl⟩
theorem witness_StepKeepsLanes : State.reset.modesHold ∧ State.reset.permitsHold ∧ ∃ t, step State.reset = .next t :=
  ⟨⟨by decide, fun _ => rfl⟩,
    ⟨by decide, fun _ _ h => by simp [State.reset, State.lane, getD, find?, Lane.cold] at h,
      fun _ _ _ h => by simp [State.reset, State.person?, find?] at h, fun _ _ => rfl⟩, _, rfl⟩
theorem witness_StepKeepsLinks : State.reset.linksHold ∧ ∃ t, step State.reset = .next t :=
  ⟨fun _ => by simp [State.reset, State.link, getD, find?, Link.wf, Link.cold, Link.inService, Config.intakeFrames,
    Config.attempts], _, rfl⟩
theorem witness_StepKeepsRanges :
    State.reset.segmentsHold ∧ State.reset.settingsHold ∧ State.reset.clocksHold ∧ ∃ t, step State.reset = .next t :=
  ⟨⟨by decide, fun _ => by simp [State.reset, State.seg, getD, find?, Segment.wf, Segment.cold, Config.stations,
      Config.unreachableLimit]⟩,
    by simp [State.settingsHold, State.reset, State.venue, State.classRow, getD, find?, coldVenue, ClassRow.cold],
    ⟨by decide, by decide, by decide, by decide⟩, _, rfl⟩
theorem witness_StepKeepsCards : State.reset.cardsHold ∧ ∃ t, step State.reset = .next t :=
  ⟨by simp [State.cardsHold, State.reset, State.card?, State.person?, find?, rising, Config.cardEntries], _, rfl⟩
theorem witness_StepKeepsCabins : State.reset.cabinsHold ∧ ∃ t, step State.reset = .next t :=
  ⟨by simp [State.cabinsHold, State.reset, State.cabin, State.person?, getD, find?, canonical, rising, Cabin.cold], _, rfl⟩
theorem witness_StepKeepsPushes :
    State.reset.tablesCanonical = true ∧ State.reset.pushesHold ∧ ∃ t, step State.reset = .next t :=
  ⟨by decide, by simp [State.pushesHold, State.reset, State.cabin, State.lock?, State.seg, getD, find?, Cabin.cold,
    Segment.cold], _, rfl⟩
theorem witness_StepKeepsTabs :
    State.reset.tablesCanonical = true ∧ State.reset.tabsHold ∧ ∃ t, step State.reset = .next t :=
  ⟨by decide, by simp [State.tabsHold, State.refsOpen, State.reset, State.slot, State.person?, State.terminal, getD, find?,
    Slot.cold, Terminal.cold, Config.terminalTabs], _, rfl⟩
theorem witness_StepKeepsTables : ship.tablesCanonical = true ∧ ∃ t, step ship = .next t := ⟨by decide, _, rfl⟩

/-- The queue entirely full. -/
def fullQueue (s : State) : State :=
  { s with pq := { s.pq with records := List.replicate 4096 ⟨0, 0, none, 1, .folioFinal 0⟩ } }
theorem witness_SetCabinWrites : ship.accepts (.setCabin 1 2047 true 7) = true := by decide
/-- Cabin 6 with six occupants, no longer in use, and at the last key generation. -/
def ship6 : State := ship.setCabin 6 { Cabin.cold with inUse := true, occupants := [11, 12, 13, 14, 15, 16] }
def ship6Unused : State := ship.setCabin 6 Cabin.cold
def ship6Last : State := ship.setCabin 6 { Cabin.cold with inUse := true, keyGen := 65535 }
theorem witness_AdmitPersonCreates :
    let a : Admission := { adm 8191 with cls := 7, cabin := some 6, creditLimit := 999999999, dailyLimit := some 999999999 }
    ship.accepts (.admitPerson 1 a) = true ∧ a.person ≤ 8191 ∧ a.cls ≤ 7 ∧ (ship.cabin 6).inUse = true ∧
      (ship.cabin 6).occupants.length < 6 ∧ a.creditLimit ≤ 999999999 ∧ ship.person? 8191 = none ∧
      6 ≤ (ship6.cabin 6).occupants.length ∧ (ship6.cabin 6).inUse = true ∧ ship6.person? 8191 = none ∧
      (ship6Unused.cabin 6).inUse = false ∧ ship6Unused.person? 8191 = none ∧
      [adm 8192, { a with cls := 8 }, { a with cabin := some 2048 }, { a with creditLimit := 1000000000 },
       { a with dailyLimit := some 1000000000 }, adm 1].all (fun b => ship.accepts (.admitPerson 1 b)) = true ∧
      ship.person? 1 ≠ none := by decide
/-- Named fields alone; a move with other fields; absent; a move barred, to a full cabin, and to one not in use. -/
theorem witness_AmendPersonWrites :
    let fields : Amendment := ⟨some 7, none, some true, none, none, some 999999999, some (some 999999999)⟩
    let going (c : Option Nat) : Amendment := { fields with cabin := some c }
    [fields, going (some 6), going (some 5), going none, going (some 2048), { fields with cls := some 8 }].all
        (fun a => ship.accepts (.amendPerson 1 1 a)) = true ∧
      ship.person? 1 = some guest ∧ guest.cabin = some 5 ∧ guest.presence ≠ .disembarked ∧
      (ship.cabin 6).inUse = true ∧ (ship.cabin 6).occupants.length < 6 ∧ ship.person? 8191 = none ∧
      ((run (.amendPerson 1 3 (going none)) ship).person? 3).isSome = true ∧ crew.cabin = none ∧
      (ship6.person? 1 = some guest ∧ 6 ≤ (ship6.cabin 6).occupants.length) ∧
      (ship6Unused.person? 1 = some guest ∧ (ship6Unused.cabin 6).inUse = false) ∧
      (ship.setPerson 3 { crew with presence := .disembarked }).person? 3 =
        some { crew with presence := .disembarked } := by decide
/-- R14: the occupant whom a person leaves behind in a rekeyed cabin is due for a reissue; one of another is not. -/
theorem test_left_behind :
    let t := run (.amendPerson 1 1 ⟨none, some none, none, none, none, none, none⟩) ship
    (t.person? 2).map (·.reissueDue) = some true ∧ (t.person? 3).map (·.reissueDue) = some false ∧
      (t.cabin 5).keyGen = 4 ∧ (t.cabin 5).occupants = [2] := by decide
theorem witness_IssueCardIssues :
    ship.accepts (.issueCard 1 3 12) = true ∧ ship.person? 3 = some crew ∧ crew.presence ≠ .disembarked ∧
      crew.card = none ∧ ship.card? 12 = none ∧ ship.ci.entries.length < 12288 ∧
      ship.person? 1 = some guest ∧ guest.card = some 10 ∧ ship.card? 10 = some (card 1) ∧ (card 1).person = 1 ∧
      rising ship.ci.entries = true ∧ ship.accepts (.issueCard 1 8192 12) = true ∧ ship.person? 8191 = none ∧
      ((ship.setPerson 3 { crew with presence := .disembarked }).person? 3).map (·.presence) = some .disembarked ∧
      ship.card? 11 ≠ none := by decide
/-- A full index: 12,288 entries, with and without a REVOKED one. -/
def fullIndex (order : List Serial) : State := { ship with
  ci := { entries := (List.range' 10 12288).map fun n => (n, if n = 10 then card 1 else { card 2 with state := .revoked 1 })
          order := order } }
theorem witness_IssueCardIssues_full :
    (∀ order, 12288 ≤ (fullIndex order).ci.entries.length) ∧ (∀ order, (fullIndex order).person? 3 = some crew) ∧
      (fullIndex []).ci.order = [] ∧ (fullIndex [20]).ci.order = [20] :=
  ⟨fun _ => by simp [fullIndex], fun _ => rfl, rfl, rfl⟩
theorem rising_range (g : Nat → Card) (n a : Nat) : rising ((List.range' a n).map fun k => (k, g k)) = true := by
  induction n generalizing a with
  | zero => rfl
  | succ n ih =>
    rw [List.range'_succ, List.map_cons]
    cases n with
    | zero => rfl
    | succ n =>
      have := ih (a + 1)
      rw [List.range'_succ, List.map_cons] at this ⊢
      simp [rising, this]
/-- The card of person 1 replaced while the index is full. -/
theorem witness_IssueCardIssues_replace : (fullIndex [20]).person? 1 = some guest ∧ guest.card = some 10 ∧
    (fullIndex [20]).card? 10 = some (card 1) ∧ (card 1).person = 1 ∧ rising (fullIndex [20]).ci.entries = true :=
  ⟨rfl, rfl, rfl, rfl, rising_range _ _ _⟩
theorem witness_RevokeCardRevokes : ship.accepts (.revokeCard 1 10) = true ∧ ship.card? 12 = none ∧
    ship.card? 10 = some (card 1) ∧ (card 1).state = .active ∧ ship.person? 1 = some guest ∧
    ((run (.revokeCard 1 10) ship).card? 10).map (·.state) = some (.revoked 1) := by decide
theorem witness_RekeyCabinRekeys : ship.accepts (.rekeyCabin 1 5) = true ∧ (ship.cabin 5).inUse = true ∧
    (ship.cabin 5).keyGen < 65535 ∧ ship.accepts (.rekeyCabin 1 2048) = true ∧ (ship.cabin 2047).inUse = false ∧
    (ship6Last.cabin 6).inUse = true ∧ 65535 ≤ (ship6Last.cabin 6).keyGen := by decide
theorem witness_ReleasePersonFrees :
    let owing : State := ship.setPerson 3 { crew with folio := { crew.folio with balance := -5 } }
    ship.accepts (.releasePerson 1 3 false) = true ∧ ship.person? 3 = some crew ∧ crew.presence = .notEmbarked ∧
      crew.tabs = [] ∧ crew.permitLane = none ∧ crew.folio.balance = 0 ∧ crew.card = none ∧
      (owing.person? 3).map (·.folio.balance) = some (-5) ∧ 1 ≤ owing.room := by decide
/-- R18: each refusal, by what the person's record holds. -/
theorem witness_ReleasePersonFrees_refused :
    let kept (r : Person) : State := ship.setPerson 3 r
    let owing : Person := { crew with folio := { crew.folio with balance := -5 } }
    ship.accepts (.releasePerson 1 8192 false) = true ∧ ship.person? 8191 = none ∧ ship.person? 1 = some guest ∧
      ¬(guest.presence = .notEmbarked ∨ guest.presence = .disembarked) ∧
      [{ crew with tabs := [⟨0, 1⟩] }, { crew with permitLane := some 1 }, owing].all
        (fun r => (kept r).person? 3 = some r) = true ∧
      (kept owing).accepts (.releasePerson 1 3 true) = true := by decide
/-- R18: an ABOARD person without tab and permit is refused PRESENCE; R22, R31: one with a tab TABS_OPEN, and one with a
permit IN_TRANSIT. -/
theorem witness_ReleasePersonFrees_held :
    let with_ (r : Person) : State := ship.setPerson 1 r
    (run (.releasePerson 7 1 true) ship).pp.port = .answered 7 .presence [] ∧
      [{ guest with tabs := [⟨0, 1⟩] }, { guest with permitLane := some 1 }].all
        (fun r => (with_ r).accepts (.releasePerson 7 1 true) && (with_ r).person? 1 = some r) = true ∧
      (run (.releasePerson 7 1 true) (with_ { guest with tabs := [⟨0, 1⟩] })).pp.port = .answered 7 .tabsOpen [] ∧
      (run (.releasePerson 7 1 true) (with_ { guest with permitLane := some 1 })).pp.port = .answered 7 .inTransit [] := by
  decide
theorem witness_ReleasePersonFrees_full : (fullQueue (ship.setPerson 3 crew)).room < 1 := by
  have h : (fullQueue (ship.setPerson 3 crew)).pq.records.length = 4096 := List.length_replicate
  rw [State.room, State.free, State.fill, h]; decide
theorem witness_PostPaymentAdds : ship.accepts (.postPayment 1 1 (-999999999)) = true ∧ ship.person? 1 = some guest ∧
    ship.accepts (.postPayment 1 8191 999999999) = true ∧ ship.person? 8191 = none := by decide
theorem witness_ReadsChangeNothing :
    [Instr.readPerson 1 8191, .readCard 1 10, .readCabin 1 2047, .readCounts 1, .readSegment 1 3 600 1,
     .readSegment 1 0 1 600, .readTab 1 255, .readTerminal 1 64, .readVenueSettings 1, .readOperation 1, .readClock 1,
     .readLink 1 5, .readNotices 1, .readFaults 1].all ship.accepts = true ∧ ship.card? 10 = some (card 1) ∧
    [Instr.readPerson 1 8192, .readCard 1 12, .readCabin 1 2048, .readSegment 1 4 1 1, .readSegment 1 0 0 1,
     .readSegment 1 0 1 0, .readSegment 1 0 2 600, .readTab 1 256, .readTerminal 1 0, .readTerminal 1 65,
     .readLink 1 6].all ship.accepts = true ∧ ship.card? 12 = none := by decide

theorem witness_GangwaySettings : ship.accepts (.setLane 1 1 3 .closed) = true ∧ ship.accepts (.setLane 1 8 0 .both) = true ∧
    ship.accepts (.setLane 1 9 0 .both) = true ∧ ship.accepts (.setPermitWindow 1 30) = true := by decide
theorem witness_SetPresenceRecords : ship.accepts (.setPresence 1 1 .disembarked) = true ∧ ship.person? 1 = some guest ∧
    guest.permitLane = none ∧ guest.tabs = [] ∧ guest.presence ≠ .disembarked ∧ ship.person? 8191 = none ∧
    guest.card = some 10 ∧ ship.card? 10 = some (card 1) ∧ (card 1).person = 1 := by decide
/-- The deadline armed and reached, and not yet passed. -/
def reached : State := ship.setDeadline { armed := true, time := 1000, passed := false }
theorem witness_DeadlineMoves : rising reached.pu.lanes = true ∧ reached.accepts (.armDeadline 1 1001) = true ∧
    reached.sck.clockSet = true ∧ reached.sck.clock < 1001 ∧ reached.accepts (.disarmDeadline 1) = true ∧
    reached.takesEvents = true ∧ reached.pu.deadline.armed = true ∧ reached.pu.deadline.passed = false ∧
    reached.pu.deadline.time ≤ reached.sck.clock ∧ State.reset.accepts (.armDeadline 1 0) = true ∧
    State.reset.sck.clockSet = false := by decide
theorem witness_EvidenceSettles :
    let s : State := { ship with pu := { ship.pu with evidence := [⟨2, 900, 11, .lane 1, false⟩, ⟨1, 5, 10, .lane 1, false⟩] } }
    s.takesEvents = true ∧ s.person? 2 = some mate ∧ mate.presence = .ashore ∧ mate.ashoreSince = some 900 ∧
      s.person? 1 = some guest ∧ guest.presence ≠ .ashore := by decide

theorem witness_RosterCommands : rising (ship.seg 0).roster = true ∧ ship.accepts (.enrolLock 1 0 600 (.cabin 6)) = true ∧
    ship.lock? 0 600 = none ∧ (ship.cabin 6).inUse = true ∧ (ship.cabin 6).lock = none ∧
    ship.accepts (.enrolLock 1 3 1 (.area 63)) = true ∧ ship.lock? 3 1 = none ∧
    ship.accepts (.withdrawLock 1 0 7) = true ∧ ship.lock? 0 7 = some lock7 := by decide
/-- A number out of range, a station taken, a cabin with a lock, a cabin not in use, a station not enrolled. -/
theorem witness_RosterCommands_refused :
    [Instr.enrolLock 1 4 1 (.area 0), .enrolLock 1 0 601 (.area 0), .enrolLock 1 0 1 (.cabin 2048), .enrolLock 1 0 1 (.area 64),
     .enrolLock 1 0 7 (.area 0), .enrolLock 1 0 8 (.cabin 5), .enrolLock 1 0 8 (.cabin 7), .withdrawLock 1 0 0,
     .withdrawLock 1 3 600].all ship.accepts = true ∧ ship.lock? 0 7 ≠ none ∧ ship.lock? 0 8 = none ∧
      (ship.cabin 5).inUse = true ∧ (ship.cabin 5).lock ≠ none ∧ (ship.cabin 7).inUse = false ∧ ship.lock? 3 600 = none := by
  decide
theorem witness_SetSegmentWrites : ship.accepts (.setSegment 1 0 5 1000 120 [(7, true)]) = true ∧
    ship.lock? 0 7 ≠ none ∧ rising (ship.seg 0).roster = true ∧ ship.lock? 0 600 = none ∧
    [Instr.setSegment 1 4 0 50 5 [], .setSegment 1 0 6 50 5 [], .setSegment 1 0 0 50 5 [(601, true)],
     .setSegment 1 0 0 50 5 [(600, true)]].all ship.accepts = true := by decide
theorem witness_ReleaseAndRestore : ship.accepts (.allRelease 1 255) = true ∧ ship.accepts (.allRestore 1 3) = true := by decide
theorem witness_LinkCommands : ship.accepts (.disableLink 1 1) = true ∧ (ship.link 1).state = .up ∧
    ship.accepts (.retrainLink 1 5) = true ∧ (ship.link 5).state = .training ∧ ship.accepts (.retrainSegment 1 0) = true ∧
    (ship.link 2).state = .up ∧ quiet.accepts (.enableLink 1 0) = true ∧ (quiet.link 0).state = .down ∧
    [Instr.enableLink 1 6, .disableLink 1 6, .retrainLink 1 6, .retrainSegment 1 4].all ship.accepts = true := by decide
theorem witness_VenueSettings :
    [Instr.bindTerminal 1 64 none, .setHold 1 31 true, .setRefusalReporting 1 31 true true, .setRestriction 1 7 31 5,
     .setVenue 1 31 row11, .setClass 1 7 5000 7, .setTaxState 1 .port, .setCap 1 3 240, .bindTerminal 1 0 none,
     .setHold 1 32 true, .setRefusalReporting 1 32 true true, .setRestriction 1 8 31 5, .setRestriction 1 7 32 5,
     .setVenue 1 32 row11, .setClass 1 8 0 0].all ship.accepts = true := by decide

/-- A tab of person 1 at terminal 22 in slot 0 with one line, two previous states of the list behind it. -/
def line0 : Line := { category := 3, price := 850, quantity := 2, amount := 1700, voided := false }
def tab0 : Tab :=
  { terminal := 22, venue := 11, person := 1, opened := 900, lines := [line0], total := 2006, voidable := true }
def tabbed : State :=
  { ship with
    tu := { ship.tu with slots := [(0, { use := 1, tab := some tab0 })]
                         terminals := [(22, { venue := some 11, tabs := [⟨0, 1⟩] })] }
    pt := [(1, { guest with tabs := [⟨0, 1⟩], folio := { guest.folio with held := 2006 } }), (2, mate), (3, crew)] }

theorem witness_PricingFigures : ship.settingsHold :=
  ⟨by decide, by decide, by decide, by decide,
    fun v => by
      by_cases h : 11 = v
      · subst h; decide
      · simp [State.venue, ship, getD, find?, h, coldVenue],
    fun c => by simp [State.classRow, ship, State.reset, getD, find?, ClassRow.cold]⟩
theorem witness_TabRequests : ship.cardServes 22 10 11 1 guest ∧ ship.tabOpens 22 11 0 guest ∧
    (arriving ship (.openTab 22 1 10)).takeFrame 0 ⟨22, 0x20, 1, serialBytes 10⟩ = some ship ∧
    (arriving ship (.queryBalance 22 1 10)).takeFrame 0 ⟨22, 0x25, 1, serialBytes 10⟩ = some ship :=
  ⟨⟨by decide, by decide, rfl, rfl, ⟨card 1, rfl, rfl, rfl⟩, rfl, rfl⟩,
    ⟨by decide, by decide, by decide, by decide, rfl, fun k h => by omega, by decide, by decide⟩, by decide, by decide⟩
/-- The person of that tab, with what the tab holds. -/
def guest0 : Person := { guest with tabs := [⟨0, 1⟩], folio := { guest.folio with held := 2006 } }
/-- The frame of a request at the head of VL's intake, and the state its owner then meets. -/
def requested (s : State) (i : Instr) : Bool :=
  i.stationFrame.any fun e => e.1 = 0 && (arriving s i).takeFrame 0 e.2 = some s
theorem witness_VenueRequestsRefused_frames :
    [Instr.openTab 22 1 12, .openTab 0 1 10, .openTab 65 1 10, .openTab 1 1 10, .openTab 64 1 10, .queryBalance 22 1 11,
     .quickSale 22 1 10 16 850 2 300, .quickSale 22 1 10 15 850 2 300, .voidLast 22 1 ⟨0, 9⟩, .closeTab 22 1 ⟨255, 1⟩ 0,
     .addLine 22 1 ⟨1, 1⟩ 16 1 1].all (requested ship) = true ∧
    [Instr.voidLast 22 1 ⟨0, 1⟩, .addLine 22 1 ⟨0, 1⟩ 15 10 100, .addLine 22 1 ⟨0, 1⟩ 16 10 1].all (requested tabbed) =
      true := by decide
/-- The terminal, the venue and the card, each as a check finds it. -/
theorem witness_VenueRequestsRefused_checks :
    let held : State := { ship with tu := { ship.tu with holds := 2048 } }
    (ship.terminal 1).venue = none ∧ (ship.terminal 22).venue = some 11 ∧ (ship.venue 11).inUse = true ∧
      held.venueHeld 11 = true ∧ ship.venueHeld 11 = false ∧ ship.card? 12 = none ∧
      ((run (.revokeCard 1 10) ship).card? 10).map (·.state) = some (.revoked 1) ∧
      ship.card? 11 = some (card 2) ∧ (card 2).state = .active ∧ ship.person? 2 = some mate ∧ mate.presence ≠ .aboard ∧
      ship.card? 10 = some (card 1) ∧ ship.person? 1 = some guest ∧ guest.presence = .aboard := by decide
/-- The tab checks of R93 and R100, each failing alone. -/
theorem witness_VenueRequestsRefused_tabs :
    let two : Person := { guest with tabs := [⟨0, 1⟩, ⟨1, 1⟩] }
    let poor : Person := { guest with folio := { guest.folio with balance := 50000 } }
    let eight : State := { ship with
      tu := { ship.tu with terminals := [(22, { venue := some 11, tabs := (List.range 8).map fun n => ⟨n, 1⟩ })] } }
    2 ≤ two.tabs.length ∧ guest.tabs.length < 2 ∧ 8 ≤ (eight.terminal 22).tabs.length ∧
      (ship.terminal 22).tabs.length < 8 ∧ (ship.slot 255).tab = none ∧ 2 ≤ ship.room ∧
      ¬(poor.folio.balance + (poor.folio.held : Int) < (poor.folio.creditLimit : Int)) ∧
      ship.lineOutcome guest 11 [] 0 16 850 2 = .range ∧ ship.lineOutcome guest 11 [] 0 15 99999 99 = .limit := by decide
theorem witness_VenueRequestsRefused_room : (fullQueue ship).room < 2 := by
  have h : (fullQueue ship).pq.records.length = 4096 := List.length_replicate
  rw [State.room, State.free, State.fill, h]; decide
set_option maxRecDepth 20000 in
/-- Every slot of the tab store taken. -/
theorem witness_VenueRequestsRefused_store :
    let full : State := { ship with tu := { ship.tu with
      slots := (List.range 256).map fun n => (n, { use := 1, tab := some tab0 }) } }
    ¬∃ k, k ≤ 255 ∧ (full.slot k).tab = none := by
  rintro full ⟨k, hk, h⟩
  have all : ∀ k < 256, (full.slot k).tab.isSome = true := by decide
  have := all k (by omega)
  rw [h] at this; exact absurd this (by decide)
/-- A reference that names no tab of the terminal, and one that does: not voidable, held, absent, over the limit. -/
theorem witness_VenueRequestsRefused_refs :
    let held : State := { tabbed with tu := { tabbed.tu with holds := 2048 } }
    (ship.slot 0).tab = none ∧ tabbed.slot 0 = { use := 1, tab := some tab0 } ∧ tab0.terminal = 22 ∧
      { tab0 with voidable := false }.voidable = false ∧ held.venueHeld tab0.venue = true ∧
      tabbed.venueHeld tab0.venue = false ∧ tabbed.person? tab0.person = some guest0 ∧ guest0.presence = .aboard ∧
      { guest0 with presence := .ashore }.presence ≠ .aboard ∧
      tabbed.lineOutcome guest0 11 tab0.lines tab0.total 15 99999 99 = .limit ∧
      tabbed.lineOutcome guest0 11 tab0.lines tab0.total 15 10 100 = .range := by decide
theorem witness_LineRequests : tabbed.slot 0 = { use := 1, tab := some tab0 } ∧ tabbed.venueHeld 11 = false ∧
    tabbed.person? 1 = some guest0 ∧ guest0.presence = .aboard ∧
    tabbed.lineOk guest0 11 tab0.lines 2006 (tabbed.price 11 0 (tab0.lines ++ [newLine 15 10 99])).total 15 10 99 ∧
    (arriving tabbed (.addLine 22 1 ⟨0, 1⟩ 15 10 99)).takeFrame 0
      ⟨22, 0x21, 1, refBytes ⟨0, 1⟩ ++ be 1 15 ++ be 4 10 ++ be 1 99⟩ = some tabbed ∧
    tab0.voidable = true ∧ tab0.lines = [] ++ [line0] ∧
    (arriving tabbed (.voidLast 22 1 ⟨0, 1⟩)).takeFrame 0 ⟨22, 0x22, 1, [0, 1]⟩ = some tabbed :=
  ⟨rfl, rfl, rfl, rfl,
    ⟨by decide, by decide, by decide, by decide, by decide, by decide, fun h => absurd h (by decide), by decide,
      fun _ h => by simp [guest0, guest] at h⟩, by decide, rfl, rfl, by decide⟩
theorem witness_CloseCharges : tabbed.slot 0 = { use := 1, tab := some tab0 } ∧ tabbed.person? 1 = some guest0 ∧
    tabbed.accepts (.forceClose 1 0) = true ∧ (tabbed.price 11 0 tab0.lines).subtotal ≠ 0 ∧ 1 ≤ tabbed.free ∧
    (tabbed.price 11 0 [{ line0 with voided := true }]).subtotal = 0 ∧
    (arriving tabbed (.closeTab 22 1 ⟨0, 1⟩ 300)).takeFrame 0 ⟨22, 0x23, 1, refBytes ⟨0, 1⟩ ++ be 4 300⟩ =
      some tabbed := by decide
theorem witness_CloseCharges_full : (fullQueue tabbed).free = 0 ∧ (fullQueue tabbed).accepts (.forceClose 1 0) = true ∧
    tabbed.accepts (.forceClose 1 256) = true ∧ (tabbed.slot 255).tab = none :=
  ⟨by
    have h : (fullQueue tabbed).pq.records.length = 4096 := List.length_replicate
    rw [State.free, State.fill, h]; rfl, rfl, rfl, rfl⟩
theorem witness_QuickSaleCharges : ship.cardServes 22 10 11 1 guest ∧ ship.tabOpens 22 11 0 guest ∧
    ship.lineOk guest 11 [] 0 (ship.price 11 0 [newLine 3 850 2]).total 3 850 2 ∧
    (arriving ship (.quickSale 22 1 10 3 850 2 300)).takeFrame 0
      ⟨22, 0x24, 1, serialBytes 10 ++ be 1 3 ++ be 4 850 ++ be 1 2 ++ be 4 300⟩ = some ship :=
  ⟨witness_TabRequests.1, witness_TabRequests.2.1,
    ⟨by decide, by decide, by decide, by decide, by decide, by decide, fun h => absurd h (by decide), by decide,
      fun _ h => by simp [guest] at h⟩, by decide⟩

/-- A line of amount 0. -/
theorem witness_QuickSaleCharges_empty :
    ship.lineOk guest 11 [] 0 (ship.price 11 0 [newLine 3 0 1]).total 3 0 1 ∧
    (arriving ship (.quickSale 22 1 10 3 0 1 300)).takeFrame 0
      ⟨22, 0x24, 1, serialBytes 10 ++ be 1 3 ++ be 4 0 ++ be 1 1 ++ be 4 300⟩ = some ship :=
  ⟨⟨by decide, by decide, by decide, by decide, by decide, by decide, fun h => absurd h (by decide), by decide,
    fun _ h => by simp [guest] at h⟩, by decide⟩

theorem witness_ReadQueueStatusReports : ship.accepts (.readQueueStatus 1) = true := by decide
/-- R131: the two thresholds, and R132: the full queue. -/
theorem witness_PostingQueueMoves : (fullQueue ship).pq.records.length = 4096 ∧ ship.pq.records.length < 4096 ∧
    ship.accepts (.takePosting 1) = true ∧ ship.pq.records = [] ∧
    (∃ head rest, (fullQueue ship).pq.records = head :: rest) :=
  ⟨List.length_replicate, by decide, rfl, rfl, _, _, rfl⟩
theorem witness_OperationCommandsAct : ship.accepts (.startOperation 1 2 8191 8191) = true ∧ ship.oe.state = .idle ∧
    ship.accepts (.startOperation 1 1 0 2047) = true ∧ ship.accepts (.startOperation 1 0 9 3) = true ∧
    ship.accepts (.startOperation 1 3 0 0) = true ∧ ship.sck.openDay ≤ 4294967295 := by decide
/-- An operation RUNNING at a record. -/
def running (k : OpKind) (ph : OpPhase) (cursor last : Nat) : State :=
  { ship with oe := { Operation.cold with kind := some k, phase := some ph, state := .running, cursor := cursor, last := last } }
theorem witness_OperationCommandsAct_abort : ship.accepts (.abortOperation 1) = true ∧ ship.oe.state = .idle ∧
    (running .dayClose .persons 0 8191).accepts (.abortOperation 1) = true ∧
    (running .dayClose .persons 0 8191).oe.state ≠ .idle := by decide
theorem witness_OperationSteps :
    (running .dayClose .persons 1 8191).takesEvents = true ∧ (running .dayClose .persons 1 8191).person? 1 = some guest ∧
    guest.folio.day = 1 ∧ (running .dayClose .persons 8192 8191).oe.last < 8192 ∧ ship.sck.openDay ≤ guest.folio.day ∧
    ({ running .dayClose .persons 1 8191 with sck := { ship.sck with openDay := 2 } } : State).sck.openDay = 2 ∧
    (running .cabinRekey .cabins 5 5).oe.kind = some .cabinRekey ∧ ((running .cabinRekey .cabins 5 5).cabin 5).inUse = true ∧
    ((running .cabinRekey .cabins 7 7).cabin 7).inUse = false ∧
    (running .finalDisembark .persons 2 2).person? 2 = some mate ∧ mate.presence = .ashore ∧ mate.tabs = [] ∧
    mate.permitLane = none ∧ mate.card = some 11 ∧ ship.card? 11 = some (card 2) ∧ (card 2).person = 2 ∧
    ship.pq.records.length < 3840 := by decide
/-- R146: with the open day at 22 a card revoked on day 20 is purged and one of day 21 stays. -/
theorem witness_OperationSteps_cards :
    let s (day : Nat) : State := { running .dayClose .cards 0 8191 with
      ci := { entries := [(10, { card 1 with state := .revoked day })], order := [10] }
      sck := { ship.sck with openDay := 22 } }
    (∀ day, (s day).takesEvents = true) ∧ (s 20).ci.order = [10] ∧
      ((run .dayCloseCardsStep (s 20)).ci.order = []) ∧ (run .dayCloseCardsStep (s 21)).ci.order = [10] :=
  ⟨fun _ => rfl, rfl, by decide, by decide⟩
theorem witness_SetClockWrites : ship.accepts (.setClock 1 4294967295) = true ∧ rising ship.pu.lanes = true := by decide
theorem witness_ClearAllClears : ship.accepts (.clearAll 1) = true ∧ ship.tablesCanonical = true ∧ ship.oe.state = .idle ∧
    ship.pq.records = [] ∧ (tabbed.slot 0).tab ≠ none ∧ tabbed.accepts (.clearAll 1) = true ∧
    tabbed.tablesCanonical = true := by decide
theorem witness_PinsAct_line : (lineAt true ship).takesEvents = true ∧ (lineAt true ship).sck.musterLevel = true ∧
    (lineAt true ship).sck.muster = false ∧ rising (lineAt true ship).pu.lanes = true ∧
    (let s := lineAt false (run .musterEntry (lineAt true ship))
     s.takesEvents = true ∧ s.sck.musterLevel = false ∧ s.sck.muster = true ∧ rising s.pu.lanes = true) ∧
    ship.sck.supm = true ∧ ship.sck.musterLevel ≠ true ∧ ship.sck.musterLine ≠ true ∧ ship.sck.muster = false := by decide
/-- SUPM lost with SUPB there and without it, and the two under an active RESET line. -/
theorem witness_PinsAct_supplies :
    let lost := run .supmLoss ship
    let bare := run .supmLoss (run .supbLoss ship)
    let held := run .resetAssert ship
    let back := run (.supmReturn true) (run .resetAssert bare)
    ship.sck.supm = true ∧ rising ship.sc = true ∧
      (lost.sck.supm = false ∧ lost.sck.resetLine = false ∧ lost.sck.mark = true) ∧
      (bare.sck.supm = false ∧ bare.sck.resetLine = false ∧ bare.sck.mark = false) ∧
      (held.sck.supm = true ∧ held.sck.resetLine = true ∧ held.sck.returned = false) ∧
      (back.sck.supm = true ∧ back.sck.resetLine = true ∧ back.sck.returned = true ∧ back.sck.mark = false) ∧
      ((run .resetAssert lost).sck.supm = false ∧ (run .resetAssert lost).sck.resetLine = true) ∧
      [lost, bare, held, back].all (fun s => rising s.sc && rising s.pu.lanes) = true := by decide
theorem witness_NoticeCommands : ship.accepts (.clearNotices 1 262143) = true ∧ ship.accepts (.setEnables 1 262144) = true ∧
    (262143#24).toNat < 2 ^ 18 ∧ 2 ^ 18 ≤ (262144#24).toNat := by decide
theorem witness_FaultsAct : ship.accepts (.clearFaults 1 1) = true ∧ ship.accepts (.setMasks 1 511 15) = true ∧
    ship.accepts (.setMasks 1 512 16) = true ∧ (ship.link 2).inService = true := by decide

set_option maxRecDepth 4000 in
theorem witness_PurserPortTransacts : ship.takesEvents = true ∧ ship.pp.port = .empty ∧ ship.pending = [] ∧
    (Instr.setTaxState 7 .port).wf = true ∧ (Instr.setTaxState 7 .port).command = some (34, 7, [1]) ∧
    checkCommand [34, 0] = .format ∧ checkCommand (commandBytes 34 7 [2]) = .range ∧ ship.sck.supm = true :=
  ⟨rfl, rfl, rfl, rfl, rfl, by decide, by decide, rfl⟩
set_option maxRecDepth 4000 in
/-- R171, R172: a command whose coded byte names no value makes PP BUSY, and is answered RANGE in a later step; while it is
BUSY another write is disregarded with PURSER_FORM and a read clocks out 0xF0. -/
theorem test_unlisted :
    let t := run (.commandWrite (0x01 :: commandBytes 34 7 [2])) quiet
    t.pp.port = .busyUnlisted 7 ∧ t.nfu.status = quiet.nfu.status ∧ (run (.answerRead 1) t).pp.pdo = [0xF0] ∧
      (run (.commandWrite [0x01]) t).pp.port = .busyUnlisted 7 ∧ (run (.commandWrite [0x01]) t).nfu.status ≠ 0 ∧
      (after (step t)).pp.port = .answered 7 .range [] := by decide
/-- R157, R173: an answer read under an active RESET line clocks out 0xF0, by either row. -/
theorem test_read_under_reset :
    let s : State := run .resetAssert ship
    (run (.answerRead 1) s).pp.pdo = [0xF0] ∧ (run (.commandWrite [0x02, 0]) s).pp.pdo = [0xF0] ∧
      run (.commandWrite [0x03]) s = s := by decide
set_option maxRecDepth 10000 in
/-- R172: the three checks of a command frame at their edges: too short, a byte too many, a wrong check, codes 0 and 55;
a field too long and too short; the first byte or flag that names no value. -/
theorem witness_PurserPortTransacts_checks :
    let good := commandBytes 34 7 [1]
    good.length = 8 ∧ checkCommand good = .command (.setTaxState 7 .port) ∧ checkCommand (good.take 6) = .format ∧
      checkCommand (good ++ [0]) = .format ∧ checkCommand (good.dropLast ++ [0]) = .format ∧
      good.drop 6 ≠ good.dropLast.drop 6 ++ [0] ∧ checkCommand (commandBytes 0 7 []) = .format ∧
      checkCommand (commandBytes 55 7 []) = .format ∧ checkCommand (commandBytes 34 7 [1, 0]) = .format ∧
      checkCommand (commandBytes 34 7 []) = .format ∧ checkCommand (commandBytes 25 7 [1, 2]) = .format ∧
      checkCommand (commandBytes 26 7 [1, 2]) = .range ∧ checkCommand (commandBytes 12 7 [1, 0, 4]) = .range ∧
      checkCommand (commandBytes 14 7 [0, 1, 5]) = .range ∧ checkCommand (commandBytes 18 7 [0, 0, 1, 2, 0, 1]) = .range := by
  decide
set_option maxRecDepth 4000 in
theorem witness_FramesArrive : ship.takesEvents = true ∧ (ship.link 0).inService = true ∧ (ship.link 3).state = .training ∧
    (quiet.link 3).state = .down ∧ checkFrame 0 [1, 2, 3] = .form ∧ checkFrame 0 [0, 1, 3, 0, 0, 0, 0] = .check ∧
    checkFrame 0 (Frame.bytes ⟨0, 3, 0, []⟩) = .good ⟨0, 3, 0, []⟩ ∧
    checkFrame 3 (Frame.bytes ⟨0, 2, 0, [2]⟩) = .good ⟨0, 2, 0, [2]⟩ ∧ linkKind 3 = 2 ∧
    (ship.link 0).intake = [] := by decide
set_option maxRecDepth 10000 in
/-- R167: the three checks of a hub's frame at their edges: a body length above 64, bytes short of it, a wrong check, a
kind of another link, a length of another kind, and coded fields at and above their tops. -/
theorem witness_FramesArrive_checks :
    let sealed (n : Nat) (kind : Byte) (body : List Byte) := checkFrame n (Frame.bytes ⟨7, kind, 9, body⟩)
    checkFrame 0 [0, 7, 0x20, 9, 65] = .form ∧ checkFrame 0 [0, 7, 3, 9, 0, 1] = .form ∧
      checkFrame 0 [0, 7, 3, 9, 0, 1, 2] = .check ∧ sealed 0 0x31 [0] = .form ∧ sealed 1 0x31 [0, 0] = .form ∧
      sealed 1 0x31 [1] = .good ⟨7, 0x31, 9, [1]⟩ ∧ sealed 1 0x31 [2] = .form ∧ sealed 5 0x02 [2] = .good ⟨7, 2, 9, [2]⟩ ∧
      sealed 5 0x02 [3] = .form ∧ sealed 2 0x15 [0, 4, 15, 1, 0] = .good ⟨7, 0x15, 9, [0, 4, 15, 1, 0]⟩ ∧
      sealed 2 0x15 [0, 4, 16, 1, 0] = .form ∧ sealed 2 0x15 [0, 4, 15, 2, 0] = .form := by decide
theorem witness_DoorsDecide :
    (arriving ship (.presentation 0 7 1 10 3 true)).takeFrame 2 ⟨7, 0x10, 1, serialBytes 10 ++ be 2 3 ++ flagByte true⟩ =
      some ship ∧ ship.lock? 0 7 = some lock7 ∧ ship.lock? 0 8 = none := by decide
/-- A frame of lock 7 outstanding. -/
def asking (asked : Asked) (withdrawn : Bool) : State :=
  { ship with sc := [(0, { seg0 with
    outstanding := some { asked := asked, frame := ⟨7, 0x14, 9, []⟩, sendings := 4, waitEnd := some 40, withdrawn := withdrawn } })] }
theorem witness_LockRepliesSettle :
    let push := Instr.pushAck 0 7 9 3
    let poll := Instr.pollReply 0 7 9 ⟨4, ⟨true, false, false, false⟩, false, 1⟩
    let log := Instr.logReply 0 7 9 ⟨true, 10, 900, true, 0⟩
    ((arriving (asking .push false) push).takeFrame 2 ⟨7, 0x13, 9, be 2 3⟩ = some (asking .push false)) ∧
      (push.stationFrame = some (2, ⟨7, 0x13, 9, be 2 3⟩)) ∧
      ((poll.stationFrame.bind fun e => (arriving (asking .poll false) poll).takeFrame 2 e.2) = some (asking .poll false)) ∧
      ((log.stationFrame.bind fun e => (arriving (asking .logFetch true) log).takeFrame 2 e.2) = some (asking .logFetch true)) ∧
      (asking .push false).lock? 0 7 = some lock7 ∧ (ship.seg 0).outstanding = none := by decide
theorem witness_ScansGrantPermits :
    (arriving ship (.scan 1 4 10)).takeFrame 1 ⟨1, 0x30, 4, serialBytes 10⟩ = some ship ∧
    ship.scanOutcome 1 guest true = .permit ∧ (ship.lane 8).effective = .closed ∧ ship.card? 12 = none ∧
    ship.scanOutcome 1 { guest with holdAboard := true } true = .holdAboard := by decide
/-- Lane 1 with a permit of person 2 inward from ASHORE. -/
def permitted : State :=
  (ship.setLane 1 { ship.lane 1 with permit := some ⟨2, .inward, .ashore, 5⟩ }).setPerson 2 { mate with permitLane := some 1 }
theorem witness_PassagesCross :
    (arriving permitted (.passage 1 4 .inward)).takeFrame 1 ⟨1, 0x31, 4, be 1 1⟩ = some permitted ∧
    ((permitted.lane 1).permit.map (·.direction)) = some .inward ∧ fromStateOk .inward .ashore = true ∧
    (permitted.person? 2).map (·.presence) = some .ashore ∧ (permitted.lane 8).permit = none := by decide
theorem witness_SegmentsSend :
    let answer : Frame := ⟨7, 0x11, 1, [14]⟩
    ship.takesEvents = true ∧ (ship.link 2).state = .up ∧ (ship.link 2).answers = [] ∧ (ship.seg 0).due = .none ∧
      (ship.seg 0).outstanding = none ∧ (ship.seg 0).servable 7 = true ∧ (ship.seg 0).lastPoll = none ∧
      (7, lock7) ∈ (ship.seg 0).roster ∧ lock7.eligible = true ∧ (ship.seg 0).cursor ≤ 7 ∧
      ((ship.setLink 2 { up with answers := [answer] }).link 2).answers = [answer] ∧
      ((ship.setLink 0 { up with answers := [answer] }).link 0).answers = [answer] ∧
      ((run (.allRelease 1 0) ship).seg 0).due = .allRelease ∧ ((run (.rekeyCabin 1 5) ship).seg 0).pushes = [7] ∧
      ((asking .push false).seg 0).outstanding.map (·.sendings) = some 4 ∧
      ((asking .push false).seg 0).outstanding.map (·.waitEnd) = some (some 40) := by decide
theorem witness_TimersEnd : ship.takesEvents = true ∧
    ((permitted.lane 1).permit.map (·.expiry)) = some 5 ∧ ship.lock? 0 7 = some lock7 ∧ lock7.state = .online ∧
    lock7.ackGen ≠ none ∧ lock7.excluded = false ∧
    ((ship.setSeg 0 { seg0 with dozeTimer := 1, measure := ⟨0, some 1000⟩ }).seg 0).measure.limit = some 1000 ∧
    (ship.link 3).state = .training ∧ (ship.link 3).trains < 10 ∧ (ship.link 3).attempt < 3 ∧
    (ship.link 3).attemptStart + 100 * (ship.link 3).trains ≤ ship.sck.elapsed ∧
    (ship.link 0).lastSend + 1000 ≤ ({ ship with sck := { ship.sck with elapsed := 3000 } } : State).sck.elapsed ∧
    (ship.link 0).silenceStart + 3000 ≤ ({ ship with sck := { ship.sck with elapsed := 3000 } } : State).sck.elapsed := by decide

end Sys2Proof.Tests
end

section
/-! One rule for each record that is read after a record is written. The proofs from here on are elaborated in the order
of the text: elaborated at once, they hold more threads than the check's limit on memory leaves room for. -/

namespace Sys2Proof.Machine

set_option Elab.async false

theorem State.link_setLink (s : State) (n m : Nat) (l : Link) :
    (s.setLink n l).link m = if m = n then l else s.link m := getD_setD ..

theorem State.person?_setPerson (s : State) (p q : Nat) (r : Person) :
    (s.setPerson p r).person? q = if q = p then some r else s.person? q := find?_insert ..

theorem State.lane_setLane (s : State) (n m : Nat) (l : Lane) :
    (s.setLane n l).lane m = if m = n then l else s.lane m := getD_setD ..

theorem State.seg_setSeg (s : State) (g h : Nat) (c : Segment) :
    (s.setSeg g c).seg h = if h = g then c else s.seg h := getD_setD ..

theorem State.cabin_setCabin (s : State) (c d : Nat) (r : Cabin) :
    (s.setCabin c r).cabin d = if d = c then r else s.cabin d := getD_setD ..

theorem State.card?_setCard (s : State) (serial k : Serial) (e : Card) :
    (s.setCard serial e).card? k = if k = serial then some e else s.card? k := by
  unfold State.card? State.setCard
  rw [find?_insert]
  simp only [BitVec.toNat_inj]

theorem State.person?_modPerson (s : State) (p q : Nat) (f : Person → Person) :
    (s.modPerson p f).person? q = if q = p then (s.person? q).map f else s.person? q := by
  unfold State.modPerson
  cases hp : s.person? p with
  | none => by_cases h : q = p <;> simp [h, hp]
  | some r => rw [State.person?_setPerson]; by_cases h : q = p <;> simp [h, hp]

end Sys2Proof.Machine
end

section
/-! What every step keeps, shown once for any property: a property that is kept by the writes below is kept by every
step. The writes are the model's own where the property can break between two parts of one (a permit on its lane and on
its person), and writes of single records elsewhere. -/

namespace Sys2Proof.Machine

set_option Elab.async false

/-- A property that plain writes keep: those outside the persons, the presence counts, the lanes and the segments; those
of a person that leave the presence and the permit lane; and those of a segment that leave it in its ranges. -/
structure RecordInvariant (P : State → Prop) : Prop where
  outside : ∀ {s t : State}, t.pt = s.pt → t.pu.counts = s.pu.counts → t.pu.lanes = s.pu.lanes → t.sc = s.sc →
    t.closing = s.closing → (s.settingsHold → t.settingsHold) → (s.clocksHold → t.clocksHold) → P s → P t
  person : ∀ {s : State} {p : Nat} {r r' : Person}, s.person? p = some r → r'.presence = r.presence →
    r'.permitLane = r.permitLane → P s → P (s.setPerson p r')
  servings : ∀ {s : State} (f : List Serving → List Serving), P s → P (s.mapServings f)
  seg : ∀ {s : State} {g : Nat} {c : Segment}, ((s.seg g).wf → c.wf) → P s → P (s.setSeg g c)

/-- The fields that decide the invariants of the persons' presence, the lanes, the segments, the settings and the
clocks. -/
def State.parts (s : State) :=
  (s.pt, s.pu.counts, s.pu.lanes, s.sc, s.pu.deadline.passed, s.sck.muster, s.pu.permitWindow, s.cc,
    s.sck.clock, s.sck.elapsed, s.sck.ms, s.sck.musterHold)

/-- The permits that a tally change leaves in balance with the tallies (R36). -/
def Lane.balanced (l : Lane) : Prop :=
  l.tallies.granted < Config.topTally → l.tallies.granted = l.tallies.ended + (if l.permit.isSome then 1 else 0)

/-- A property that, beside plain writes, every write of the gangway and every reset keeps. -/
structure StepInvariant (P : State → Prop) : Prop extends RecordInvariant P where
  segTwice : ∀ {s : State} {g : Nat} {a b : Segment}, ((s.seg g).wf → b.wf) → P s → P ((s.setSeg g a).setSeg g b)
  segsEnded : ∀ {s : State}, P s → P { s with sc := mapD Segment.cold (fun c => { c with outstanding := none }) s.sc }
  lane : ∀ {s : State} {n : Nat} {l : Lane},
    ((s.lane n).effective = deriveMode s.closing (s.lane n).configured → l.effective = deriveMode s.closing l.configured) →
    l.permit = (s.lane n).permit → ((s.lane n).balanced → l.balanced) → P s → P (s.setLane n l)
  endPermit : ∀ {s : State} (n : Nat), P s → P (s.endPermit n)
  consume : ∀ {s : State} {n : Nat} {k : Permit} {f : Tallies → Tallies}, (s.lane n).permit = some k →
    (∀ t, (f t).granted = t.granted ∧ (t.ended < Config.topTally → (f t).ended = t.ended + 1)) → P s →
    P (s.consumePermit n k f)
  grant : ∀ {s : State} {n p : Nat} {d : Direction} {r : Person}, n ∈ laneNumbers → (s.lane n).permit = none →
    s.person? p = some r → r.permitLane = none → fromStateOk d r.presence = true → P s → P (s.grantPermit n p d r)
  move : ∀ {s : State} (p : Nat) (new : Presence), P s → P (s.movePresence p new)
  enlist : ∀ {s : State} {p : Nat} {r : Person}, s.person? p = none → r.presence = .notEmbarked → r.permitLane = none →
    P s → P ((s.setPerson p r).setCounts (s.pu.counts.put (s.pu.counts.notEmbarked + 1) .notEmbarked))
  free : ∀ {s : State} {p : Nat}, (∀ r, s.person? p = some r → r.permitLane = none) → P s → P (s.freePerson p)
  rederive : ∀ {s t : State}, t.pt = s.pt → t.pu.counts = s.pu.counts → t.pu.lanes = s.pu.lanes → t.sc = s.sc →
    (s.settingsHold → t.settingsHold) → (s.clocksHold → t.clocksHold) → P s → P t.deriveModes
  voyageClear : ∀ {s : State}, P s → P s.voyageClear
  warm : ∀ {s : State}, P s → P s.warmEffects.deriveModes
  cold : ∀ {s t : State}, t.pt = [] → t.pu = State.reset.pu → t.sc = [] → t.cc = State.reset.cc →
    t.sck.clock = 0 → t.sck.elapsed = 0 → t.sck.ms = 0 → t.sck.musterHold = s.sck.musterHold → t.sck.muster = false →
    P s → P t

/-! ### Plain writes -/

theorem State.settingsHold_of_eq {s t : State} (hw : t.pu.permitWindow = s.pu.permitWindow) (hc : t.cc = s.cc)
    (h : s.settingsHold) : t.settingsHold := by
  unfold State.settingsHold State.venue State.classRow at h ⊢
  rwa [hw, hc]

theorem State.clocksHold_of_eq {s t : State} (hc : t.sck.clock = s.sck.clock) (he : t.sck.elapsed = s.sck.elapsed)
    (hm : t.sck.ms = s.sck.ms) (hh : t.sck.musterHold = s.sck.musterHold) (h : s.clocksHold) : t.clocksHold := by
  unfold State.clocksHold at h ⊢
  rwa [hc, he, hm, hh]

namespace RecordInvariant

variable {P : State → Prop}

/-- A write of nothing that decides the property. -/
theorem frame (hP : RecordInvariant P) {s t : State} (h : P s) (e : t.parts = s.parts := by simp [State.parts]) :
    P t := by
  simp only [State.parts, Prod.mk.injEq] at e
  obtain ⟨hpt, hcounts, hlanes, hsc, hpassed, hmuster, hwindow, hcc, hclock, helapsed, hms, hhold⟩ := e
  exact hP.outside hpt hcounts hlanes hsc (by simp [State.closing, hpassed, hmuster])
    (State.settingsHold_of_eq hwindow hcc) (State.clocksHold_of_eq hclock helapsed hms hhold) h

theorem raise (hP : RecordInvariant P) {s : State} (n : Notice) (h : P s) : P (s.raise n) := hP.frame h

theorem append (hP : RecordInvariant P) {s : State} (time : Nat) (p : Option Nat) (day : Nat) (body : PostingBody)
    (h : P s) :
    P (s.append time p day body) := hP.frame h

theorem appendCrossing (hP : RecordInvariant P) {s : State} (p : Option Nat) (c : Crossing) (h : P s) :
    P (s.appendCrossing p c) := hP.frame h

theorem bindLock (hP : RecordInvariant P) {s : State} (k : LockKind) (l : Option (Nat × Nat)) (h : P s) :
    P (s.bindLock k l) := hP.frame h

theorem queueAnswer (hP : RecordInvariant P) {s : State} (n : Nat) (f : Frame) (h : P s) : P (s.queueAnswer n f) :=
  hP.frame h

theorem modPerson (hP : RecordInvariant P) {s : State} {p : Nat} {f : Person → Person}
    (hf : ∀ r, (f r).presence = r.presence ∧ (f r).permitLane = r.permitLane) (h : P s) : P (s.modPerson p f) := by
  unfold State.modPerson
  split
  · exact h
  · rename_i r hr
    exact hP.person hr (hf r).1 (hf r).2 h

theorem modSeg (hP : RecordInvariant P) {s : State} {g : Nat} {f : Segment → Segment}
    (hf : ∀ c : Segment, c.wf → (f c).wf)
    (h : P s) : P (s.modSeg g f) := hP.seg (hf _) h

theorem setLock (hP : RecordInvariant P) {s : State} (g st : Nat) (k : Lock) (h : P s) : P (s.setLock g st k) :=
  hP.seg id h

theorem modLock (hP : RecordInvariant P) {s : State} (g st : Nat) (f : Lock → Lock) (h : P s) :
    P (s.modLock g st f) := by
  unfold State.modLock
  split
  · exact h
  · exact hP.setLock g st _ h

/-- A fold of operations that each keep the property keeps it. -/
theorem foldl {α : Type} {f : State → α → State} (hf : ∀ s a, P s → P (f s a)) (l : List α) {s : State} (h : P s) :
    P (l.foldl f s) := by
  induction l generalizing s with
  | nil => exact h
  | cons a l ih => exact ih (hf s a h)

/-! ### Links and segments -/

theorem restartMeasure (hP : RecordInvariant P) {s : State} (g : Nat) (h : P s) : P (s.restartMeasure g) :=
  hP.modSeg (fun _ => id) h

theorem wake (hP : RecordInvariant P) {s : State} (g : Nat) (h : P s) : P (s.wake g) := by
  unfold State.wake
  split
  · exact hP.restartMeasure g (hP.frame h)
  · exact h

theorem enterUp (hP : RecordInvariant P) {s : State} (n : Nat) (h : P s) : P (s.enterUp n) := by
  unfold State.enterUp
  dsimp only
  split
  · refine hP.restartMeasure _ (hP.modSeg (fun c hc => ?_) (hP.frame h))
    obtain ⟨-, -, -, hrest⟩ := hc
    exact ⟨le_rfl, (by decide : 1 ≤ Config.stations), (by decide : 0 < Config.unreachableLimit), hrest⟩
  · exact hP.frame h

theorem stationArrives (hP : RecordInvariant P) {s : State} (n : Nat) (kind : Byte) (h : P s) :
    P (s.stationArrives n kind) := by
  unfold State.stationArrives
  dsimp only
  split
  · exact hP.frame h
  · split
    · exact hP.wake _ (hP.frame h)
    · exact hP.restartMeasure _ (hP.wake _ (hP.frame h))

theorem takeFrame (hP : RecordInvariant P) {s s1 : State} {n : Nat} {f : Frame} (ht : s.takeFrame n f = some s1)
    (h : P s) :
    P s1 := by
  unfold State.takeFrame at ht
  split at ht
  · split at ht
    · cases ht
      exact hP.stationArrives n f.kind h
    · split at ht
      · cases ht
        exact hP.frame h
      · cases ht
  · cases ht

/-! ### Rekeys, revocations and removals -/

theorem markBelow (hP : RecordInvariant P) {s : State} (l : List Nat) (gen : Nat) (h : P s) : P (s.markBelow l gen) :=
    by
  unfold State.markBelow
  refine foldl (fun s p hs => ?_) l h
  split
  · exact hs
  · rename_i r hr
    split
    · exact hs
    · split
      · exact hP.person hr rfl rfl hs
      · exact hs

theorem handPush (hP : RecordInvariant P) {s : State} (g st : Nat) (h : P s) : P (s.handPush g st) := by
  unfold State.handPush
  dsimp only
  split
  · exact hP.wake g (hP.seg id h)
  · exact hP.seg id h

theorem rekey (hP : RecordInvariant P) {s : State} (c : Nat) (h : P s) : P (s.rekey c) := by
  unfold State.rekey
  dsimp only
  split
  · refine hP.markBelow _ _ ?_
    split
    · exact hP.handPush _ _ (hP.frame h)
    · exact hP.frame h
  · exact hP.markBelow _ _ h

theorem rekeyIf (hP : RecordInvariant P) {s : State} (c : Option Nat) (h : P s) : P (s.rekeyIf c) := by
  cases c with
  | none => exact h
  | some n => exact hP.rekey n h

theorem revokeEntry (hP : RecordInvariant P) {s : State} (serial : Serial) (h : P s) : P (s.revokeEntry serial) := by
  unfold State.revokeEntry
  split
  · exact h
  · exact hP.modPerson (fun _ => ⟨rfl, rfl⟩) (hP.frame h)

theorem revokeCardOf (hP : RecordInvariant P) {s : State} (p : Nat) (h : P s) : P (s.revokeCardOf p) := by
  unfold State.revokeCardOf
  split
  · exact h
  · split
    · exact h
    · exact hP.revokeEntry _ h

theorem leaveCabin (hP : RecordInvariant P) {s : State} (p : Nat) (h : P s) : P (s.leaveCabin p) := by
  unfold State.leaveCabin
  split
  · exact h
  · rename_i r hr
    split
    · exact h
    · exact hP.person (s := s.setCabin _ _) hr rfl rfl (hP.frame h)

theorem removeAndRevoke (hP : RecordInvariant P) {s : State} (p : Nat) (h : P s) : P (s.removeAndRevoke p) := by
  unfold State.removeAndRevoke
  split
  · exact h
  · exact hP.rekeyIf _ (hP.revokeCardOf p (hP.leaveCabin p h))

theorem raiseGen (hP : RecordInvariant P) {s : State} (c floor : Nat) (h : P s) : P (s.raiseGen c floor) := by
  unfold State.raiseGen
  dsimp only
  split
  · exact hP.markBelow _ _ (hP.frame h)
  · exact h

/-! ### The tab unit -/

theorem roll (hP : RecordInvariant P) {s : State} (p : Nat) (h : P s) : P (s.roll p) := by
  unfold State.roll
  split
  · exact h
  · rename_i r hr
    split
    · dsimp only
      split
      · exact hP.person hr rfl rfl h
      · exact hP.person (s := s.append _ _ _ _) (r := r) (by simpa [State.person?] using hr) rfl rfl (hP.frame h)
    · exact h

theorem createTab (hP : RecordInvariant P) {s : State} (n terminal venue p : Nat) (h : P s) :
    P (s.createTab n terminal venue p).1 :=
  hP.modPerson (fun _ => ⟨rfl, rfl⟩) (hP.frame h)

theorem putLine (hP : RecordInvariant P) {s : State} (n : Nat) (t : Tab) (line : Line) (total : Nat) (h : P s) :
    P (s.putLine n t line total) :=
  hP.modPerson (fun _ => ⟨rfl, rfl⟩) (hP.frame h)

theorem dropTab (hP : RecordInvariant P) {s : State} (n : Nat) (t : Tab) (h : P s) : P (s.dropTab n t) :=
  hP.modPerson (fun _ => ⟨rfl, rfl⟩) (hP.frame h)

theorem pruneIf (hP : RecordInvariant P) {s : State} (p : Nat) (made : Bool) (h : P s) : P (s.pruneIf p made) := by
  unfold State.pruneIf
  split
  · exact hP.modPerson (fun _ => ⟨rfl, rfl⟩) h
  · exact h

end RecordInvariant
end Sys2Proof.Machine
end

section
/-! What every step keeps: the operations that make plain writes alone. -/

namespace Sys2Proof.Machine

set_option Elab.async false

/-- R82: the window in force is never below the requested one. -/
theorem Segment.wf_deriveWindow {c : Segment} (h : c.wf) : ({ c with window := c.deriveWindow } : Segment).wf := by
  obtain ⟨h1, h2, h3, h4, h5, h6, h7, h8, -, h10⟩ := h
  exact ⟨h1, h2, h3, h4, h5, h6, h7, h8, le_max_left _ _, h10⟩

/-- R75: the cursor stays a station number. -/
theorem nextCursor_mem (st : Nat) : 1 ≤ nextCursor st ∧ nextCursor st ≤ Config.stations := by
  unfold nextCursor
  split
  · omega
  · exact ⟨le_rfl, by decide⟩

theorem Segment.wf_cursor {c : Segment} (st : Nat) (last : Option Nat) (h : c.wf) :
    ({ c with cursor := nextCursor st, lastPoll := last } : Segment).wf := by
  obtain ⟨-, -, hrest⟩ := h
  exact ⟨(nextCursor_mem st).1, (nextCursor_mem st).2, hrest⟩

theorem Segment.wf_unreachable {c : Segment} {n : Nat} (hn : n < Config.unreachableLimit) (h : c.wf) :
    ({ c with unreachable := n } : Segment).wf := by
  obtain ⟨h1, h2, -, hrest⟩ := h
  exact ⟨h1, h2, hn, hrest⟩

theorem Segment.wf_dozeCount {c : Segment} (h : c.wf) : ({ c with dozeCount := nextMs c.dozeCount } : Segment).wf := by
  obtain ⟨h1, h2, h3, h4, h5, h6, h7, h8, h9, -⟩ := h
  exact ⟨h1, h2, h3, h4, h5, h6, h7, h8, h9, nextMs_lt _⟩

namespace RecordInvariant

variable {P : State → Prop}

/-! ### Locks -/

theorem makeStale (hP : RecordInvariant P) {s : State} (g st : Nat) (h : P s) : P (s.makeStale g st) := by
  unfold State.makeStale
  exact hP.raise _ (hP.modLock g st _ h)

theorem settleStale (hP : RecordInvariant P) {s : State} (g : Nat) (h : P s) : P (s.settleStale g) := by
  unfold State.settleStale
  refine foldl (fun s st hs => ?_) _ h
  split
  · exact hP.makeStale g st hs
  · exact hs

theorem deriveWindow (hP : RecordInvariant P) {s : State} (g : Nat) (h : P s) : P (s.deriveWindow g) :=
  hP.settleStale g (hP.modSeg (fun _ => Segment.wf_deriveWindow) h)

theorem enrolLock (hP : RecordInvariant P) {s : State} (g st : Nat) (k : LockKind) (h : P s) :
    P (enrolLock g st k s).1 := by
  unfold Machine.enrolLock
  split_ifs
  · exact h
  · exact h
  · exact h
  · exact h
  · exact hP.deriveWindow g (hP.bindLock _ _ (hP.setLock g st _ h))

theorem withdrawLock (hP : RecordInvariant P) {s : State} (g st : Nat) (h : P s) : P (withdrawLock g st s).1 := by
  unfold Machine.withdrawLock
  split
  · exact h
  · split
    · exact h
    · exact hP.deriveWindow g (hP.bindLock _ _ (hP.modSeg (f := fun c => c.withdraw st) (fun _ => id) h))

theorem releaseSegment (hP : RecordInvariant P) {s : State} (g : Nat) (h : P s) : P (s.releaseSegment g) :=
  hP.wake g (hP.modSeg (fun _ => id) h)

theorem restoreSegment (hP : RecordInvariant P) {s : State} (g : Nat) (h : P s) : P (s.restoreSegment g) :=
  hP.wake g (hP.modSeg (fun _ => id) h)

theorem allRelease (hP : RecordInvariant P) {s : State} (g : Nat) (h : P s) : P (allRelease g s).1 := by
  unfold Machine.allRelease
  split
  · exact h
  · exact foldl (fun _ g => hP.releaseSegment g) _ h

theorem allRestore (hP : RecordInvariant P) {s : State} (g : Nat) (h : P s) : P (allRestore g s).1 := by
  unfold Machine.allRestore
  split
  · exact h
  · exact foldl (fun _ g => hP.restoreSegment g) _ h

/-! ### The transmit arbiter -/

theorem sendStation (hP : RecordInvariant P) {s : State} (g : Nat) (f : Frame) (h : P s) : P (s.sendStation g f) :=
  hP.restartMeasure g (hP.frame h)

theorem sendDoorAnswer (hP : RecordInvariant P) {s : State} (g : Nat) (h : P s) : P (s.sendDoorAnswer g) := by
  unfold State.sendDoorAnswer
  split
  · exact h
  · exact hP.sendStation g _ (hP.frame h)

theorem sendBroadcast (hP : RecordInvariant P) {s : State} (g : Nat) (h : P s) : P (s.sendBroadcast g) :=
  hP.sendStation g _ (hP.modSeg (fun _ => id) (hP.frame h))

theorem sendAsked (hP : RecordInvariant P) {s : State} (g : Nat) (asked : Asked) (f : Frame) (h : P s) :
    P (s.sendAsked g asked f) := hP.modSeg (fun _ => id) (hP.frame h)

theorem sendPush (hP : RecordInvariant P) {s : State} (g : Nat) (h : P s) : P (s.sendPush g) := by
  unfold State.sendPush
  split
  · exact h
  · exact hP.restartMeasure g (hP.sendAsked g _ _ h)

theorem sendFetch (hP : RecordInvariant P) {s : State} (g : Nat) (h : P s) : P (s.sendFetch g) := by
  unfold State.sendFetch
  split
  · exact h
  · exact hP.restartMeasure g (hP.sendAsked g _ _ h)

theorem sendPoll (hP : RecordInvariant P) {s : State} (g : Nat) (h : P s) : P (s.sendPoll g) := by
  unfold State.sendPoll
  split
  · exact h
  · exact hP.modSeg (fun _ => Segment.wf_cursor _ _) (hP.sendAsked g _ _ h)

theorem resendFrame (hP : RecordInvariant P) {s : State} (g : Nat) (o : Outstanding) (h : P s) :
    P (s.resendFrame g o) := by
  have hs : P (s.sendFrame (segLink g) o.frame) := hP.frame h
  unfold State.resendFrame
  dsimp only
  split
  · exact hP.modSeg (fun _ => id) hs
  · exact hP.restartMeasure g (hP.modSeg (fun _ => id) hs)

theorem sendHeldBack (hP : RecordInvariant P) {s : State} (g : Nat) (h : P s) : P (s.sendHeldBack g) := by
  unfold State.sendHeldBack
  split
  · exact hP.resendFrame g _ h
  · exact h

theorem endMeasure (hP : RecordInvariant P) {s : State} (g : Nat) (h : P s) : P (s.endMeasure g) := by
  have hs : P (s.modSeg g _) := hP.modSeg (f := fun c => { c with measure := { c.measure with limit := none } }) (fun _ => id) h
  unfold State.endMeasure
  dsimp only
  split
  · exact hP.frame hs
  · exact hs

/-! ### Replies -/

theorem takeFloor (hP : RecordInvariant P) {s : State} (g st : Nat) (kind : LockKind) (floor : Nat) (h : P s) :
    P (s.takeFloor g st kind floor) := by
  unfold State.takeFloor
  split
  · exact hP.modLock g st _ h
  · exact hP.modSeg (fun _ => id) (hP.modLock g st _ (hP.raiseGen _ _ h))

theorem takePollReply (hP : RecordInvariant P) {s : State} (g st : Nat) (k : Lock) (r : PollReport) (h : P s) :
    P (s.takePollReply g st k r) := by
  have hs : P (s.takeFloor g st k.kind r.floor) := hP.takeFloor g st _ _ h
  unfold State.takePollReply
  dsimp only
  refine hP.modSeg (fun _ => id) (hP.modLock g st _ ?_)
  split
  · exact hP.frame hs
  · exact hs

theorem takePushAck (hP : RecordInvariant P) {s : State} (g st : Nat) (k : Lock) (floor : Nat) (h : P s) :
    P (s.takePushAck g st k floor) := by
  unfold State.takePushAck
  dsimp only
  split
  · exact hP.modLock g st _ h
  · exact hP.modSeg (fun _ => id) (hP.modLock g st _ (hP.raiseGen _ _ h))

theorem logEntry (hP : RecordInvariant P) {s : State} (g st : Nat) (serial : Serial) (time : Nat) (granted : Bool)
    (h : P s) : P (s.logEntry g st serial time granted) := hP.frame h

theorem takeLogReply (hP : RecordInvariant P) {s : State} (g st : Nat) (r : LogReport) (h : P s) :
    P (s.takeLogReply g st r) := by
  have hs : P (if r.present then s.logEntry g st r.serial r.time r.granted else s) := by
    split
    · exact hP.logEntry g st _ _ _ h
    · exact h
  unfold State.takeLogReply
  dsimp only
  split
  · exact hP.modSeg (fun _ => id) (hP.modLock g st _ hs)
  · exact hP.modLock g st _ hs

theorem withLock (_ : RecordInvariant P) {s : State} (g st : Nat) {f : Lock → State} (hf : ∀ k, P (f k)) (h : P s) :
    P (s.withLock g st f) := by
  unfold State.withLock
  split
  · exact hf _
  · exact h

/-! ### Persons, cards and cabins -/

theorem setCard (hP : RecordInvariant P) {s : State} (serial : Serial) (e : Card) (h : P s) : P (s.setCard serial e) :=
  hP.frame h

theorem evictFull (hP : RecordInvariant P) {s : State} (h : P s) :
    P (if Config.cardEntries ≤ s.ci.entries.length then s.evictOldest else s) := by
  split
  · exact hP.frame h
  · exact h

theorem moveOut (hP : RecordInvariant P) {s : State} (p : Nat) (old : Option Nat) (h : P s) : P (s.moveOut p old) := by
  unfold State.moveOut
  split
  · exact hP.rekey _ (hP.leaveCabin p h)
  · exact h

theorem moveIn (hP : RecordInvariant P) {s : State} (p c : Nat) (h : P s) : P (s.moveIn p c) :=
  hP.modPerson (fun _ => ⟨rfl, rfl⟩) (hP.frame h)

theorem amendPerson (hP : RecordInvariant P) {s : State} (p : Nat) (a : Amendment) (h : P s) :
    P (amendPerson p a s).1 := by
  unfold Machine.amendPerson
  split
  · exact h
  · split
    · exact h
    · rename_i r hr
      have hs : P (s.setPerson p (amended a r)) := hP.person hr rfl rfl h
      dsimp only
      split_ifs
      · exact h
      · exact h
      · exact h
      · dsimp only
        split
        · exact hP.moveIn p _ (hP.moveOut p _ hs)
        · exact hP.moveOut p _ hs
      · exact hs

theorem issueCard (hP : RecordInvariant P) {s : State} (p : Nat) (serial : Serial) (h : P s) :
    P (issueCard p serial s).1 := by
  unfold Machine.issueCard
  split
  · exact h
  · split
    · exact h
    · rename_i r hr
      have hrevoked : P ((s.revokeCardOf p).rekeyIf r.cabin) := hP.rekeyIf _ (hP.revokeCardOf p h)
      split_ifs
      · exact h
      · exact h
      · exact h
      · exact hP.modPerson (fun _ => ⟨rfl, rfl⟩) (hP.setCard _ _ (hP.evictFull hrevoked))
      · exact hP.modPerson (fun _ => ⟨rfl, rfl⟩) (hP.setCard _ _ (hP.evictFull h))

theorem revokeCard (hP : RecordInvariant P) {s : State} (serial : Serial) (h : P s) : P (revokeCard serial s).1 := by
  unfold Machine.revokeCard
  split
  · exact h
  · split
    · exact h
    · exact hP.rekeyIf _ (hP.revokeEntry serial h)

theorem rekeyCabin (hP : RecordInvariant P) {s : State} (c : Nat) (h : P s) : P (rekeyCabin c s).1 := by
  unfold Machine.rekeyCabin
  dsimp only
  split_ifs
  · exact h
  · exact h
  · exact h
  · exact hP.rekey c h

theorem postPayment (hP : RecordInvariant P) {s : State} (p : Nat) (amount : Int) (h : P s) :
    P (postPayment p amount s).1 := by
  unfold Machine.postPayment
  split
  · exact h
  · split
    · exact h
    · rename_i r hr
      exact hP.person hr rfl rfl h

/-! ### Tabs -/

/-- What a close leaves, where it is taken (R98). -/
theorem closeTab (hP : RecordInvariant P) {s : State} (n : Nat) (t : Tab) (tip : Nat) (forced quick : Bool) (h : P s) :
    (∀ s1, s.closeTab n t tip forced quick = .empty s1 → P s1) ∧
      ∀ s1 z g b seq, s.closeTab n t tip forced quick = .charged s1 z g b seq → P s1 := by
  rw [State.closeTab_eq]
  split
  · refine ⟨fun s1 e => ?_, fun _ _ _ _ _ e => (by cases e)⟩
    cases e
    exact hP.modPerson (fun _ => ⟨rfl, rfl⟩) (hP.dropTab n t h)
  · split
    · exact ⟨fun _ e => (by cases e), fun _ _ _ _ _ e => (by cases e)⟩
    · refine ⟨fun s1 e => (by cases e), fun s1 _ _ _ _ e => ?_⟩
      cases e
      exact hP.modPerson (fun _ => ⟨rfl, rfl⟩) (hP.dropTab n t (hP.frame h))

theorem forceClose (hP : RecordInvariant P) {s : State} (n : Nat) (h : P s) : P (forceClose n s).1 := by
  unfold Machine.forceClose
  split
  · exact h
  · split
    · exact h
    · rename_i t _
      obtain ⟨hempty, hcharged⟩ := hP.closeTab n t 0 true false h
      dsimp only
      split
      · exact hempty _ ‹_›
      · exact h
      · exact hcharged _ _ _ _ _ ‹_›

end RecordInvariant
end Sys2Proof.Machine
end

section
/-! What every step keeps: the operations that end permits, change presences or derive modes. -/

namespace Sys2Proof.Machine

set_option Elab.async false

/-- R39, R18: taking a person from the cabin and the card leaves the person's permit lane. -/
theorem permitLane_removeAndRevoke {s : State} {p q : Nat}
    (h : ∀ r, s.person? q = some r → r.permitLane = none) :
    ∀ r, (s.removeAndRevoke p).person? q = some r → r.permitLane = none := by
  refine RecordInvariant.removeAndRevoke (P := fun t => ∀ r, t.person? q = some r → r.permitLane = none) ?_ p h
  constructor
  · intro s t hpt _ _ _ _ _ _ hs r hr
    exact hs r (by simpa [State.person?, hpt] using hr)
  · intro s p r r' hr _ hlane hs x hx
    rw [State.person?_setPerson] at hx
    split at hx
    · cases hx; subst_vars; exact hlane.trans (hs r hr)
    · exact hs x hx
  · intro s f hs r hr
    have hr' : find? (mapRecords (fun r : Person => { r with servings := f r.servings }) s.pt) q = some r := hr
    rw [find?_mapRecords, Option.map_eq_some_iff] at hr'
    obtain ⟨x, hx, rfl⟩ := hr'
    exact hs x hx
  · intro s g c _ hs
    exact hs

/-- R36: each of the four ends counts 1 more ended permit, while it has not saturated. -/
theorem Tallies.ended_outward (t : Tallies) : ({ t with outward := tallyUp t.outward } : Tallies).granted = t.granted ∧
    (t.ended < Config.topTally → ({ t with outward := tallyUp t.outward } : Tallies).ended = t.ended + 1) := by
  refine ⟨rfl, fun h => ?_⟩
  simp only [Tallies.ended, tallyUp] at h ⊢
  split_ifs <;> omega

theorem Tallies.ended_inward (t : Tallies) : ({ t with inward := tallyUp t.inward } : Tallies).granted = t.granted ∧
    (t.ended < Config.topTally → ({ t with inward := tallyUp t.inward } : Tallies).ended = t.ended + 1) := by
  refine ⟨rfl, fun h => ?_⟩
  simp only [Tallies.ended, tallyUp] at h ⊢
  split_ifs <;> omega

theorem Tallies.ended_stale (t : Tallies) : ({ t with stale := tallyUp t.stale } : Tallies).granted = t.granted ∧
    (t.ended < Config.topTally → ({ t with stale := tallyUp t.stale } : Tallies).ended = t.ended + 1) := by
  refine ⟨rfl, fun h => ?_⟩
  simp only [Tallies.ended, tallyUp] at h ⊢
  split_ifs <;> omega

theorem Tallies.ended_scanNoPass (t : Tallies) :
    ({ t with scanNoPass := tallyUp t.scanNoPass } : Tallies).granted = t.granted ∧
    (t.ended < Config.topTally → ({ t with scanNoPass := tallyUp t.scanNoPass } : Tallies).ended = t.ended + 1) := by
  refine ⟨rfl, fun h => ?_⟩
  simp only [Tallies.ended, tallyUp] at h ⊢
  split_ifs <;> omega

theorem clamp_mem {low high : Nat} (n : Nat) (h : low ≤ high) : low ≤ clamp low high n ∧ clamp low high n ≤ high := by
  unfold clamp
  split_ifs <;> omega

/-- R82: what SET SEGMENT writes lies in its ranges. -/
theorem Segment.wf_settings {c : Segment} {doze : Nat} (hdoze : doze ≤ 5) (spacing window : Nat) (m : Measure)
    (roster : Table Lock) (h : c.wf) :
    let d : Segment := { c with
      dozeTimer := doze, spacing := clamp 50 1000 spacing, windowAsked := clamp 5 120 window, measure := m, roster := roster }
    ({ d with window := d.deriveWindow } : Segment).wf := by
  obtain ⟨h1, h2, h3, -, -, -, -, -, -, h10⟩ := h
  obtain ⟨h5, h6⟩ := clamp_mem spacing (by decide : 50 ≤ 1000)
  obtain ⟨h7, h8⟩ := clamp_mem window (by decide : 5 ≤ 120)
  exact ⟨h1, h2, h3, hdoze, h5, h6, h7, h8, le_max_left _ _, h10⟩

/-- R36: a new day's tallies are in balance with the permit held. -/
theorem Lane.newDay_balanced (l : Lane) : l.newDay.balanced := by
  intro _
  unfold Lane.newDay
  split_ifs <;> simp_all [Tallies.ended, Tallies.zero]

namespace StepInvariant

variable {P : State → Prop}

/-! ### Permits and links -/

theorem endPermits (hP : StepInvariant P) {s : State} (h : P s) : P s.endPermits :=
  RecordInvariant.foldl (fun _ n => hP.endPermit n) _ h

theorem endOutPermits (hP : StepInvariant P) {s : State} (h : P s) : P s.endOutPermits := by
  unfold State.endOutPermits
  refine RecordInvariant.foldl (fun s n hs => ?_) _ h
  split
  · split
    · exact hP.endPermit n hs
    · exact hs
  · exact hs

theorem leaveService (hP : StepInvariant P) {s : State} (n : Nat) (h : P s) : P (s.leaveService n) := by
  have hs : P (s.modLink n fun l => { l with intake := [], answers := [] }) := hP.frame h
  unfold State.leaveService
  split
  · cases linkSeg? n with
    | none =>
      dsimp only
      split
      · exact hP.endPermits hs
      · exact hs
    | some g =>
      dsimp only
      split
      · refine hP.endPermits ?_
        exact hP.modSeg (fun _ => id) hs
      · exact hP.modSeg (fun _ => id) hs
  · exact h

theorem changeLink (hP : StepInvariant P) {s : State} (n : Nat) (new : LinkState) (h : P s) : P (s.changeLink n new) :=
  hP.frame h

theorem recoverLink (hP : StepInvariant P) {s : State} (n : Nat) (h : P s) : P (s.recoverLink n) := by
  unfold State.recoverLink
  split
  · exact hP.changeLink n _ (hP.changeLink n _ (hP.leaveService n h))
  · exact h

theorem recordFault (hP : StepInvariant P) {s : State} (r : FaultRecord) (h : P s) : P (s.recordFault r) := by
  have hstatus (m : NoticeUnit) : P { s with nfu := m } := hP.frame h
  have hnoted (m : NoticeUnit) (masked : Bool) :
      P (if masked then { s with nfu := m } else ({ s with nfu := m } : State).raise .fault) := by
    split
    · exact hstatus m
    · exact hP.raise _ (hstatus m)
  unfold State.recordFault
  dsimp only
  split
  · exact hP.recoverLink _ (hnoted _ _)
  · exact hnoted _ _

theorem retrain (hP : StepInvariant P) {s : State} (n : Nat) (h : P s) : P (s.retrain n) := by
  unfold State.retrain
  split
  · exact hP.frame h
  · exact hP.changeLink n _ (hP.leaveService n h)

theorem disableLink (hP : StepInvariant P) {s : State} (n : Nat) (h : P s) : P (disableLink n s).1 := by
  unfold Machine.disableLink
  split
  · exact h
  · dsimp only
    split
    · exact h
    · exact hP.changeLink n _ (hP.leaveService n h)

theorem retrainLink (hP : StepInvariant P) {s : State} (n : Nat) (h : P s) : P (retrainLink n s).1 := by
  unfold Machine.retrainLink
  split
  · exact h
  · exact hP.retrain n h

theorem retrainSegment (hP : StepInvariant P) {s : State} (g : Nat) (h : P s) : P (retrainSegment g s).1 := by
  unfold Machine.retrainSegment
  split
  · exact h
  · exact hP.retrain _ h

theorem endAttempt (hP : StepInvariant P) {s : State} (n : Nat) (h : P s) : P (s.endAttempt n) := by
  unfold State.endAttempt
  split
  · exact hP.frame h
  · exact hP.recordFault _ (hP.changeLink n _ h)

theorem intakeFrame (hP : StepInvariant P) {s : State} (n : Nat) (f : Frame) (h : P s) : P (s.intakeFrame n f) := by
  have hs := hP.stationArrives n f.kind h
  unfold State.intakeFrame
  dsimp only
  split
  · exact hP.frame hs
  · exact hP.recordFault _ hs

theorem frameArrives (hP : StepInvariant P) {s : State} (n : Nat) (bs : List Byte) (h : P s) :
    P (s.frameArrives n bs) := by
  have htraining : P (s.trainingArrival n bs) := by
    unfold State.trainingArrival
    split
    · split
      · exact hP.enterUp n h
      · exact h
    · exact h
  have hgood (f : Frame) : P (s.goodArrival n f) := by
    unfold State.goodArrival
    split
    · exact hP.frame h
    · exact hP.intakeFrame n f h
  unfold State.frameArrives
  split
  · exact htraining
  · split
    · exact hP.recordFault _ h
    · exact hP.recordFault _ h
    · exact hgood _
  · split
    · exact hP.recordFault _ h
    · exact hP.recordFault _ h
    · exact hgood _
  · exact h

theorem trainReplyArrives (hP : StepInvariant P) {s : State} (n hubKind : Nat) (h : P s) :
    P (s.trainReplyArrives n hubKind) := by
  unfold State.trainReplyArrives
  split
  · split
    · exact hP.enterUp n h
    · exact h
  · exact hP.frame h
  · exact hP.frame h
  · exact h

/-! ### Segments and doors -/

theorem onReply (hP : StepInvariant P) {s : State} (g : Nat) (asked : Asked) (f : Frame) {take : State → State}
    (htake : ∀ s, P s → P (take s)) (h : P s) : P (s.onReply g asked f take) := by
  have hended : P (s.modSeg g fun c => { c with outstanding := none, unreachable := 0 }) :=
    hP.modSeg (fun _ => Segment.wf_unreachable (by decide)) h
  unfold State.onReply
  split
  · exact hP.recordFault _ h
  · dsimp only
    split
    · exact hended
    · exact htake _ hended

theorem timeOut (hP : StepInvariant P) {s : State} (g : Nat) (o : Outstanding) (h : P s) : P (s.timeOut g o) := by
  have hended : P (s.modSeg g fun c => { c with outstanding := none }) := hP.modSeg (fun _ => id) h
  unfold State.timeOut
  dsimp only
  split
  · exact hended
  · have hfault := hP.recordFault (frameFault .replyTimeout (segLink g) o.frame) hended
    split
    · exact hfault
    · rename_i k _
      split
      · exact hfault
      · have hlock := hP.setLock g o.frame.station { k with state := .unreachable } hfault
        split
        · rename_i hlt
          exact hP.seg (Segment.wf_unreachable hlt) hlock
        · exact hP.recoverLink _ (hP.modSeg (fun _ => Segment.wf_unreachable (by decide)) hlock)

theorem endWait (hP : StepInvariant P) {s : State} (g : Nat) (h : P s) : P (s.endWait g) := by
  unfold State.endWait
  split
  · exact h
  · split
    · split
      · exact hP.resendFrame g _ h
      · exact hP.modSeg (fun _ => id) h
    · exact hP.timeOut g _ h

theorem modSeg_deriveWindow (hP : StepInvariant P) {s : State} {g : Nat} {f : Segment → Segment}
    (hf : ∀ c : Segment, c.wf → ({ f c with window := (f c).deriveWindow } : Segment).wf) (h : P s) :
    P ((s.modSeg g f).deriveWindow g) := by
  refine hP.settleStale g (hP.segTwice (fun hc => ?_) h)
  simp only [State.modSeg, State.seg_setSeg, if_true]
  exact hf _ hc

theorem setSegment (hP : StepInvariant P) {s : State} (g doze spacing window : Nat) (l : List (Nat × Bool)) (h : P s) :
    P (setSegment g doze spacing window l s).1 := by
  unfold Machine.setSegment
  split
  · exact h
  · rename_i hrange
    have hdoze : doze ≤ 5 := by omega
    split
    · exact h
    · dsimp only
      split
      · exact hP.wake g (hP.modSeg_deriveWindow (fun c => Segment.wf_settings hdoze _ _ _ _) h)
      · exact hP.modSeg_deriveWindow (fun c => Segment.wf_settings hdoze _ _ _ _) h

theorem present (hP : StepInvariant P) {s : State} (g : Nat) (f : Frame) (serial : Serial) (gen : Nat) (bolt : Bool)
    (h : P s) :
    P (s.present g f serial gen bolt) := by
  have hcontact : P (s.contactByCard g f.station bolt) := hP.modLock _ _ _ h
  unfold State.present
  split
  · exact hP.recordFault _ h
  · exact hP.queueAnswer _ _ (hP.frame hcontact)

/-! ### The purser port -/

theorem writeCommand (hP : StepInvariant P) {s : State} (bs : List Byte) (h : P s) : P (s.writeCommand bs) := by
  unfold State.writeCommand
  split
  · exact hP.recordFault _ h
  · split
    · exact hP.recordFault _ (hP.frame h)
    · exact hP.frame h
    · exact hP.frame h

theorem transaction (hP : StepInvariant P) {s : State} (sel : Byte) (rest : List Byte) (h : P s) :
    P (s.transaction sel rest) := by
  unfold State.transaction
  split
  · exact hP.writeCommand rest h
  · exact hP.recordFault _ h

/-! ### Persons and presence -/

theorem admitPerson (hP : StepInvariant P) {s : State} (a : Admission) (h : P s) : P (admitPerson a s).1 := by
  unfold Machine.admitPerson
  split_ifs with _ hfree _ _
  · exact h
  · exact h
  · exact h
  · exact h
  · have hs := hP.enlist (p := a.person) (r := admitted a s.sck.openDay) (by simpa using hfree) rfl rfl h
    refine hP.frame hs ?_
    dsimp only
    split <;> simp [State.parts, State.setCounts]

theorem releasePerson (hP : StepInvariant P) {s : State} (p : Nat) (w : Bool) (h : P s) : P (releasePerson p w s).1 :=
    by
  have hremoved : P (s.removeAndRevoke p) := hP.removeAndRevoke p h
  unfold Machine.releasePerson
  split
  · exact h
  · split
    · exact h
    · rename_i r hr
      split_ifs with _ hlane <;> try exact h
      all_goals
        have hnone := permitLane_removeAndRevoke (s := s) (p := p) (q := p) fun x hx => by
          rw [hr] at hx; cases hx; simpa using hlane
      · exact hP.free hnone hremoved
      · exact hP.free (by simpa [State.person?] using hnone) (hP.append _ _ _ _ hremoved)

theorem setPresence (hP : StepInvariant P) {s : State} (p : Nat) (new : Presence) (h : P s) :
    P (setPresence p new s).1 := by
  unfold Machine.setPresence
  split
  · exact h
  · split
    · exact h
    · dsimp only
      split_ifs
      · exact h
      · exact h
      · exact h
      · exact hP.removeAndRevoke p (hP.move p new h)
      · exact hP.move p new h

theorem nextEvidence (hP : StepInvariant P) {s : State} (h : P s) : P s.nextEvidence := by
  unfold State.nextEvidence
  split
  · exact h
  · rename_i e rest _
    have hs : P { s with pu := { s.pu with evidence := rest } } := hP.frame h
    unfold State.takeEvidence
    split
    · exact hs
    · split
      · exact hP.raise _ (hP.append _ _ _ _ (hP.move _ _ hs))
      · exact hs

/-! ### Lanes -/

theorem setLaneMode (hP : StepInvariant P) {s : State} (n point : Nat) (m : LaneMode) (h : P s) :
    P (setLaneMode n point m s).1 := by
  unfold Machine.setLaneMode
  split
  · exact h
  · have hs : P (s.setLane n { s.lane n with point := point, configured := m, effective := deriveMode s.closing m }) :=
      hP.lane (fun _ => rfl) rfl id h
    dsimp only
    split
    · exact hP.endPermit n hs
    · exact hs

theorem expireDeadline (hP : StepInvariant P) {s : State} (h : P s) : P s.expireDeadline := by
  unfold State.expireDeadline
  exact hP.raise _ (hP.rederive (s := s) rfl rfl rfl rfl id id h)

theorem armDeadline (hP : StepInvariant P) {s : State} (time : Nat) (h : P s) : P (armDeadline time s).1 := by
  unfold Machine.armDeadline
  split_ifs
  · exact h
  · exact h
  · exact hP.rederive (s := s) rfl rfl rfl rfl id id h

theorem disarmDeadline (hP : StepInvariant P) {s : State} (h : P s) : P (disarmDeadline s).1 := by
  unfold Machine.disarmDeadline
  split
  · exact hP.rederive (s := s) rfl rfl rfl rfl id id h
  · exact h

theorem scanLane (hP : StepInvariant P) {s : State} (n : Nat) (serial : Serial) (h : P s) :
    P (scanLane n serial s).1 := by
  unfold Machine.scanLane
  dsimp only
  split
  · exact h
  · rename_i hn
    split
    · exact h
    · split
      · exact h
      · split
        · exact hP.frame h
        · split
          · exact h
          · rename_i hpermit
            split
            · exact h
            · rename_i r hr
              split
              · exact h
              · rename_i hlane
                split
                · exact h
                · cases hd : scanDirection (s.lane n).effective r.presence with
                  | none =>
                    dsimp only
                    split
                    · exact h
                    · exact h
                  | some d =>
                    dsimp only
                    split
                    · exact h
                    · rename_i hfrom
                      split
                      · exact h
                      · have hmem : n ∈ laneNumbers := by
                          simp only [laneNumbers, List.mem_cons, List.not_mem_nil, or_false]; omega
                        exact hP.grant hmem (by simpa using hpermit) hr (by simpa using hlane) (by simpa using hfrom) h

theorem commitCrossing (hP : StepInvariant P) {s : State} {n : Nat} {k : Permit} (hk : (s.lane n).permit = some k)
    (h : P s) :
    P (s.commitCrossing n k) := by
  have hcrossed (f : Tallies → Tallies)
      (hf : ∀ t, (f t).granted = t.granted ∧ (t.ended < Config.topTally → (f t).ended = t.ended + 1)) (new : Presence) :
      P (((s.consumePermit n k f).movePresence k.person new).modPerson k.person fun r =>
        { r with lastLane := some n, lastCrossing := some s.sck.elapsed }) :=
    hP.modPerson (fun _ => ⟨rfl, rfl⟩) (hP.move _ _ (hP.consume hk hf h))
  unfold State.commitCrossing
  cases hd : k.direction with
  | outward =>
    have hs := hcrossed (fun t => { t with outward := tallyUp t.outward }) Tallies.ended_outward .ashore
    dsimp only
    split
    · exact hP.raise _ (hP.appendCrossing _ _ hs)
    · exact hP.appendCrossing _ _ hs
  | inward =>
    have hs := hcrossed (fun t => { t with inward := tallyUp t.inward }) Tallies.ended_inward .aboard
    dsimp only
    split
    · exact hP.raise _ (hP.appendCrossing _ _ hs)
    · exact hP.appendCrossing _ _ hs

theorem passLane (hP : StepInvariant P) {s : State} (n : Nat) (d : Direction) (h : P s) : P (passLane n d s).1 := by
  have hunscanned : P (s.unscannedPassage n d) :=
    hP.raise _ (hP.appendCrossing _ _ (hP.lane id rfl id h))
  unfold Machine.passLane
  split
  · exact h
  · dsimp only
    split
    · exact hunscanned
    · rename_i k hk
      split
      · exact hunscanned
      · split
        · exact hP.commitCrossing hk h
        · exact hP.raise _ (hP.appendCrossing _ _ (hP.consume hk Tallies.ended_stale h))

end StepInvariant
end Sys2Proof.Machine
end

section
/-! What every step keeps: requests, operations, settings, the clock and the pins; and the step. -/

namespace Sys2Proof.Machine

set_option Elab.async false
namespace StepInvariant

variable {P : State → Prop}

/-! ### Requests of the venues -/

theorem cardAsk (hP : StepInvariant P) {s : State} (f : Frame) (serial : Serial) (hold : Bool) (h : P s) :
    (∀ r, s.cardAsk f serial hold = .declined r → P r.state) ∧
      ∀ s1 v p r, s.cardAsk f serial hold = .passed s1 v p r → P s1 := by
  have hshown (e : Evidence) : P (s.sendEvidence e) := hP.frame h
  have hrevoked (p : Nat) (src : Source) : P (s.revokedUse p serial src) := hP.frame h
  unfold State.cardAsk
  split
  · exact ⟨fun r e => (by cases e; exact hP.recordFault _ h), fun _ _ _ _ e => (by cases e)⟩
  · split
    · exact ⟨fun r e => (by cases e; exact h), fun _ _ _ _ e => (by cases e)⟩
    · split
      · exact ⟨fun r e => (by cases e; exact h), fun _ _ _ _ e => (by cases e)⟩
      · split
        · exact ⟨fun r e => (by cases e; exact hrevoked _ _), fun _ _ _ _ e => (by cases e)⟩
        · dsimp only
          split
          · exact ⟨fun r e => (by cases e; exact hshown _), fun _ _ _ _ e => (by cases e)⟩
          · split
            · exact ⟨fun r e => (by cases e), fun _ _ _ _ e => (by cases e; exact hshown _)⟩
            · exact ⟨fun r e => (by cases e; exact hshown _), fun _ _ _ _ e => (by cases e)⟩

theorem openTab (hP : StepInvariant P) {s : State} (f : Frame) (serial : Serial) (h : P s) :
    P (openTab f serial s).state := by
  obtain ⟨hdeclined, hpassed⟩ := hP.cardAsk f serial true h
  unfold Machine.openTab
  split
  · exact hdeclined _ ‹_›
  · have hs := hpassed _ _ _ _ ‹_›
    split
    · exact hs
    · split
      · exact hs
      · exact hP.createTab _ _ _ _ (hP.roll _ hs)

theorem addLine (hP : StepInvariant P) {s : State} (terminal : Nat) (ref : TabRef) (c p q : Nat) (h : P s) :
    P (addLine terminal ref c p q s).state := by
  unfold Machine.addLine
  split
  · exact h
  · split
    · exact h
    · split
      · exact h
      · split
        · exact h
        · dsimp only
          split
          · exact hP.pruneIf _ _ h
          · exact hP.putLine _ _ _ _ (hP.pruneIf _ _ h)

theorem voidLast (hP : StepInvariant P) {s : State} (terminal : Nat) (ref : TabRef) (h : P s) :
    P (voidLast terminal ref s).state := by
  unfold Machine.voidLast
  split
  · exact h
  · split
    · exact h
    · exact hP.modPerson (fun _ => ⟨rfl, rfl⟩) (hP.frame h)

theorem closeTabRequest (hP : StepInvariant P) {s : State} (terminal : Nat) (ref : TabRef) (tip : Nat) (h : P s) :
    P (closeTab terminal ref tip s).state := by
  unfold Machine.closeTab
  split
  · exact h
  · rename_i t _
    obtain ⟨hempty, hcharged⟩ := hP.closeTab ref.slot t tip false false h
    split
    · exact hempty _ ‹_›
    · exact h
    · exact hcharged _ _ _ _ _ ‹_›

theorem sellQuick (hP : StepInvariant P) {s : State} (n terminal venue p : Nat) (line : Line) (c : LineCheck)
    (tip : Nat)
    (h : P s) : P (s.sellQuick n terminal venue p line c tip).state := by
  have hopened := hP.createTab n terminal venue p (hP.pruneIf p c.capChecked (hP.roll p h))
  unfold State.sellQuick
  dsimp only
  split
  · exact (hP.closeTab n _ tip false true (hP.putLine n _ line c.total hopened)).1 _ ‹_›
  · exact h
  · exact (hP.closeTab n _ tip false true (hP.putLine n _ line c.total hopened)).2 _ _ _ _ _ ‹_›

theorem quickSale (hP : StepInvariant P) {s : State} (f : Frame) (serial : Serial) (c p q tip : Nat) (h : P s) :
    P (quickSale f serial c p q tip s).state := by
  obtain ⟨hdeclined, hpassed⟩ := hP.cardAsk f serial true h
  unfold Machine.quickSale
  split
  · exact hdeclined _ ‹_›
  · have hs := hpassed _ _ _ _ ‹_›
    split
    · exact hs
    · dsimp only
      split
      · exact hs
      · split
        · exact hs
        · exact hP.sellQuick _ _ _ _ _ _ _ hs

theorem queryBalance (hP : StepInvariant P) {s : State} (f : Frame) (serial : Serial) (h : P s) :
    P (queryBalance f serial s).state := by
  obtain ⟨hdeclined, hpassed⟩ := hP.cardAsk f serial false h
  unfold Machine.queryBalance
  split
  · exact hdeclined _ ‹_›
  · exact hpassed _ _ _ _ ‹_›

theorem onVenue (hP : StepInvariant P) {s : State} (f : Frame) (ref : Option TabRef) (category : Option Nat)
    {serve : State → Served} (hserve : P (serve s).state) (h : P s) : P (s.onVenue f ref category serve) := by
  have hreported (v terminal : Nat) (p c : Option Nat) (code : Code) :
      P ((serve s).state.reportRefusal v terminal p c code) := hP.frame hserve
  unfold State.onVenue
  split
  · exact hP.recordFault _ h
  · refine hP.queueAnswer _ _ ?_
    split
    · split
      · exact hreported _ _ _ _ _
      · exact hserve
    · exact hserve

/-! ### Operations -/

theorem setOperation (hP : StepInvariant P) {s : State} (o : Operation) (h : P s) : P (s.setOperation o) := hP.frame h

theorem endOperation (hP : StepInvariant P) {s : State} (r : OpResult) (h : P s) : P (s.endOperation r) := hP.frame h

theorem opAdvance (hP : StepInvariant P) {s : State} (n a b c : Nat) (h : P s) : P (s.opAdvance n a b c) := hP.frame h

theorem startDayClose (hP : StepInvariant P) {s : State} (h : P s) : P s.startDayClose.1 := by
  have hday : P { s with sck := { s.sck with openDay := nextDay s.sck.openDay } } := hP.frame h
  exact hP.servings _ (hP.append _ _ _ _
    (RecordInvariant.foldl (fun s n hs => hP.lane (l := (s.lane n).newDay) id rfl (fun _ => Lane.newDay_balanced _) hs) _ hday))

theorem startOperation (hP : StepInvariant P) {s : State} (code first last : Nat) (h : P s) :
    P (startOperation code first last s).1 := by
  unfold Machine.startOperation
  split
  · exact h
  · split
    · exact h
    · split
      · exact h
      · split
        · split
          · exact h
          · exact hP.setOperation _ (hP.startDayClose h)
        · exact hP.setOperation _ h

theorem personsStep (hP : StepInvariant P) {s : State} (h : P s) : P s.personsStep := by
  unfold State.personsStep
  split
  · exact hP.setOperation _ h
  · split
    · exact hP.opAdvance _ _ _ _ h
    · split
      · split
        · exact hP.frame h
        · exact hP.opAdvance _ _ _ _ (hP.roll _ h)
      · exact hP.opAdvance _ _ _ _ h

theorem cabinsStep (hP : StepInvariant P) {s : State} (h : P s) : P s.cabinsStep := by
  unfold State.cabinsStep
  split
  · exact hP.endOperation _ h
  · dsimp only
    split
    · exact hP.opAdvance _ _ _ _ h
    · split
      · exact hP.opAdvance _ _ _ _ h
      · exact hP.opAdvance _ _ _ _ (hP.rekey _ h)

theorem disembarkStep (hP : StepInvariant P) {s : State} (h : P s) : P s.disembarkStep := by
  unfold State.disembarkStep
  split
  · exact hP.endOperation _ h
  · split
    · exact hP.opAdvance _ _ _ _ h
    · split
      · exact hP.opAdvance _ _ _ _ h
      · split
        · exact hP.opAdvance _ _ _ _ h
        · split
          · exact hP.opAdvance _ _ _ _ h
          · split
            · exact hP.frame h
            · exact hP.opAdvance _ _ _ _ (hP.append _ _ _ _ (hP.move _ _ (hP.removeAndRevoke _ h)))

/-! ### Settings -/

/-- A write of the settings alone, which leaves them in their ranges. -/
theorem settings (hP : StepInvariant P) {s t : State} (hs : s.settingsHold → t.settingsHold) (h : P s)
    (hpt : t.pt = s.pt := by rfl) (hcounts : t.pu.counts = s.pu.counts := by rfl) (hlanes : t.pu.lanes = s.pu.lanes := by rfl)
    (hsc : t.sc = s.sc := by rfl) (hdeadline : t.pu.deadline = s.pu.deadline := by rfl) (hsck : t.sck = s.sck := by rfl) :
    P t :=
  hP.outside hpt hcounts hlanes hsc (by simp [State.closing, hdeadline, hsck]) hs
    (State.clocksHold_of_eq (by rw [hsck]) (by rw [hsck]) (by rw [hsck]) (by rw [hsck])) h

theorem setPermitWindow (hP : StepInvariant P) {s : State} (n : Nat) (h : P s) : P (setPermitWindow n s).1 := by
  obtain ⟨hlow, hhigh⟩ := clamp_mem n (by decide : 3 ≤ 30)
  exact hP.settings (s := s) (fun ⟨_, _, hrest⟩ => ⟨hlow, hhigh, hrest⟩) h

theorem setCap (hP : StepInvariant P) {s : State} (c : BitVec 16) (n : Nat) (h : P s) : P (setCap c n s).1 := by
  obtain ⟨hlow, hhigh⟩ := clamp_mem n (by decide : 10 ≤ 240)
  exact hP.settings (s := s) (fun ⟨h1, h2, _, _, hrest⟩ => ⟨h1, h2, hlow, hhigh, hrest⟩) h

theorem setVenue (hP : StepInvariant P) {s : State} (v : Nat) (row : VenueRow) (h : P s) : P (setVenue v row s).1 := by
  unfold Machine.setVenue
  split_ifs
  · exact h
  · exact h
  · refine hP.settings (s := s) (fun ⟨h1, h2, h3, h4, hvenues, hclasses⟩ => ⟨h1, h2, h3, h4, fun u => ?_, hclasses⟩) h
    unfold State.venue
    rw [getD_setD]
    split
    · exact ⟨min_le_right _ _, min_le_right _ _⟩
    · exact hvenues u

theorem setClass (hP : StepInvariant P) {s : State} (c rate code : Nat) (h : P s) : P (setClass c rate code s).1 := by
  unfold Machine.setClass
  split
  · exact h
  · rename_i hrange
    refine hP.settings (s := s) (fun ⟨h1, h2, h3, h4, hvenues, hclasses⟩ => ⟨h1, h2, h3, h4, hvenues, fun d => ?_⟩) h
    unfold State.classRow
    rw [getD_setD]
    split
    · refine ⟨min_le_right _ _, fun k hk => ?_⟩
      simp only [capOfCode] at hk
      split at hk
      · cases hk
      · cases hk
        omega
    · exact hclasses d

theorem setRestriction (hP : StepInvariant P) {s : State} (c v : Nat) (b : BitVec 16) (h : P s) :
    P (setRestriction c v b s).1 := by
  unfold Machine.setRestriction
  split
  · exact h
  · exact hP.settings (s := s) id h

/-! ### The clock and the millisecond -/

/-- A write of the clock alone, which leaves it in its ranges and the muster state as it is. -/
theorem clock (hP : StepInvariant P) {s : State} (c : ShipClock) (hm : c.muster = s.sck.muster)
    (hc : s.clocksHold → ({ s with sck := c } : State).clocksHold) (h : P s) : P { s with sck := c } :=
  hP.outside (s := s) rfl rfl rfl rfl (by simp [State.closing, hm]) id hc h

/-- A flag of an operation in flight is latched (R143). -/
theorem setOperationIf (hP : StepInvariant P) {s : State} (flight : Bool) (o : Operation) (h : P s) :
    P (if flight then s.setOperation o else s) := by
  split
  · exact hP.setOperation o h
  · exact h

/-- A deadline that the clock has reached expires (R41). -/
theorem expireReached (hP : StepInvariant P) {s : State} (h : P s) :
    P (if s.deadlineReached then s.expireDeadline else s) := by
  split
  · exact hP.expireDeadline h
  · exact h

theorem setClock (hP : StepInvariant P) {s : State} (time : Nat) (h : P s) : P (setClock time s).1 := by
  unfold Machine.setClock
  split
  · exact h
  · rename_i hrange
    have hlt : time < 2 ^ 32 := by simp only [Config.top32] at hrange; omega
    have hwritten : P { s with sck := { s.sck with clock := time, clockSet := true } } :=
      hP.clock _ rfl (fun ⟨_, hrest⟩ => ⟨hlt, hrest⟩) h
    exact hP.setOperationIf _ _ (hP.expireReached (hP.servings _ hwritten))

theorem tick (hP : StepInvariant P) {s : State} (h : P s) : P s.tick := by
  have hrun (hc : s.clocksHold) : s.sck.run.clock < 2 ^ 32 ∧ s.sck.run.ms < 1000 ∧
      s.sck.run.musterHold = s.sck.musterHold ∧ s.sck.run.elapsed = s.sck.elapsed := by
    obtain ⟨hclock, -, hms, -⟩ := hc
    unfold ShipClock.run
    split
    · split
      · exact ⟨hclock, ‹_›, rfl, rfl⟩
      · have hsecond : (if s.sck.clock < Config.top32 then s.sck.clock + 1 else s.sck.clock) < 2 ^ 32 := by
          have htop : Config.top32 = 4294967295 := rfl
          split_ifs <;> omega
        exact ⟨hsecond, (by decide : 0 < 1000), rfl, rfl⟩
    · exact ⟨hclock, hms, rfl, rfl⟩
  unfold State.tick
  dsimp only
  split
  · refine RecordInvariant.foldl (fun s g hs => ?_) _ (hP.clock _ ?_ (fun hc => ?_) h)
    · unfold State.countDoze
      split
      · exact hP.modSeg (fun _ => Segment.wf_dozeCount) hs
      · exact hs
    · simp only [ShipClock.filter_eq, ShipClock.run_eq]
    · obtain ⟨hclock, hms, -, -⟩ := hrun hc
      have hhold := s.sck.run.filter_hold_lt
      rw [ShipClock.filter_eq] at hhold ⊢
      exact ⟨hclock, nextMs_lt _, hms, hhold⟩
  · refine hP.clock _ (by rw [ShipClock.run_eq]) (fun hc => ?_) h
    obtain ⟨hclock, hms, hhold, helapsed⟩ := hrun hc
    obtain ⟨-, h2, -, h4⟩ := hc
    exact ⟨hclock, by rw [helapsed]; exact h2, hms, by rw [hhold]; exact h4⟩

/-! ### The MUSTER line, the supplies and the resets -/

theorem enterMuster (hP : StepInvariant P) {s : State} (keep : Bool) (h : P s) : P (s.enterMuster keep) := by
  unfold State.enterMuster
  dsimp only
  refine hP.setOperationIf _ _ ?_
  refine RecordInvariant.foldl (fun _ g => hP.releaseSegment g) _ (hP.endOutPermits ?_)
  cases keep
  · exact hP.rederive (s := s) rfl rfl rfl rfl id id h
  · exact hP.rederive (s := s) rfl rfl rfl rfl id id h

theorem leaveMuster (hP : StepInvariant P) {s : State} (h : P s) : P s.leaveMuster := by
  have hderived : P (({ s with sck := { s.sck with muster := false } } : State).raise .muster).deriveModes :=
    hP.rederive (s := s) rfl rfl rfl rfl id id h
  exact RecordInvariant.foldl (fun _ g => hP.restoreSegment g) _ hderived

theorem sampleMuster (hP : StepInvariant P) {s : State} (was : Bool) (h : P s) : P (s.sampleMuster was) := by
  unfold State.sampleMuster
  split
  · exact hP.enterMuster was h
  · split
    · exact hP.leaveMuster h
    · exact h

theorem coldReset (hP : StepInvariant P) {s : State} (h : P s) : P s.coldReset :=
  hP.sampleMuster false (hP.cold (s := s) rfl rfl rfl rfl rfl rfl rfl rfl rfl h)

theorem warmReset (hP : StepInvariant P) {s : State} (h : P s) : P s.warmReset :=
  hP.expireReached (hP.sampleMuster s.sck.muster (hP.warm h))

theorem markedReset (hP : StepInvariant P) {s : State} (h : P s) : P s.markedReset := by
  unfold State.markedReset
  split
  · exact hP.warmReset h
  · exact hP.coldReset h

theorem loseMain (hP : StepInvariant P) {s : State} (h : P s) : P s.loseMain := by
  have hs := hP.segsEnded h
  exact hP.frame hs rfl

theorem regainMain (hP : StepInvariant P) {s : State} (level : Bool) (h : P s) : P (s.regainMain level) := by
  have hs : P { s with sck := { s.sck with supm := true, musterLevel := level, musterLine := level, musterHold := 0 } } :=
    hP.clock _ rfl (fun ⟨h1, h2, h3, _⟩ => ⟨h1, h2, h3, (by decide : 0 < 50)⟩) h
  unfold State.regainMain
  dsimp only
  split
  · exact hP.frame hs
  · exact hP.markedReset hs

theorem releaseReset (hP : StepInvariant P) {s : State} (h : P s) : P s.releaseReset := by
  have hs : P { s with sck := { s.sck with resetLine := false } } := hP.frame h
  unfold State.releaseReset
  dsimp only
  split
  · exact hs
  · split
    · exact hP.markedReset hs
    · exact hP.warmReset hs

theorem musterChange (hP : StepInvariant P) {s : State} (level : Bool) {taken : State → State} (ht : P (taken s))
    (h : P s) :
    P (s.musterChange level taken) := by
  unfold State.musterChange State.setMusterLine
  split
  · exact h
  · split
    · exact ht
    · split
      · exact h
      · exact hP.clock _ rfl (fun ⟨h1, h2, h3, _⟩ => ⟨h1, h2, h3, (by decide : 0 < 50)⟩) h

theorem musterRise (hP : StepInvariant P) {s : State} (h : P s) : P s.musterRise :=
  hP.musterChange true (taken := fun s => s.enterMuster false) (hP.enterMuster false h) h

theorem musterFall (hP : StepInvariant P) {s : State} (h : P s) : P s.musterFall :=
  hP.musterChange false (hP.leaveMuster h) h

theorem clearAll (hP : StepInvariant P) {s : State} (h : P s) : P (clearAll s).1 := by
  unfold Machine.clearAll
  split_ifs
  · exact h
  · exact h
  · exact h
  · exact hP.voyageClear h

/-! ### The step -/

theorem onCommand (hP : StepInvariant P) {s t : State} {i : Instr} {tag : Tag} {owner : State → State × Reply}
    (howner : P (owner s).1) (h : P s) (ht : s.onCommand i tag owner = .next t) : P t := by
  unfold State.onCommand at ht
  split at ht
  · cases ht
    exact hP.frame howner
  · cases ht
    exact h

theorem onFrame (hP : StepInvariant P) {s t : State} {i : Instr} {owner : Nat → Frame → State → State}
    (howner : ∀ n f s, P s → P (owner n f s)) (h : P s) (ht : s.onFrame i owner = .next t) : P t := by
  unfold State.onFrame at ht
  split at ht
  · cases ht
    exact h
  · split at ht
    · cases ht
      exact h
    · cases ht
      exact howner _ _ _ (hP.takeFrame ‹_› h)

theorem onEvent (_ : StepInvariant P) {s t : State} {due : Bool} {effect : State → State} (heffect : P (effect s))
    (h : P s) (ht : s.onEvent due effect = .next t) : P t := by
  unfold State.onEvent at ht
  split at ht
  · cases ht
    exact heffect
  · cases ht
    exact h

theorem onRead (hP : StepInvariant P) {s t : State} (n : Nat) (h : P s) (ht : s.onRead n = .next t) : P t := by
  unfold State.onRead at ht
  split at ht <;> cases ht
  · exact hP.frame h
  · exact h

theorem commandWrite (hP : StepInvariant P) {s t : State} (bs : List Byte) (h : P s)
    (ht : execCommandWrite bs s = .next t) :
    P t := by
  unfold execCommandWrite at ht
  split at ht
  · cases ht
    exact h
  · split at ht
    · exact hP.onRead _ h ht
    · exact hP.onEvent (effect := fun s => s.transaction _ _) (hP.transaction _ _ h) h ht

/-- Every command and event keeps the property. -/
theorem exec (hP : StepInvariant P) {s t : State} (i : Instr) (h : P s) (ht : exec i s = .next t) : P t := by
  have command {i : Instr} {tag : Tag} {owner : State → State × Reply} (howner : P (owner s).1)
      (ht : s.onCommand i tag owner = .next t) : P t := hP.onCommand howner h ht
  have event {due : Bool} {effect : State → State} (heffect : P (effect s))
      (ht : s.onEvent due effect = .next t) : P t := hP.onEvent heffect h ht
  have pin {u : State} (hu : P u) (ht : .next u = (.next t : Host.Outcome State Fault Refusal)) : P t := by
    cases ht
    exact hu
  have pinIf {b : Bool} {u v : State} (hu : P u) (hv : P v)
      (ht : .next (if b then u else v) = (.next t : Host.Outcome State Fault Refusal)) : P t := by
    cases b <;> cases ht
    · exact hv
    · exact hu
  have unrelated {u : State} (e : u.parts = s.parts := by simp [State.parts]) : P u := hP.frame h e
  cases i <;> dsimp only [Machine.exec] at ht
  case admitPerson tag a => exact command (hP.admitPerson a h) ht
  case amendPerson tag p a => exact command (hP.amendPerson p a h) ht
  case releasePerson tag p w => exact command (hP.releasePerson p w h) ht
  case issueCard tag p serial => exact command (hP.issueCard p serial h) ht
  case revokeCard tag serial => exact command (hP.revokeCard serial h) ht
  case setCabin tag c u l => exact command unrelated ht
  case rekeyCabin tag c => exact command (hP.rekeyCabin c h) ht
  case postPayment tag p a => exact command (hP.postPayment p a h) ht
  case readPerson tag p => exact command unrelated ht
  case readCard tag serial => exact command unrelated ht
  case readCabin tag c => exact command unrelated ht
  case setLane tag n point m => exact command (hP.setLaneMode n point m h) ht
  case setPermitWindow tag n => exact command (hP.setPermitWindow n h) ht
  case setPresence tag p st => exact command (hP.setPresence p st h) ht
  case armDeadline tag time => exact command (hP.armDeadline time h) ht
  case disarmDeadline tag => exact command (hP.disarmDeadline h) ht
  case readCounts tag => exact command unrelated ht
  case enrolLock tag g st k => exact command (hP.enrolLock g st k h) ht
  case withdrawLock tag g st => exact command (hP.withdrawLock g st h) ht
  case setSegment tag g d sp w l => exact command (hP.setSegment g d sp w l h) ht
  case retrainSegment tag g => exact command (hP.retrainSegment g h) ht
  case readSegment tag g f n => exact command unrelated ht
  case allRelease tag g => exact command (hP.allRelease g h) ht
  case allRestore tag g => exact command (hP.allRestore g h) ht
  case bindTerminal tag m v => exact command unrelated ht
  case setHold tag v b => exact command unrelated ht
  case forceClose tag n => exact command (hP.forceClose n h) ht
  case setRestriction tag c v b => exact command (hP.setRestriction c v b h) ht
  case setRefusalReporting tag v r n => exact command unrelated ht
  case readTab tag n => exact command unrelated ht
  case readTerminal tag m => exact command unrelated ht
  case setVenue tag v row => exact command (hP.setVenue v row h) ht
  case setClass tag c r k => exact command (hP.setClass c r k h) ht
  case setTaxState tag x => exact command (hP.settings (s := s) id h) ht
  case setCap tag c w => exact command (hP.setCap c w h) ht
  case readVenueSettings tag => exact command unrelated ht
  case takePosting tag => exact command unrelated ht
  case readQueueStatus tag => exact command unrelated ht
  case startOperation tag k f l => exact command (hP.startOperation k f l h) ht
  case abortOperation tag => exact command unrelated ht
  case readOperation tag => exact command unrelated ht
  case setClock tag time => exact command (hP.setClock time h) ht
  case clearAll tag => exact command (hP.clearAll h) ht
  case readClock tag => exact command unrelated ht
  case enableLink tag n => exact command unrelated ht
  case disableLink tag n => exact command (hP.disableLink n h) ht
  case retrainLink tag n => exact command (hP.retrainLink n h) ht
  case readLink tag n => exact command unrelated ht
  case readNotices tag => exact command unrelated ht
  case clearNotices tag k => exact command unrelated ht
  case setEnables tag k => exact command unrelated ht
  case readFaults tag => exact command unrelated ht
  case clearFaults tag k => exact command unrelated ht
  case setMasks tag m v => exact command unrelated ht
  case commandWrite bs => exact hP.commandWrite bs h ht
  case answerRead n => exact hP.onRead n h ht
  case linkFrameArrival n bs => exact event (hP.frameArrives n bs h) ht
  case trainReply n k => exact event (hP.trainReplyArrives n k h) ht
  case presentation g st tag serial gen bolt => exact hP.onFrame (fun _ f _ hs => hP.present g f serial gen bolt hs) h ht
  case pushAck g st tag floor =>
    exact hP.onFrame (fun _ f _ hs => hP.onReply g _ f
      (fun _ hs => hP.withLock g st (fun k => hP.takePushAck g st k floor hs) hs) hs) h ht
  case pollReply g st tag r =>
    exact hP.onFrame (fun _ f _ hs => hP.onReply g _ f
      (fun _ hs => hP.withLock g st (fun k => hP.takePollReply g st k r hs) hs) hs) h ht
  case logReply g st tag r =>
    exact hP.onFrame (fun _ f _ hs => hP.onReply g _ f
      (fun _ hs => hP.withLock g st (fun _ => hP.takeLogReply g st r hs) hs) hs) h ht
  case openTab st tag serial => exact hP.onFrame (fun _ f _ hs => hP.onVenue f _ _ (hP.openTab f serial hs) hs) h ht
  case addLine st tag ref c p q => exact hP.onFrame (fun _ f _ hs => hP.onVenue f _ _ (hP.addLine st ref c p q hs) hs) h ht
  case voidLast st tag ref => exact hP.onFrame (fun _ f _ hs => hP.onVenue f _ _ (hP.voidLast st ref hs) hs) h ht
  case closeTab st tag ref tip => exact hP.onFrame (fun _ f _ hs => hP.onVenue f _ _ (hP.closeTabRequest st ref tip hs) hs) h ht
  case quickSale st tag serial c p q tip =>
    exact hP.onFrame (fun _ f _ hs => hP.onVenue f _ _ (hP.quickSale f serial c p q tip hs) hs) h ht
  case queryBalance st tag serial => exact hP.onFrame (fun _ f _ hs => hP.onVenue f _ _ (hP.queryBalance f serial hs) hs) h ht
  case scan n tag serial => exact hP.onFrame (fun _ _ _ hs => hP.queueAnswer _ _ (hP.scanLane n serial hs)) h ht
  case passage n tag d => exact hP.onFrame (fun _ _ _ hs => hP.queueAnswer _ _ (hP.passLane n d hs)) h ht
  case evidence => exact event (hP.nextEvidence h) ht
  case permitExpiry n => exact event (hP.endPermit n h) ht
  case deadlineExpiry => exact event (hP.expireDeadline h) ht
  case doorAnswer g => exact event (hP.sendDoorAnswer g h) ht
  case broadcast g => exact event (hP.sendBroadcast g h) ht
  case push g => exact event (hP.sendPush g h) ht
  case logFetch g => exact event (hP.sendFetch g h) ht
  case poll g => exact event (hP.sendPoll g h) ht
  case venueAnswer => exact event unrelated ht
  case laneAnswer => exact event unrelated ht
  case replyWaitExpiry g => exact event (hP.endWait g h) ht
  case contactDeadline g st => exact event (hP.makeStale g st h) ht
  case doze g => exact event (hP.endMeasure g h) ht
  case train n => exact event unrelated ht
  case trainingAttemptEnd n => exact event (hP.endAttempt n h) ht
  case keepaliveSend n => exact event unrelated ht
  case hubSilent n => exact event (hP.recordFault _ h) ht
  case musterEntry => exact pin (hP.musterRise h) ht
  case musterExit => exact pin (hP.musterFall h) ht
  case supmLoss => exact pinIf (hP.loseMain h) h ht
  case supmReturn level => exact pinIf h (hP.regainMain level h) ht
  case supbLoss => exact pin unrelated ht
  case resetAssert => exact pin unrelated ht
  case resetRelease => exact pinIf (hP.releaseReset h) h ht
  case dayClosePersonsStep => exact event (hP.personsStep h) ht
  case dayCloseCardsStep => exact event unrelated ht
  case cabinRekeyStep => exact event (hP.cabinsStep h) ht
  case finalDisembarkStep => exact event (hP.disembarkStep h) ht
  case resend g => exact event (hP.sendHeldBack g h) ht
  case supbReturn => exact pin unrelated ht

/-- A property of this kind is kept by every step, whatever waits in the queue. -/
theorem step (hP : StepInvariant P) {s t : State} (h : P s) (ht : step s = .next t) : P t := by
  unfold Machine.step at ht
  split at ht
  · exact hP.exec _ (hP.frame h) ht
  · unfold State.idle at ht
    split at ht
    · cases ht
      exact hP.frame h
    · split at ht
      · exact hP.exec _ h ht
      · cases ht
        exact hP.tick h

end StepInvariant
end Sys2Proof.Machine
end

section
/-! Permits and lanes: what a lane and a person read after a permit has ended, and after the modes are derived again. -/

namespace Sys2Proof.Machine

set_option Elab.async false

/-- The lane that a person's record names as holding its permit (R26). -/
def State.permitLaneOf (s : State) (q : Nat) : Option Nat := (s.person? q).bind (·.permitLane)

theorem State.permitLaneOf_setPerson (s : State) (p q : Nat) (r : Person) :
    (s.setPerson p r).permitLaneOf q = if q = p then r.permitLane else s.permitLaneOf q := by
  unfold State.permitLaneOf
  rw [State.person?_setPerson]
  split <;> rfl

/-- A lane whose permit has ended, its tallies counted by `f` (R32 to R34, R37). -/
def Lane.ended (l : Lane) (f : Tallies → Tallies) : Lane := { l with permit := none, tallies := f l.tallies }

theorem State.lane_consumePermit (s : State) (n m : Nat) (k : Permit) (f : Tallies → Tallies) :
    (s.consumePermit n k f).lane m = if m = n then (s.lane n).ended f else s.lane m := by
  show State.lane (State.modPerson _ _ _) m = _
  unfold State.lane
  rw [State.modPerson_pu]
  exact s.lane_setLane n m _

theorem State.person?_consumePermit (s : State) (n q : Nat) (k : Permit) (f : Tallies → Tallies) :
    (s.consumePermit n k f).person? q =
      if q = k.person then (s.person? q).map fun r => { r with permitLane := none } else s.person? q :=
  State.person?_modPerson _ _ _ _

theorem State.permitLaneOf_consumePermit (s : State) (n q : Nat) (k : Permit) (f : Tallies → Tallies) :
    (s.consumePermit n k f).permitLaneOf q = if q = k.person then none else s.permitLaneOf q := by
  unfold State.permitLaneOf
  rw [State.person?_consumePermit]
  split
  · cases s.person? q <;> rfl
  · rfl

/-- The tally that a permit which ends without a passage counts (R32, R37). -/
def Tallies.unpassed (t : Tallies) : Tallies := { t with scanNoPass := tallyUp t.scanNoPass }

/-- R32, R37: a permit that ends without a passage is one consumed, with its own tally. -/
theorem State.endPermit_of_some {s : State} {n : Nat} {k : Permit} (h : (s.lane n).permit = some k) :
    s.endPermit n = s.consumePermit n k Tallies.unpassed := by
  unfold State.endPermit
  dsimp only
  rw [h]
  rfl

theorem State.endPermit_of_none {s : State} {n : Nat} (h : (s.lane n).permit = none) : s.endPermit n = s := by
  unfold State.endPermit
  dsimp only
  rw [h]

theorem State.lane_endPermit (s : State) (n m : Nat) :
    (s.endPermit n).lane m =
      if m = n ∧ (s.lane n).permit.isSome then (s.lane n).ended Tallies.unpassed else s.lane m := by
  cases h : (s.lane n).permit with
  | none => simp [State.endPermit_of_none h]
  | some k => rw [State.endPermit_of_some h, State.lane_consumePermit]; simp

theorem State.person?_endPermit (s : State) (n q : Nat) :
    (s.endPermit n).person? q = (s.person? q).map fun r =>
      if (s.lane n).permit.any (fun k => decide (k.person = q)) then { r with permitLane := none } else r := by
  cases h : (s.lane n).permit with
  | none => simp [State.endPermit_of_none h]
  | some k =>
    rw [State.endPermit_of_some h, State.person?_consumePermit]
    by_cases hq : q = k.person
    · simp [hq]
    · simp [hq, Ne.symm hq]

/-! ### Withdrawals (R37) -/

/-- R37: a lane's permit withdrawn, where it is one of those named. -/
def State.withdraw (which : Permit → Bool) (s : State) (n : Nat) : State :=
  if (s.lane n).permit.any which then s.endPermit n else s

theorem State.endPermits_eq (s : State) : s.endPermits = laneNumbers.foldl (State.withdraw fun _ => true) s := by
  unfold State.endPermits
  congr 1
  funext s n
  unfold State.withdraw
  cases h : (s.lane n).permit with
  | none => simp [State.endPermit_of_none h]
  | some k => simp

theorem State.endOutPermits_eq (s : State) :
    s.endOutPermits = laneNumbers.foldl (State.withdraw fun k => decide (k.direction = .outward)) s := by
  unfold State.endOutPermits
  congr 1
  funext s n
  unfold State.withdraw
  cases (s.lane n).permit with
  | none => simp
  | some k => simp

theorem State.lane_withdraw (which : Permit → Bool) (s : State) (n m : Nat) :
    (s.withdraw which n).lane m =
      if m = n ∧ (s.lane n).permit.any which then (s.lane n).ended Tallies.unpassed else s.lane m := by
  unfold State.withdraw
  cases hk : (s.lane n).permit with
  | none => simp
  | some k =>
    by_cases hw : which k
    · simp [hw, State.lane_endPermit, hk]
    · simp [hw]

theorem State.person?_withdraw (which : Permit → Bool) (s : State) (n q : Nat) :
    (s.withdraw which n).person? q = (s.person? q).map fun r =>
      if (s.lane n).permit.any (fun k => which k && decide (k.person = q)) then { r with permitLane := none } else r := by
  unfold State.withdraw
  cases hk : (s.lane n).permit with
  | none => simp
  | some k =>
    by_cases hw : which k
    · simp [hw, State.person?_endPermit, hk]
    · simp [hw]

/-- R37: what each lane and each person reads after the lanes of a list have been gone through. -/
theorem State.withdraw_foldl (which : Permit → Bool) (ns : List Nat) (hn : ns.Nodup) (s : State) :
    (∀ m, (ns.foldl (State.withdraw which) s).lane m =
      if m ∈ ns ∧ (s.lane m).permit.any which then (s.lane m).ended Tallies.unpassed else s.lane m) ∧
    ∀ q, (ns.foldl (State.withdraw which) s).person? q = (s.person? q).map fun r =>
      if ns.any fun m => (s.lane m).permit.any fun k => which k && decide (k.person = q) then
        { r with permitLane := none } else r := by
  induction ns generalizing s with
  | nil => simp
  | cons n ns ih =>
    obtain ⟨hnot, hnodup⟩ := List.nodup_cons.mp hn
    obtain ⟨hlane, hperson⟩ := ih hnodup (s.withdraw which n)
    have hother (m : Nat) (hm : m ∈ ns) : (s.withdraw which n).lane m = s.lane m := by
      rw [State.lane_withdraw, if_neg]
      rintro ⟨rfl, -⟩
      exact hnot hm
    refine ⟨fun m => ?_, fun q => ?_⟩
    · rw [List.foldl_cons, hlane]
      by_cases hm : m ∈ ns
      · simp [hm, hother m hm]
      · rw [State.lane_withdraw]
        by_cases hmn : m = n
        · subst hmn; simp [hm]
        · simp [hm, hmn]
    · rw [List.foldl_cons, hperson, State.person?_withdraw]
      have hany : (ns.any fun m => ((s.withdraw which n).lane m).permit.any fun k => which k && decide (k.person = q)) =
          ns.any fun m => (s.lane m).permit.any fun k => which k && decide (k.person = q) := by
        rw [Bool.eq_iff_iff, List.any_eq_true, List.any_eq_true]
        exact exists_congr fun m => and_congr_right fun hm => by rw [hother m hm]
      rw [hany, Option.map_map, List.any_cons]
      congr 1
      funext r
      generalize (s.lane n).permit.any _ = first
      generalize ns.any _ = later
      cases first <;> cases later <;> rfl

theorem tallyUp_eq (n : Nat) : tallyUp n = min 65535 (n + 1) := by
  unfold tallyUp Config.topTally
  split <;> omega

/-- R37: the permits named by `which` are withdrawn from every lane. -/
theorem State.permitsWithdrawn_foldl (which : Permit → Bool) (s : State) :
    s.permitsWithdrawn (laneNumbers.foldl (State.withdraw which) s) which := by
  obtain ⟨hlane, hperson⟩ := State.withdraw_foldl which laneNumbers (by decide) s
  refine ⟨fun n => ?_, hperson⟩
  rw [hlane]
  simp only [Lane.ended, Tallies.unpassed, tallyUp_eq]

/-- R37: no lane holds a permit after every permit is withdrawn. -/
theorem State.permit_endPermits {s : State} {n : Nat} (hn : n ∈ laneNumbers) : (s.endPermits.lane n).permit = none := by
  rw [State.endPermits_eq, (State.withdraw_foldl _ _ (by decide) s).1]
  cases h : (s.lane n).permit <;> simp [hn, h, Lane.ended]

/-! ### What a WARM reset writes (R157) -/

theorem State.warmEffects_pt (s : State) : s.warmEffects.pt = mapRecords Person.clearPermits s.endPermits.pt := by
  simp only [State.warmEffects]

theorem State.warmEffects_pu (s : State) : s.warmEffects.pu = { s.endPermits.pu with evidence := [] } := by
  simp only [State.warmEffects]

theorem State.warmEffects_sc (s : State) : s.warmEffects.sc = mapD Segment.cold Segment.warm s.sc := by
  simp only [State.warmEffects, State.endPermits_sc]

theorem State.warmEffects_cc (s : State) : s.warmEffects.cc = s.cc := by
  simp only [State.warmEffects, State.endPermits_cc]

theorem State.warmEffects_sck (s : State) :
    s.warmEffects.sck = { s.sck with elapsed := 0, muster := false, returned := false, lastReset := .warm } := by
  simp only [State.warmEffects, State.endPermits_sck]

/-! ### The derived modes (R27) -/

theorem State.lane_deriveModes {s : State} (h : rising s.pu.lanes = true) (n : Nat) :
    s.deriveModes.lane n = { s.lane n with effective := deriveMode s.closing (s.lane n).configured } :=
  getD_mapD (fun l : Lane => { l with effective := deriveMode s.closing l.configured })
    (by cases hc : s.closing <;> simp [Lane.cold, deriveMode]) h n

theorem rising_of_canonical {α : Type} [DecidableEq α] {c : α} {t : Table α} (h : canonical c t = true) :
    rising t = true := by
  unfold canonical at h
  exact (Bool.and_eq_true_iff.mp h).1

end Sys2Proof.Machine
end

section
/-! Counting the records of a table. -/

namespace Sys2Proof.Machine

set_option Elab.async false

variable {α : Type}

theorem countRecords_cons (p : α → Bool) (e : Nat × α) (t : Table α) :
    countRecords p (e :: t) = countRecords p t + (p e.2).toNat := by
  unfold countRecords
  cases h : p e.2 <;> simp [h]

theorem erase_of_lt {t : Table α} {k : Nat} (h : ∀ e ∈ t, k < e.1) : erase t k = t := by
  unfold erase
  rw [List.filter_eq_self]
  intro e he
  simpa using (h e he).ne'

theorem find?_of_lt {t : Table α} {k : Nat} (h : ∀ e ∈ t, k < e.1) : find? t k = none := by
  cases hk : find? t k with
  | none => rfl
  | some a => exact absurd (h _ (mem_of_find? hk)) (lt_irrefl k)

/-- A record erased is counted no more. -/
theorem countRecords_erase (p : α → Bool) {t : Table α} (h : rising t = true) (k : Nat) :
    countRecords p (erase t k) + ((find? t k).any p).toNat = countRecords p t := by
  rw [rising_iff] at h
  induction t with
  | nil => rfl
  | cons e rest ih =>
    obtain ⟨j, b⟩ := e
    obtain ⟨hlt, hrest⟩ := List.pairwise_cons.mp h
    have ih := ih hrest
    by_cases hj : j = k
    · subst hj
      have herase : erase ((j, b) :: rest) j = erase rest j := by simp [erase]
      rw [herase, erase_of_lt hlt, countRecords_cons]
      simp [find?]
    · have herase : erase ((j, b) :: rest) k = (j, b) :: erase rest k := by simp [erase, hj]
      rw [herase, countRecords_cons, countRecords_cons]
      simp only [find?, if_neg hj]
      omega

/-- A record written is counted in the place of the one that stood there. -/
theorem countRecords_insert (p : α → Bool) {t : Table α} (h : rising t = true) (k : Nat) (a : α) :
    countRecords p (insert t k a) + ((find? t k).any p).toNat = countRecords p t + (p a).toNat := by
  rw [rising_iff] at h
  induction t with
  | nil => simp [insert, find?, countRecords_cons]
  | cons e rest ih =>
    obtain ⟨j, b⟩ := e
    obtain ⟨hlt, hrest⟩ := List.pairwise_cons.mp h
    have ih := ih hrest
    unfold insert
    split
    · rename_i hk
      have hnone : find? ((j, b) :: rest) k = none := by
        refine find?_of_lt fun x hx => ?_
        rcases List.mem_cons.mp hx with rfl | hx
        · exact hk
        · exact hk.trans (hlt x hx)
      rw [hnone, countRecords_cons]
      simp
    · split
      · rename_i hk
        subst hk
        simp only [countRecords_cons, find?, if_true, Option.any_some]
        omega
      · rename_i hk
        simp only [countRecords_cons, find?, if_neg (Ne.symm hk)]
        omega

theorem countRecords_mapRecords (p : α → Bool) {f : α → α} (hf : ∀ a, p (f a) = p a) (t : Table α) :
    countRecords p (mapRecords f t) = countRecords p t := by
  induction t with
  | nil => rfl
  | cons e rest ih =>
    have hcons : mapRecords f (e :: rest) = (e.1, f e.2) :: mapRecords f rest := rfl
    rw [hcons, countRecords_cons, countRecords_cons, ih, hf]

end Sys2Proof.Machine
end

section
/-! The presence counts (R25). -/

namespace Sys2Proof.Machine

set_option Elab.async false

theorem Counts.of_put (c : Counts) (n : Nat) (a b : Presence) : (c.put n a).of b = if b = a then n else c.of b := by
  cases a <;> cases b <;> rfl

theorem State.countsHold_of_eq {s t : State} (hpt : t.pt = s.pt) (hcounts : t.pu.counts = s.pu.counts)
    (h : s.countsHold) :
    t.countsHold := by
  obtain ⟨hrising, h⟩ := h
  exact ⟨hpt ▸ hrising, fun st => by rw [hcounts, h]; unfold State.personsIn; rw [hpt]⟩

/-- What a write of a person does to the number of persons in a state. -/
theorem State.personsIn_setPerson {s : State} (h : rising s.pt = true) (p : Nat) (r : Person) (st : Presence) :
    (s.setPerson p r).personsIn st + ((s.person? p).any fun r => decide (r.presence = st)).toNat =
      s.personsIn st + (decide (r.presence = st)).toNat :=
  countRecords_insert _ h p r

theorem State.countsHold_setPerson {s : State} {p : Nat} {r r' : Person} (hr : s.person? p = some r)
    (hp : r'.presence = r.presence) (h : s.countsHold) : (s.setPerson p r').countsHold := by
  obtain ⟨hrising, hcounts⟩ := h
  refine ⟨rising_insert p r' hrising, fun st => ?_⟩
  have hin := s.personsIn_setPerson hrising p r' st
  rw [hr, hp, Option.any_some] at hin
  exact (hcounts st).trans (by omega)

theorem State.countsHold_modPerson {s : State} {p : Nat} {f : Person → Person} (hf : ∀ r, (f r).presence = r.presence)
    (h : s.countsHold) : (s.modPerson p f).countsHold := by
  unfold State.modPerson
  split
  · exact h
  · exact State.countsHold_setPerson ‹_› (hf _) h

theorem State.countsHold_mapRecords {s : State} {f : Person → Person} (hf : ∀ r, (f r).presence = r.presence)
    (h : s.countsHold) : ({ s with pt := mapRecords f s.pt } : State).countsHold := by
  obtain ⟨hrising, hcounts⟩ := h
  refine ⟨rising_mapRecords f hrising, fun st => (hcounts st).trans ?_⟩
  exact (countRecords_mapRecords _ (fun r => by rw [hf]) s.pt).symm

theorem State.countsHold_endPermit {s : State} (n : Nat) (h : s.countsHold) : (s.endPermit n).countsHold := by
  unfold State.endPermit
  dsimp only
  split
  · exact h
  · exact State.countsHold_modPerson (s := s.setLane n _) (fun _ => rfl) h

theorem State.countsHold_consumePermit {s : State} (n : Nat) (k : Permit) (f : Tallies → Tallies) (h : s.countsHold) :
    (s.consumePermit n k f).countsHold := by
  unfold State.consumePermit
  exact State.countsHold_modPerson (s := s.setLane n _) (fun _ => rfl) h

theorem State.countsHold_grantPermit {s : State} {n p : Nat} {d : Direction} {r : Person} (hr : s.person? p = some r)
    (h : s.countsHold) : (s.grantPermit n p d r).countsHold := by
  unfold State.grantPermit
  exact State.countsHold_setPerson (s := s.setLane n _) hr rfl h

/-- R23: a WARM reset clears the permit fields of every person, and no presence. -/
theorem State.countsHold_warm {s : State} (h : s.countsHold) : s.warmEffects.deriveModes.countsHold := by
  have hended : s.endPermits.countsHold :=
    RecordInvariant.foldl (P := State.countsHold) (fun _ n => State.countsHold_endPermit n) _ h
  refine State.countsHold_of_eq ?_ ?_ (State.countsHold_mapRecords (f := Person.clearPermits) (fun _ => rfl) hended)
  · rw [State.deriveModes_pt, State.warmEffects_pt]
  · rw [State.deriveModes_pu_counts, State.warmEffects_pu]

/-- R24, R25: 1 moves from the count of the state left to that of the state entered. -/
theorem State.countsHold_movePresence {s : State} (p : Nat) (new : Presence) (h : s.countsHold) :
    (s.movePresence p new).countsHold := by
  unfold State.movePresence
  split
  · exact h
  · rename_i r hr
    split
    · exact h
    · rename_i hne
      obtain ⟨hrising, hcounts⟩ := h
      refine ⟨rising_insert p _ hrising, fun st => ?_⟩
      have hin := s.personsIn_setPerson hrising p
        { r with presence := new, ashoreSince := if new = .ashore then some s.sck.clock else none } st
      rw [hr, Option.any_some] at hin
      show ((s.pu.counts.put (s.pu.counts.of r.presence - 1) r.presence).put _ new).of st = (s.setPerson p _).personsIn st
      rw [Counts.of_put, Counts.of_put, Counts.of_put]
      have hst := hcounts st
      have hold := hcounts r.presence
      have hnew := hcounts new
      by_cases h1 : st = new
      · subst h1
        simp only [if_true, if_neg (Ne.symm hne)] at hin ⊢
        simp [hne] at hin
        omega
      · by_cases h2 : st = r.presence
        · subst h2
          simp [h1, Ne.symm h1] at hin ⊢
          omega
        · simp [h1, h2, Ne.symm h1, Ne.symm h2] at hin ⊢
          omega

theorem State.countsHold_enlist {s : State} {p : Nat} {r : Person} (hnone : s.person? p = none)
    (hr : r.presence = .notEmbarked) (h : s.countsHold) :
    ((s.setPerson p r).setCounts (s.pu.counts.put (s.pu.counts.notEmbarked + 1) .notEmbarked)).countsHold := by
  obtain ⟨hrising, hcounts⟩ := h
  refine ⟨rising_insert p r hrising, fun st => ?_⟩
  have hin := s.personsIn_setPerson hrising p r st
  have hst := hcounts st
  show (s.pu.counts.put _ _).of st = (s.setPerson p r).personsIn st
  rw [hnone, hr] at hin
  rw [Counts.of_put]
  by_cases h1 : st = .notEmbarked
  · subst h1
    simp at hin ⊢
    exact (congrArg (· + 1) hst).trans hin.symm
  · simp [h1, Ne.symm h1] at hin ⊢
    omega

theorem State.countsHold_free {s : State} (p : Nat) (h : s.countsHold) : (s.freePerson p).countsHold := by
  unfold State.freePerson
  split
  · exact h
  · rename_i r hr
    obtain ⟨hrising, hcounts⟩ := h
    refine ⟨rising_erase p hrising, fun st => ?_⟩
    have hin : countRecords (fun r : Person => decide (r.presence = st)) (erase s.pt p) +
        ((s.person? p).any fun r => decide (r.presence = st)).toNat = s.personsIn st := countRecords_erase _ hrising p
    have hst := hcounts st
    show (s.pu.counts.put _ _).of st = countRecords (fun r : Person => decide (r.presence = st)) (erase s.pt p)
    rw [hr, Option.any_some] at hin
    rw [Counts.of_put]
    by_cases h1 : st = r.presence
    · subst h1
      simp at hin ⊢
      omega
    · simp [h1, Ne.symm h1] at hin ⊢
      omega

/-- R25: the counts are kept by every write of a step. -/
theorem countsHold_stepInvariant : StepInvariant State.countsHold where
  outside hpt hcounts _ _ _ _ _ := State.countsHold_of_eq hpt hcounts
  person hr hp _ := State.countsHold_setPerson hr hp
  servings f := State.countsHold_mapRecords fun _ => rfl
  seg _ h := h
  segTwice _ h := h
  segsEnded h := h
  lane _ _ _ h := h
  endPermit := State.countsHold_endPermit
  consume _ _ := State.countsHold_consumePermit _ _ _
  grant _ _ hr _ _ := State.countsHold_grantPermit hr
  move := State.countsHold_movePresence
  enlist hnone hp _ := State.countsHold_enlist hnone hp
  free _ := State.countsHold_free _
  rederive hpt hcounts _ _ _ _ := State.countsHold_of_eq hpt hcounts
  voyageClear _ := ⟨rfl, fun st => by cases st <;> rfl⟩
  warm := State.countsHold_warm
  cold := by
    rintro s t hpt hpu - - - - - - - -
    exact ⟨hpt ▸ rfl, fun st => by rw [hpu]; unfold State.personsIn; rw [hpt]; cases st <;> rfl⟩

/-- Settles O6: the counts are a property that every step keeps. -/
theorem stepKeepsCounts : Obligations.StepKeepsCounts := fun _ _ h ht => countsHold_stepInvariant.step h ht

end Sys2Proof.Machine
end

section
/-! The lanes and the permits (R27, R29, R36). -/

namespace Sys2Proof.Machine

set_option Elab.async false

/-- R27, R29, R36: the lanes' modes are derived; a permit's person names its lane and its from-state admits its direction;
a permit lane names a permit; and every lane's tallies are in balance. -/
structure State.lanesHold (s : State) : Prop where
  canonical : canonical Lane.cold s.pu.lanes = true
  mode : ∀ n, (s.lane n).effective = deriveMode s.closing (s.lane n).configured
  held : ∀ n k, (s.lane n).permit = some k →
    n ∈ laneNumbers ∧ s.permitLaneOf k.person = some n ∧ fromStateOk k.direction k.fromState = true
  named : ∀ p n, s.permitLaneOf p = some n → (s.lane n).permit.map (·.person) = some p
  balanced : ∀ n, (s.lane n).balanced

theorem State.lanesHold_iff (s : State) : s.lanesHold ↔ s.modesHold ∧ s.permitsHold := by
  have hnamed : (∀ p n, s.permitLaneOf p = some n → (s.lane n).permit.map (·.person) = some p) ↔
      ∀ p r n, s.person? p = some r → r.permitLane = some n → (s.lane n).permit.map (·.person) = some p := by
    unfold State.permitLaneOf
    constructor
    · intro h p r n hr hn
      exact h p n (by rw [hr]; exact hn)
    · intro h p n hn
      obtain ⟨r, hr, hlane⟩ := Option.bind_eq_some_iff.mp hn
      exact h p r n hr hlane
  constructor
  · rintro ⟨hcanonical, hmode, hheld, hname, hbalanced⟩
    exact ⟨⟨hcanonical, hmode⟩, hcanonical, hheld, hnamed.mp hname, hbalanced⟩
  · rintro ⟨⟨hcanonical, hmode⟩, -, hheld, hname, hbalanced⟩
    exact ⟨hcanonical, hmode, hheld, hnamed.mpr hname, hbalanced⟩

/-- A state with the same lanes, under the same conditions, whose persons name the same lanes. -/
theorem State.lanesHold_of_same {s t : State} (h : s.lanesHold) (hlanes : t.pu.lanes = s.pu.lanes)
    (hclosing : t.closing = s.closing) (hnames : ∀ q, t.permitLaneOf q = s.permitLaneOf q) : t.lanesHold := by
  have hlane (n : Nat) : t.lane n = s.lane n := by unfold State.lane; rw [hlanes]
  obtain ⟨hcanonical, hmode, hheld, hname, hbalanced⟩ := h
  refine ⟨hlanes ▸ hcanonical, fun n => ?_, fun n k => ?_, fun p n => ?_, fun n => ?_⟩
  · rw [hlane, hclosing]
    exact hmode n
  · rw [hlane, hnames]
    exact hheld n k
  · rw [hlane, hnames]
    exact hname p n
  · rw [hlane]
    exact hbalanced n

theorem State.permitLaneOf_of_pt {s t : State} (h : t.pt = s.pt) (q : Nat) : t.permitLaneOf q = s.permitLaneOf q := by
  unfold State.permitLaneOf State.person?
  rw [h]

theorem State.permitLaneOf_of_none {s : State} {q : Nat} (h : s.person? q = none) : s.permitLaneOf q = none := by
  unfold State.permitLaneOf
  rw [h]
  rfl

theorem State.permitLaneOf_of_some {s : State} {q : Nat} {r : Person} (h : s.person? q = some r) :
    s.permitLaneOf q = r.permitLane := by
  unfold State.permitLaneOf
  rw [h]
  rfl

/-- A person rewritten with the permit lane the person had. -/
theorem State.lanesHold_setPerson {s : State} {p : Nat} {r : Person} (hr : r.permitLane = s.permitLaneOf p)
    (h : s.lanesHold) : (s.setPerson p r).lanesHold := by
  refine State.lanesHold_of_same h rfl rfl fun q => ?_
  rw [State.permitLaneOf_setPerson]
  split
  · subst_vars
    exact hr
  · rfl

theorem State.permitLaneOf_mapServings (s : State) (f : List Serving → List Serving) (q : Nat) :
    (s.mapServings f).permitLaneOf q = s.permitLaneOf q := by
  unfold State.permitLaneOf State.person? State.mapServings
  rw [find?_mapRecords]
  cases find? s.pt q <;> rfl

theorem State.permitLaneOf_movePresence (s : State) (p : Nat) (new : Presence) (q : Nat) :
    (s.movePresence p new).permitLaneOf q = s.permitLaneOf q := by
  unfold State.movePresence
  split
  · rfl
  · rename_i r hr
    split
    · rfl
    · rw [State.permitLaneOf_setPerson]
      split
      · subst_vars
        exact (State.permitLaneOf_of_some hr).symm
      · rfl

/-- R19: a person made FREE held no permit. -/
theorem State.permitLaneOf_freePerson {s : State} {p : Nat} (h : ∀ r, s.person? p = some r → r.permitLane = none)
    (q : Nat) :
    (s.freePerson p).permitLaneOf q = s.permitLaneOf q := by
  unfold State.freePerson
  split
  · rfl
  · rename_i r hr
    show (find? (erase s.pt p) q).bind _ = s.permitLaneOf q
    rw [find?_erase]
    split
    · subst_vars
      exact ((State.permitLaneOf_of_some hr).trans (h r hr)).symm
    · rfl

/-- A lane rewritten with its own permit. -/
theorem State.lanesHold_setLane {s : State} {n : Nat} {l : Lane}
    (hmode : (s.lane n).effective = deriveMode s.closing (s.lane n).configured → l.effective = deriveMode s.closing l.configured)
    (hpermit : l.permit = (s.lane n).permit) (hbalanced : (s.lane n).balanced → l.balanced) (h : s.lanesHold) :
    (s.setLane n l).lanesHold := by
  have hread (m : Nat) : ((s.setLane n l).lane m).permit = (s.lane m).permit := by
    rw [State.lane_setLane]
    split
    · subst_vars
      exact hpermit
    · rfl
  refine ⟨canonical_setD _ _ h.canonical, fun m => ?_, fun m k hk => h.held m k (hread m ▸ hk),
    fun p m hm => (hread m).symm ▸ h.named p m hm, fun m => ?_⟩
  · rw [State.lane_setLane]
    split
    · exact hmode (h.mode n)
    · exact h.mode m
  · rw [State.lane_setLane]
    split
    · exact hbalanced (h.balanced n)
    · exact h.balanced m

/-- R33, R34, R37: a permit ends, and its lane counts 1 more ended permit. -/
theorem State.lanesHold_consumePermit {s : State} {n : Nat} {k : Permit} {f : Tallies → Tallies}
    (hk : (s.lane n).permit = some k)
    (hf : ∀ t, (f t).granted = t.granted ∧ (t.ended < Config.topTally → (f t).ended = t.ended + 1)) (h : s.lanesHold) :
    (s.consumePermit n k f).lanesHold := by
  obtain ⟨-, hnamed, -⟩ := h.held n k hk
  refine ⟨?_, fun m => ?_, fun m k' hk' => ?_, fun p m hm => ?_, fun m => ?_⟩
  · show Machine.canonical Lane.cold (State.modPerson _ _ _).pu.lanes = true
    rw [State.modPerson_pu]
    exact canonical_setD _ _ h.canonical
  · have hclosing : (s.consumePermit n k f).closing = s.closing := by simp [State.closing]
    rw [State.lane_consumePermit, hclosing]
    split
    · exact h.mode n
    · exact h.mode m
  · rw [State.lane_consumePermit] at hk'
    split at hk'
    · cases hk'
    · rename_i hm
      obtain ⟨hmem, hname', hfrom⟩ := h.held m k' hk'
      have hperson : k'.person ≠ k.person := by
        intro heq
        rw [heq, hnamed] at hname'
        exact hm (Option.some.inj hname').symm
      exact ⟨hmem, by rw [State.permitLaneOf_consumePermit, if_neg hperson]; exact hname', hfrom⟩
  · rw [State.permitLaneOf_consumePermit] at hm
    split at hm
    · cases hm
    · rename_i hp
      have hpermit := h.named p m hm
      rw [State.lane_consumePermit, if_neg]
      · exact hpermit
      · rintro rfl
        rw [hk] at hpermit
        exact hp (Option.some.inj hpermit).symm
  · rw [State.lane_consumePermit]
    split
    · intro hlt
      obtain ⟨hgranted, hended⟩ := hf (s.lane n).tallies
      have hbalance := h.balanced n
      unfold Lane.balanced at hbalance
      simp only [Lane.ended, hgranted] at hlt ⊢
      have hheld := hbalance hlt
      rw [hk] at hheld
      simp only [Option.isSome_some, if_true] at hheld
      rw [hended (by omega)]
      simpa using hheld
    · exact h.balanced m

theorem State.lanesHold_endPermit {s : State} (n : Nat) (h : s.lanesHold) : (s.endPermit n).lanesHold := by
  cases hk : (s.lane n).permit with
  | none => rwa [State.endPermit_of_none hk]
  | some k =>
    rw [State.endPermit_of_some hk]
    exact State.lanesHold_consumePermit hk Tallies.ended_scanNoPass h

theorem State.lane_grantPermit (s : State) (n p m : Nat) (d : Direction) (r : Person) :
    (s.grantPermit n p d r).lane m = if m = n then { s.lane n with
      permit := some { person := p, direction := d, fromState := r.presence, expiry := s.sck.elapsed + s.pu.permitWindow * 1000 }
      tallies := { (s.lane n).tallies with granted := tallyUp (s.lane n).tallies.granted } } else s.lane m :=
  State.lane_setLane ..

theorem State.person?_grantPermit (s : State) (n p q : Nat) (d : Direction) (r : Person) :
    (s.grantPermit n p d r).person? q = if q = p then some { r with permitLane := some n } else s.person? q :=
  State.person?_setPerson ..

theorem State.permitLaneOf_grantPermit (s : State) (n p q : Nat) (d : Direction) (r : Person) :
    (s.grantPermit n p d r).permitLaneOf q = if q = p then some n else s.permitLaneOf q :=
  State.permitLaneOf_setPerson ..

/-- R31: a permit is granted on a free lane to a person without one. -/
theorem State.lanesHold_grantPermit {s : State} {n p : Nat} {d : Direction} {r : Person} (hn : n ∈ laneNumbers)
    (hfree : (s.lane n).permit = none) (hr : s.person? p = some r) (hlane : r.permitLane = none)
    (hfrom : fromStateOk d r.presence = true) (h : s.lanesHold) : (s.grantPermit n p d r).lanesHold := by
  have hnone : s.permitLaneOf p = none := (State.permitLaneOf_of_some hr).trans hlane
  refine ⟨?_, fun m => ?_, fun m k hk => ?_, fun q m hm => ?_, fun m => ?_⟩
  · exact canonical_setD _ _ h.canonical
  · have hclosing : (s.grantPermit n p d r).closing = s.closing := by simp [State.closing]
    rw [State.lane_grantPermit, hclosing]
    split
    · exact h.mode n
    · exact h.mode m
  · rw [State.lane_grantPermit] at hk
    split at hk
    · subst_vars
      cases hk
      exact ⟨hn, by rw [State.permitLaneOf_grantPermit, if_pos rfl], hfrom⟩
    · obtain ⟨hmem, hname, hfrom'⟩ := h.held m k hk
      refine ⟨hmem, ?_, hfrom'⟩
      rw [State.permitLaneOf_grantPermit, if_neg]
      · exact hname
      · rintro rfl
        rw [hnone] at hname
        cases hname
  · rw [State.permitLaneOf_grantPermit] at hm
    split at hm
    · subst_vars
      cases hm
      rw [State.lane_grantPermit, if_pos rfl]
      rfl
    · have hpermit := h.named q m hm
      rw [State.lane_grantPermit, if_neg]
      · exact hpermit
      · rintro rfl
        rw [hfree] at hpermit
        cases hpermit
  · rw [State.lane_grantPermit]
    split
    · intro hlt
      have hbalance := h.balanced n
      unfold Lane.balanced at hbalance
      rw [hfree] at hbalance
      simp only [tallyUp_eq, Option.isSome_none, Option.isSome_some, if_true, Bool.false_eq_true, if_false, Tallies.ended,
        Config.topTally] at hbalance hlt ⊢
      have hgranted := hbalance (by omega)
      omega
    · exact h.balanced m

theorem State.canonical_deriveModes {s : State} (h : rising s.pu.lanes = true) :
    Machine.canonical Lane.cold s.deriveModes.pu.lanes = true := by
  unfold State.deriveModes
  dsimp only
  exact canonical_mapD _ h

/-- R27: the modes derived again, under whatever conditions. -/
theorem State.lanesHold_deriveModes {s t : State} (hpt : t.pt = s.pt) (hlanes : t.pu.lanes = s.pu.lanes)
    (h : s.lanesHold) :
    t.deriveModes.lanesHold := by
  have hrising : rising t.pu.lanes = true := hlanes ▸ rising_of_canonical h.canonical
  have hlane (n : Nat) : t.deriveModes.lane n = { s.lane n with effective := deriveMode t.closing (s.lane n).configured } := by
    rw [State.lane_deriveModes hrising]
    unfold State.lane
    rw [hlanes]
  have hnames := State.permitLaneOf_of_pt (t := t.deriveModes) (s := s) (by rw [State.deriveModes_pt, hpt])
  refine ⟨State.canonical_deriveModes hrising, fun n => ?_, fun n k hk => ?_, fun p n hn => ?_, fun n => ?_⟩
  · have hclosing : t.deriveModes.closing = t.closing := by simp [State.closing]
    rw [hlane, hclosing]
  · rw [hlane] at hk
    rw [hnames]
    exact h.held n k hk
  · rw [hlane]
    rw [hnames] at hn
    exact h.named p n hn
  · rw [hlane]
    exact h.balanced n

/-- Lanes without permits whose tallies are in balance, and no person who names a lane. -/
theorem State.lanesHold_of_none {s : State} (hcanonical : Machine.canonical Lane.cold s.pu.lanes = true)
    (hmode : ∀ n, (s.lane n).effective = deriveMode s.closing (s.lane n).configured) (hnone : ∀ n, (s.lane n).permit = none)
    (hnames : ∀ q, s.permitLaneOf q = none) (hbalanced : ∀ n, (s.lane n).balanced) : s.lanesHold :=
  ⟨hcanonical, hmode, fun n k hk => (by rw [hnone n] at hk; cases hk), fun p n hn => (by rw [hnames p] at hn; cases hn),
    hbalanced⟩

/-- R158, R44, R27: what a lane reads after a voyage clear. -/
theorem State.lane_voyageClear {s : State} (h : rising s.pu.lanes = true) (n : Nat) :
    s.voyageClear.lane n =
      { (s.lane n).clear with effective := deriveMode s.sck.muster (s.lane n).configured } := by
  unfold State.voyageClear
  dsimp only
  rw [State.lane_deriveModes (rising_of_canonical (canonical_mapD Lane.clear h))]
  have hcleared : getD (mapD Lane.cold Lane.clear s.pu.lanes) n Lane.cold = (s.lane n).clear := getD_mapD Lane.clear rfl h n
  simp only [State.lane, State.closing, Bool.false_or] at hcleared ⊢
  rw [hcleared]
  rfl

/-- R158, R44: a voyage clear leaves no permit and no person. -/
theorem State.lanesHold_voyageClear {s : State} (h : s.lanesHold) : s.voyageClear.lanesHold := by
  have hrising := rising_of_canonical h.canonical
  have hclosing : s.voyageClear.closing = s.sck.muster := by simp [State.voyageClear, State.closing]
  refine State.lanesHold_of_none ?_ (fun n => ?_) (fun n => ?_) (fun q => ?_) (fun n => ?_)
  · exact State.canonical_deriveModes (rising_of_canonical (canonical_mapD Lane.clear hrising))
  · rw [State.lane_voyageClear hrising, hclosing]
    rfl
  · rw [State.lane_voyageClear hrising]
    rfl
  · exact State.permitLaneOf_of_none rfl
  · rw [State.lane_voyageClear hrising]
    exact fun _ => rfl

theorem State.lane_warmEffects (s : State) (n : Nat) : s.warmEffects.lane n = s.endPermits.lane n := by
  unfold State.lane
  rw [State.warmEffects_pu]

theorem State.person?_warmEffects (s : State) (q : Nat) :
    s.warmEffects.person? q = (s.endPermits.person? q).map Person.clearPermits := by
  unfold State.person?
  rw [State.warmEffects_pt, find?_mapRecords]

theorem State.permitLaneOf_warmEffects (s : State) (q : Nat) : s.warmEffects.permitLaneOf q = none := by
  unfold State.permitLaneOf
  rw [State.person?_warmEffects]
  cases s.endPermits.person? q <;> rfl

/-- R157: after a WARM reset's writes no lane holds a permit and no person names a lane. -/
theorem State.lanesHold_warm {s : State} (h : s.lanesHold) : s.warmEffects.deriveModes.lanesHold := by
  have hended : s.endPermits.lanesHold :=
    RecordInvariant.foldl (P := State.lanesHold) (fun _ n => State.lanesHold_endPermit n) _ h
  have hnone (n : Nat) : (s.endPermits.lane n).permit = none := by
    by_contra hsome
    obtain ⟨k, hk⟩ := Option.ne_none_iff_exists'.mp hsome
    obtain ⟨hn, -, -⟩ := hended.held n k hk
    exact hsome (State.permit_endPermits hn)
  have hrising : rising s.warmEffects.pu.lanes = true := by
    rw [State.warmEffects_pu]
    exact rising_of_canonical hended.canonical
  have hlane (n : Nat) : s.warmEffects.deriveModes.lane n = { s.endPermits.lane n with
      effective := deriveMode s.warmEffects.closing (s.endPermits.lane n).configured } := by
    rw [State.lane_deriveModes hrising, State.lane_warmEffects]
  have hclosing : s.warmEffects.deriveModes.closing = s.warmEffects.closing := by simp [State.closing]
  refine State.lanesHold_of_none (State.canonical_deriveModes hrising) (fun n => ?_) (fun n => ?_) (fun q => ?_) (fun n => ?_)
  · rw [hlane, hclosing]
  · simp only [hlane, hnone]
  · exact (State.permitLaneOf_of_pt s.warmEffects.deriveModes_pt q).trans (State.permitLaneOf_warmEffects s q)
  · have hbalanced := hended.balanced n
    simpa only [hlane, Lane.balanced] using hbalanced

/-- R27, R36: the lanes are kept by every write of a step. -/
theorem lanesHold_stepInvariant : StepInvariant State.lanesHold where
  outside hpt _ hlanes _ hclosing _ _ h := State.lanesHold_of_same h hlanes hclosing (State.permitLaneOf_of_pt hpt)
  person hr _ hlane := State.lanesHold_setPerson (hlane.trans (State.permitLaneOf_of_some hr).symm)
  servings f h := State.lanesHold_of_same h rfl rfl (State.permitLaneOf_mapServings _ f)
  seg _ h := State.lanesHold_of_same h rfl rfl fun _ => rfl
  segTwice _ h := State.lanesHold_of_same h rfl rfl fun _ => rfl
  segsEnded h := State.lanesHold_of_same h rfl rfl fun _ => rfl
  lane hmode hpermit hbalanced := State.lanesHold_setLane hmode hpermit hbalanced
  endPermit := State.lanesHold_endPermit
  consume hk hf := State.lanesHold_consumePermit hk hf
  grant hn hfree hr hlane hfrom := State.lanesHold_grantPermit hn hfree hr hlane hfrom
  move p new h := State.lanesHold_of_same h (State.movePresence_pu_lanes _ p new) (by simp [State.closing])
    (State.permitLaneOf_movePresence _ p new)
  enlist hnone _ hlane h :=
    State.lanesHold_of_same (State.lanesHold_setPerson (hlane.trans (State.permitLaneOf_of_none hnone).symm) h)
      rfl rfl fun _ => rfl
  free hlane h := State.lanesHold_of_same h (by simp) (by simp [State.closing]) (State.permitLaneOf_freePerson hlane)
  rederive hpt _ hlanes _ _ _ := State.lanesHold_deriveModes hpt hlanes
  voyageClear := State.lanesHold_voyageClear
  warm := State.lanesHold_warm
  cold := by
    rintro s t hpt hpu - - - - - - hmuster -
    have hlane (n : Nat) : t.lane n = Lane.cold := by unfold State.lane; rw [hpu]; rfl
    refine State.lanesHold_of_none (by rw [hpu]; rfl) (fun n => ?_) (fun n => ?_) (fun q => ?_) (fun n => ?_)
    · have hclosing : t.closing = false := by simp [State.closing, hpu, hmuster, State.reset]
      rw [hlane, hclosing]
      rfl
    · rw [hlane]
      rfl
    · refine State.permitLaneOf_of_none ?_
      unfold State.person?
      rw [hpt]
      rfl
    · rw [hlane]
      exact fun _ => rfl

/-- Settles O10: the lanes and permits are in order after every step. -/
theorem stepKeepsLanes : Obligations.StepKeepsLanes := by
  intro s t hmodes hpermits ht
  exact t.lanesHold_iff.mp (lanesHold_stepInvariant.step (s.lanesHold_iff.mpr ⟨hmodes, hpermits⟩) ht)

end Sys2Proof.Machine
end

section
/-! The ranges of the segments, the settings and the clocks (R28, R74 to R82, R113 to R116, R152 to R159). -/

namespace Sys2Proof.Machine

set_option Elab.async false

/-- The ranges of every block's figures together. -/
def State.rangesHold (s : State) : Prop := s.segmentsHold ∧ s.settingsHold ∧ s.clocksHold

/-- R85: the figures of a segment after a reset lie in their ranges. -/
theorem Segment.wf_cold : Segment.cold.wf := by
  unfold Segment.wf
  decide

theorem State.segmentsHold_of_sc {s t : State} (h : t.sc = s.sc) (hs : s.segmentsHold) : t.segmentsHold := by
  unfold State.segmentsHold State.seg at hs ⊢
  rwa [h]

theorem State.rangesHold_of_same {s t : State} (h : s.rangesHold) (hsc : t.sc = s.sc)
    (hwindow : t.pu.permitWindow = s.pu.permitWindow) (hcc : t.cc = s.cc) (hsck : t.sck = s.sck) : t.rangesHold := by
  obtain ⟨hsegments, hsettings, hclocks⟩ := h
  exact ⟨State.segmentsHold_of_sc hsc hsegments, State.settingsHold_of_eq hwindow hcc hsettings,
    State.clocksHold_of_eq (by rw [hsck]) (by rw [hsck]) (by rw [hsck]) (by rw [hsck]) hclocks⟩

theorem State.segmentsHold_setSeg {s : State} {g : Nat} {c : Segment} (hc : (s.seg g).wf → c.wf) (h : s.segmentsHold) :
    (s.setSeg g c).segmentsHold := by
  obtain ⟨hcanonical, hwf⟩ := h
  refine ⟨canonical_setD _ _ hcanonical, fun m => ?_⟩
  rw [State.seg_setSeg]
  split
  · exact hc (hwf g)
  · exact hwf m

/-- A segment written twice, its figures in their ranges after the second write. -/
theorem State.segmentsHold_setSeg_twice {s : State} {g : Nat} {a b : Segment} (hb : (s.seg g).wf → b.wf)
    (h : s.segmentsHold) : ((s.setSeg g a).setSeg g b).segmentsHold := by
  obtain ⟨hcanonical, hwf⟩ := h
  refine ⟨canonical_setD _ _ (canonical_setD _ _ hcanonical), fun m => ?_⟩
  rw [State.seg_setSeg, State.seg_setSeg]
  split
  · exact hb (hwf g)
  · exact hwf m

/-- Every segment changed, and kept in its ranges. -/
theorem State.segmentsHold_mapD {s t : State} {f : Segment → Segment} (hsc : t.sc = mapD Segment.cold f s.sc)
    (hcold : f Segment.cold = Segment.cold) (hf : ∀ c : Segment, c.wf → (f c).wf) (h : s.segmentsHold) :
    t.segmentsHold := by
  obtain ⟨hcanonical, hwf⟩ := h
  have hrising := rising_of_canonical hcanonical
  refine ⟨hsc ▸ canonical_mapD f hrising, fun g => ?_⟩
  unfold State.seg
  rw [hsc, getD_mapD f hcold hrising]
  exact hf _ (hwf g)

/-- R85: a segment after a WARM reset. -/
theorem Segment.wf_warm {c : Segment} (h : c.wf) : c.warm.wf := by
  obtain ⟨-, -, -, h4, h5, h6, h7, h8, h9, -⟩ := h
  exact ⟨le_rfl, (by decide : 1 ≤ Config.stations), (by decide : 0 < Config.unreachableLimit), h4, h5, h6, h7, h8, h9,
    (by decide : 0 < 2 ^ 48)⟩

/-- R157: a WARM reset keeps the settings, and starts the elapsed base again. -/
theorem State.rangesHold_warm {s : State} (h : s.rangesHold) : s.warmEffects.deriveModes.rangesHold := by
  obtain ⟨hsegments, hsettings, ⟨hclock, -, hms, hhold⟩⟩ := h
  refine ⟨State.segmentsHold_mapD (by rw [State.deriveModes_sc, State.warmEffects_sc]) rfl (fun _ => Segment.wf_warm) hsegments,
    State.settingsHold_of_eq ?_ ?_ hsettings, ?_⟩
  · rw [State.deriveModes_pu_permitWindow, State.warmEffects_pu]
    exact s.endPermits_pu_permitWindow
  · rw [State.deriveModes_cc, State.warmEffects_cc]
  · unfold State.clocksHold
    rw [State.deriveModes_sck, State.warmEffects_sck]
    exact ⟨hclock, (by decide : 0 < 2 ^ 48), hms, hhold⟩

/-- R44, R123: the settings of the reset state lie in their ranges. -/
theorem State.settingsHold_of_reset {t : State} (hpu : t.pu = State.reset.pu) (hcc : t.cc = State.reset.cc) :
    t.settingsHold := by
  refine State.settingsHold_of_eq (s := State.reset) (by rw [hpu]) hcc ?_
  have hvenue (v : Nat) : State.reset.venue v = coldVenue := rfl
  have hclass (c : Nat) : State.reset.classRow c = ClassRow.cold := rfl
  refine ⟨by decide, by decide, by decide, by decide, fun v => ?_, fun c => ?_⟩
  · rw [hvenue]
    decide
  · rw [hclass]
    exact ⟨by decide, fun k hk => (by cases hk)⟩

/-- The ranges are kept by every write of a step. -/
theorem rangesHold_stepInvariant : StepInvariant State.rangesHold where
  outside _ _ _ hsc _ hsettings hclocks := fun ⟨h1, h2, h3⟩ => ⟨State.segmentsHold_of_sc hsc h1, hsettings h2, hclocks h3⟩
  person _ _ _ h := h
  servings _ h := h
  seg hc := fun ⟨h1, hrest⟩ => ⟨State.segmentsHold_setSeg hc h1, hrest⟩
  segTwice hb := fun ⟨h1, hrest⟩ => ⟨State.segmentsHold_setSeg_twice hb h1, hrest⟩
  segsEnded := fun ⟨h1, hrest⟩ =>
    ⟨State.segmentsHold_mapD (f := fun c => { c with outstanding := none }) rfl rfl (fun _ => id) h1, hrest⟩
  lane _ _ _ h := h
  endPermit n h := State.rangesHold_of_same h (by simp) (by simp) (by simp) (by simp)
  consume _ _ h := State.rangesHold_of_same h (by simp) (by simp) (by simp) (by simp)
  grant _ _ _ _ _ h := State.rangesHold_of_same h (by simp) (by simp) (by simp) (by simp)
  move _ _ h := State.rangesHold_of_same h (by simp) (by simp) (by simp) (by simp)
  enlist _ _ _ h := h
  free _ h := State.rangesHold_of_same h (by simp) (by simp) (by simp) (by simp)
  rederive _ _ _ hsc hsettings hclocks := fun ⟨h1, h2, h3⟩ =>
    ⟨State.segmentsHold_of_sc hsc h1, hsettings h2, hclocks h3⟩
  voyageClear h := h
  warm := State.rangesHold_warm
  cold := by
    rintro s t - hpu hsc hcc hclock helapsed hms hhold - ⟨-, -, ⟨-, -, -, h4⟩⟩
    have hseg (g : Nat) : t.seg g = Segment.cold := by unfold State.seg; rw [hsc]; rfl
    refine ⟨⟨by rw [hsc]; rfl, fun g => by rw [hseg]; exact Segment.wf_cold⟩, State.settingsHold_of_reset hpu hcc, ?_⟩
    unfold State.clocksHold
    rw [hclock, helapsed, hms, hhold]
    exact ⟨by decide, by decide, by decide, h4⟩

/-- Settles O11: the ranges are a property that every step keeps. -/
theorem stepKeepsRanges : Obligations.StepKeepsRanges := fun _ _ hsegments hsettings hclocks ht =>
  rangesHold_stepInvariant.step ⟨hsegments, hsettings, hclocks⟩ ht

end Sys2Proof.Machine
end

section
/-! What a command, an event and a frame's step answer, and when two states are the same. -/

namespace Sys2Proof.Machine

set_option Elab.async false

/-- R171, R172: the step of a command that PP holds or takes. -/
theorem State.onCommand_of_accepts {s : State} {i : Instr} (h : s.accepts i = true) (tag : Tag)
    (owner : State → State × Reply) : s.onCommand i tag owner = .next ((owner s).1.answer tag (owner s).2) := by
  unfold State.onCommand
  rw [if_pos h]

theorem State.onEvent_of_due {s : State} {due : Bool} (h : s.takesEvents = true) (hdue : due = true)
    (effect : State → State) : s.onEvent due effect = .next (effect s) := by
  unfold State.onEvent
  rw [h, hdue]
  rfl

theorem State.onFrame_of_takeFrame {s t : State} {i : Instr} {n : Nat} {f : Frame} (hi : i.stationFrame = some (n, f))
    (h : s.takeFrame n f = some t) (owner : Nat → Frame → State → State) : s.onFrame i owner = .next (owner n f t) := by
  unfold State.onFrame
  simp only [hi, h]

theorem State.eq_of_fields {s t : State} (pending : s.pending = t.pending) (tagCount : s.tagCount = t.tagCount)
    (pp : s.pp = t.pp) (lk : s.lk = t.lk) (pt : s.pt = t.pt) (ci : s.ci = t.ci) (ct : s.ct = t.ct) (pu : s.pu = t.pu)
    (sc : s.sc = t.sc) (tu : s.tu = t.tu) (cc : s.cc = t.cc) (pq : s.pq = t.pq) (oe : s.oe = t.oe) (nfu : s.nfu = t.nfu)
    (sck : s.sck = t.sck) : s = t := by
  cases s
  cases t
  simp only at *
  simp only [*]

theorem PresenceUnit.eq_of_fields {u v : PresenceUnit} (counts : u.counts = v.counts) (lanes : u.lanes = v.lanes)
    (window : u.permitWindow = v.permitWindow) (deadline : u.deadline = v.deadline) (snapshot : u.snapshot = v.snapshot)
    (evidence : u.evidence = v.evidence) : u = v := by
  cases u
  cases v
  simp only at *
  simp only [*]

/-- What `consumePermit` and `endPermit` can write: the persons and the lanes. -/
theorem State.consumePermit_frame (s : State) (n : Nat) (k : Permit) (f : Tallies → Tallies) :
    s.consumePermit n k f = { s with
      pt := (s.consumePermit n k f).pt, pu := { s.pu with lanes := (s.consumePermit n k f).pu.lanes } } := by
  apply State.eq_of_fields <;> simp
  apply PresenceUnit.eq_of_fields <;> simp

theorem State.endPermit_frame (s : State) (n : Nat) :
    s.endPermit n = { s with pt := (s.endPermit n).pt, pu := { s.pu with lanes := (s.endPermit n).pu.lanes } } := by
  apply State.eq_of_fields <;> simp
  apply PresenceUnit.eq_of_fields <;> simp

theorem State.deriveModes_frame (s : State) :
    s.deriveModes = { s with pu := { s.pu with lanes := s.deriveModes.pu.lanes } } := rfl

end Sys2Proof.Machine
end

section
/-! SET LANE, SET PERMIT WINDOW and the deadline (R27, R28, R40, R41). -/

namespace Sys2Proof.Machine

set_option Elab.async false

/-- R28: the lane as SET LANE writes it. -/
def State.laneSet (s : State) (n point : Nat) (mode : LaneMode) : State :=
  s.setLane n { s.lane n with point := point, configured := mode, effective := deriveMode s.closing mode }

/-- R28: what SET LANE leaves, its operands in range. -/
def State.laneSettled (s : State) (n point : Nat) (mode : LaneMode) : State :=
  if deriveMode s.closing mode = .closed then (s.laneSet n point mode).endPermit n else s.laneSet n point mode

theorem setLaneMode_of_range {n point : Nat} (mode : LaneMode) (s : State) (h : n < 1 ∨ 8 < n ∨ 3 < point) :
    setLaneMode n point mode s = s.refuse .range := if_pos h

theorem setLaneMode_of_mem {n point : Nat} (mode : LaneMode) (s : State) (h : ¬(n < 1 ∨ 8 < n ∨ 3 < point)) :
    setLaneMode n point mode s = (s.laneSettled n point mode, Reply.ok (be 1 (deriveMode s.closing mode).code)) :=
  if_neg h

theorem State.lane_laneSet (s : State) (n point : Nat) (mode : LaneMode) (m : Nat) :
    (s.laneSet n point mode).lane m = if m = n then
      { s.lane n with point := point, configured := mode, effective := deriveMode s.closing mode } else s.lane m :=
  s.lane_setLane n m _

theorem State.lane_laneSettled (s : State) (n point : Nat) (mode : LaneMode) (m : Nat) :
    (s.laneSettled n point mode).lane m =
      if m = n then
        if deriveMode s.closing mode = .closed ∧ (s.lane n).permit.isSome then
          (({ s.lane n with point := point, configured := mode, effective := .closed } : Lane).ended Tallies.unpassed)
        else { s.lane n with point := point, configured := mode, effective := deriveMode s.closing mode }
      else s.lane m := by
  unfold State.laneSettled
  by_cases hc : deriveMode s.closing mode = .closed
  · rw [if_pos hc, State.lane_endPermit, State.lane_laneSet, State.lane_laneSet]
    by_cases hm : m = n <;> simp [hm, hc]
  · rw [if_neg hc, State.lane_laneSet]
    simp [hc]

theorem State.person?_laneSettled (s : State) (n point : Nat) (mode : LaneMode) (q : Nat) :
    (s.laneSettled n point mode).person? q = (s.person? q).map fun r =>
      if deriveMode s.closing mode = .closed ∧ (s.lane n).permit.any (fun k => decide (k.person = q)) then
        { r with permitLane := none } else r := by
  unfold State.laneSettled
  have hset : (s.laneSet n point mode).person? q = s.person? q := rfl
  by_cases hc : deriveMode s.closing mode = .closed
  · rw [if_pos hc, State.person?_endPermit, State.lane_laneSet, hset]
    simp [hc]
  · rw [if_neg hc, hset]
    simp [hc]

theorem State.laneSettled_frame (s : State) (n point : Nat) (mode : LaneMode) :
    s.laneSettled n point mode = { s with
      pt := (s.laneSettled n point mode).pt
      pu := { s.pu with lanes := (s.laneSettled n point mode).pu.lanes } } := by
  unfold State.laneSettled
  split
  · exact State.endPermit_frame _ _
  · rfl

theorem clamp_eq {low high : Nat} (h : low ≤ high) (n : Nat) : clamp low high n = max low (min high n) := by
  unfold clamp
  split
  · omega
  · split <;> omega

/-- Settles O29, by what SET LANE leaves of the lane and its permit. -/
theorem gangwaySettings : Obligations.GangwaySettings := by
  refine ⟨fun tag n point mode s hacc => ?_, fun tag seconds s hacc => ?_⟩
  · have hrun : exec (.setLane tag n point mode) s = _ :=
      State.onCommand_of_accepts hacc tag (setLaneMode n point mode)
    refine ⟨fun hrange => ?_, fun h1 h8 h3 => ?_⟩
    · rw [hrun, setLaneMode_of_range mode s hrange]
      rfl
    · rw [setLaneMode_of_mem mode s (by omega)] at hrun
      have hclosing : (s.pu.deadline.passed || s.sck.muster) = s.closing := rfl
      refine ⟨_, hrun, ?_, fun k hk => ?_, fun q => ?_, ?_⟩
      · refine (State.lane_laneSettled s n point mode n).trans ?_
        rw [if_pos rfl]
        by_cases hc : deriveMode s.closing mode = .closed
        · cases hk : (s.lane n).permit <;> simp [hc, hk, Lane.ended, Tallies.unpassed, tallyUp_eq, hclosing]
        · simp [hc, hclosing]
      · exact (State.lane_laneSettled s n point mode k).trans (if_neg hk)
      · refine (State.person?_laneSettled s n point mode q).trans (congrArg (Option.map · _) (funext fun r => ?_))
        cases hk : (s.lane n).permit <;> simp [hclosing]
      · exact congrArg (fun t : State => t.answer tag _) (State.laneSettled_frame s n point mode)
  · refine (State.onCommand_of_accepts hacc tag (setPermitWindow seconds)).trans ?_
    unfold setPermitWindow
    rw [clamp_eq (by decide)]
    rfl

/-! ### The deadline -/

/-- R40, R41: the deadline written and every mode derived again. -/
def State.putDeadline (s : State) (d : Deadline) : State := (s.setDeadline d).deriveModes

theorem State.lane_putDeadline {s : State} (h : rising s.pu.lanes = true) (d : Deadline) (n : Nat) :
    (s.putDeadline d).lane n =
      { s.lane n with effective := deriveMode (d.passed || s.sck.muster) (s.lane n).configured } :=
  State.lane_deriveModes (s := s.setDeadline d) h n

/-- Settles O31: each of the three writes the deadline and derives the modes. -/
theorem deadlineMoves : Obligations.DeadlineMoves := by
  intro tag s hrising written
  refine ⟨fun time hacc => ?_, fun hacc => ?_, fun hev harmed hpassed htime => ?_⟩
  · have hrun : exec (.armDeadline tag time) s = _ := State.onCommand_of_accepts hacc tag (armDeadline time)
    unfold armDeadline at hrun
    refine ⟨fun hunset => ?_, fun hset hpast => ?_, fun hset hfuture => ?_⟩
    · rw [hrun, hunset]
      rfl
    · rw [hrun, hset, if_neg (by simp), if_pos hpast]
      rfl
    · rw [hset, if_neg (by simp), if_neg (by omega)] at hrun
      exact ⟨_, hrun, ⟨rfl, State.lane_putDeadline hrising _⟩, rfl⟩
  · have hrun : exec (.disarmDeadline tag) s = _ := State.onCommand_of_accepts hacc tag disarmDeadline
    unfold disarmDeadline at hrun
    refine ⟨fun hoff => ?_, fun hon => ?_⟩
    · rw [hrun, hoff]
      rfl
    · rw [if_pos hon] at hrun
      exact ⟨_, hrun, ⟨rfl, State.lane_putDeadline hrising _⟩, rfl⟩
  · have hdue : s.deadlineReached = true := by simp [State.deadlineReached, harmed, hpassed, htime]
    exact ⟨_, State.onEvent_of_due hev hdue _, ⟨rfl, State.lane_putDeadline hrising _⟩, rfl⟩

end Sys2Proof.Machine
end

section
/-! A presence change (R24, R25) and evidence (R38). -/

namespace Sys2Proof.Machine

set_option Elab.async false

/-- R25: 1 moved from one count to another. -/
def Counts.moved (c : Counts) (old new : Presence) : Counts :=
  (c.put (c.of old - 1) old).put ((c.put (c.of old - 1) old).of new + 1) new

theorem Counts.of_moved {old new : Presence} (h : old ≠ new) (c : Counts) (st : Presence) :
    (c.moved old new).of st = if st = new then c.of st + 1 else if st = old then c.of st - 1 else c.of st := by
  unfold Counts.moved
  rw [Counts.of_put, Counts.of_put, Counts.of_put, if_neg (Ne.symm h)]
  by_cases hnew : st = new
  · simp [hnew]
  · by_cases hold : st = old <;> simp [hnew, hold, h]

/-- R24: a person as entered in another presence state. -/
def Person.entered (r : Person) (new : Presence) (now : Nat) : Person :=
  { r with presence := new, ashoreSince := if new = .ashore then some now else none }

theorem State.movePresence_of_ne {s : State} {p : Nat} {r : Person} {new : Presence} (hp : s.person? p = some r)
    (h : r.presence ≠ new) :
    s.movePresence p new =
      (s.setCounts (s.pu.counts.moved r.presence new)).setPerson p (r.entered new s.sck.clock) := by
  unfold State.movePresence
  simp only [hp]
  rw [if_neg h]
  rfl

/-- R38: evidence against a person who is not ASHORE, or ASHORE since a later time, is dropped. -/
theorem State.takeEvidence_of_dropped {s : State} {e : Evidence}
    (h : ∀ r, s.person? e.person = some r → r.presence = .ashore → ∃ t, r.ashoreSince = some t ∧ e.time < t) :
    s.takeEvidence e = s := by
  unfold State.takeEvidence
  cases hp : s.person? e.person with
  | none => rfl
  | some r =>
    dsimp only
    rw [if_neg]
    rintro ⟨hashore, hall⟩
    obtain ⟨t, ht, hlt⟩ := h r hp hashore
    rw [ht] at hall
    have hle : t ≤ e.time := by simpa using hall
    omega

/-- R38: evidence against a person ASHORE since no later is a dispute. -/
theorem State.takeEvidence_of_disputed {s : State} {e : Evidence} {r : Person} (hp : s.person? e.person = some r)
    (hashore : r.presence = .ashore) (h : ∀ t, r.ashoreSince = some t → t ≤ e.time) :
    s.takeEvidence e = ((s.movePresence e.person .disputed).append s.sck.clock (some e.person) s.sck.openDay
      (.access .disputeRaised e.source e.serial e.offline)).raise .dispute := by
  unfold State.takeEvidence
  simp only [hp]
  rw [if_pos ⟨hashore, by cases ht : r.ashoreSince <;> simp_all⟩, State.movePresence_sck]

/-- R38: the evidence that is left, the oldest piece taken. -/
def State.withEvidence (s : State) (rest : List Evidence) : State := { s with pu := { s.pu with evidence := rest } }

theorem State.nextEvidence_of_cons {s : State} {e : Evidence} {rest : List Evidence} (h : s.pu.evidence = e :: rest) :
    s.nextEvidence = (s.withEvidence rest).takeEvidence e := by
  unfold State.nextEvidence
  simp only [h]
  rfl

/-- Settles O32, by the person the evidence names. -/
theorem evidenceSettles : Obligations.EvidenceSettles := by
  intro s e rest hev hrest
  have hrun : exec .evidence s = .next ((s.withEvidence rest).takeEvidence e) :=
    (State.onEvent_of_due hev rfl State.nextEvidence).trans (congrArg _ (State.nextEvidence_of_cons hrest))
  refine ⟨fun hdrop => ?_, fun r hp hashore htime => ?_⟩
  · exact hrun.trans (congrArg _ (State.takeEvidence_of_dropped (s := s.withEvidence rest) hdrop))
  · have hp' : (s.withEvidence rest).person? e.person = some r := hp
    intro counts s1
    rw [hrun, State.takeEvidence_of_disputed hp' hashore htime,
      State.movePresence_of_ne hp' (by rw [hashore]; decide), hashore]
    rfl

end Sys2Proof.Machine
end

section
/-! What falls due on the elapsed base (R32, R78, R79, R165, R166). -/

namespace Sys2Proof.Machine

set_option Elab.async false

theorem insert_insert {α : Type} (t : Table α) (k : Nat) (a b : α) : insert (insert t k a) k b = insert t k b := by
  induction t with
  | nil => simp [insert]
  | cons e rest ih =>
    obtain ⟨j, c⟩ := e
    by_cases hlt : k < j
    · simp [insert, hlt]
    · by_cases heq : k = j
      · simp [insert, heq]
      · simp [insert, hlt, heq, ih]

theorem erase_cons {α : Type} (e : Nat × α) (t : Table α) (k : Nat) :
    erase (e :: t) k = if e.1 = k then erase t k else e :: erase t k := by
  by_cases h : e.1 = k <;> simp [erase, h]

theorem erase_insert {α : Type} (t : Table α) (k : Nat) (a : α) : erase (insert t k a) k = erase t k := by
  induction t with
  | nil => simp [insert, erase]
  | cons e rest ih =>
    obtain ⟨j, c⟩ := e
    unfold insert
    split
    · rw [erase_cons, if_pos rfl]
    · split
      · subst_vars
        rw [erase_cons, erase_cons, if_pos rfl, if_pos rfl]
      · rw [erase_cons, erase_cons, ih]

/-- A record written twice, the first time with a record that is listed, is written once. -/
theorem setD_setD {α : Type} [DecidableEq α] {c a : α} (h : a ≠ c) (t : Table α) (k : Nat) (b : α) :
    setD (setD t k c a) k c b = setD t k c b := by
  unfold setD
  rw [if_neg h, erase_insert, insert_insert]

theorem State.setLink_setLink {a : Link} (h : a ≠ Link.cold) (s : State) (n : Nat) (b : Link) :
    (s.setLink n a).setLink n b = s.setLink n b := by
  unfold State.setLink
  dsimp only
  rw [setD_setD h]

theorem State.modLink_setLink {a : Link} (h : a ≠ Link.cold) (s : State) (n : Nat) (f : Link → Link) :
    (s.setLink n a).modLink n f = s.setLink n (f a) := by
  unfold State.modLink
  rw [State.setLink_setLink h, State.link_setLink, if_pos rfl]

theorem Frame.bytes_ne_nil (f : Frame) : f.bytes ≠ [] := by
  simp [Frame.bytes, crcBytes, be]

/-- R32: a permit at its expiry. -/
theorem State.exec_permitExpiry {s : State} {n : Nat} {k : Permit} (hev : s.takesEvents = true) (h1 : 1 ≤ n)
    (h8 : n ≤ 8) (hk : (s.lane n).permit = some k) (hdue : k.expiry ≤ s.sck.elapsed) :
    exec (.permitExpiry n) s = .next (s.endPermit n) := by
  refine State.onEvent_of_due hev ?_ fun s => s.endPermit n
  have hn : n ∈ laneNumbers := by simp [laneNumbers]; omega
  simp [hn, State.permitDue, hk, hdue]

/-- R78: the deadline of a lock heard from is reached when the window and the doze credit have passed since. -/
theorem State.contactDue_of_passed {s : State} {g st : Nat} {k : Lock} (hk : s.lock? g st = some k)
    (honline : k.state = .online) (hack : k.ackGen ≠ none) (hexcluded : k.excluded = false)
    (hdue : k.lastContact.getD 0 + 60000 * (s.seg g).window + (s.seg g).dozeCount ≤ s.sck.elapsed + k.dozeAtContact) :
    s.contactDue g st = true := by
  have hsome : k.ackGen.isSome := Option.isSome_iff_ne_none.mpr hack
  unfold State.contactDue Segment.deadline?
  simp only [hk]
  rw [if_pos ⟨honline, hsome, hexcluded⟩]
  simp only [Option.any_some, decide_eq_true_eq]
  omega

theorem State.modLock_of_some {s : State} {g st : Nat} {k : Lock} (hk : s.lock? g st = some k) (f : Lock → Lock) :
    s.modLock g st f = s.setLock g st (f k) := by
  unfold State.modLock
  simp only [hk]

/-- R79: nothing waits on the segment. -/
theorem State.quiet_iff (s : State) (g : Nat) :
    s.quiet g = true ↔ (s.seg g).outstanding = none ∧ (s.link (segLink g)).answers = [] ∧ (s.seg g).due = .none ∧
      (∀ x ∈ (s.seg g).pushes, (s.seg g).servable x = false) ∧ ∀ x ∈ (s.seg g).fetches, (s.seg g).servable x = false := by
  simp [State.quiet, Segment.oldestServable, and_assoc]

/-- R79: what the doze measure leaves behind at its end. -/
def State.measureSpent (s : State) (g : Nat) : State :=
  s.modSeg g fun c => { c with measure := { c.measure with limit := none } }

theorem State.endMeasure_of_quiet {s : State} {g : Nat} (h : s.quiet g = true) :
    s.endMeasure g = ((s.measureSpent g).drawTag.changeLink (segLink g) .doze).sendFrame (segLink g)
      { station := 0, kind := 0x04, tag := s.nextTag, body := [] } := if_pos h

theorem State.endMeasure_of_busy {s : State} {g : Nat} (h : ¬s.quiet g = true) : s.endMeasure g = s.measureSpent g :=
  if_neg h

/-- R164: a link as entered in another state than TRAINING. -/
def Link.entered (l : Link) (new : LinkState) : Link :=
  { l with state := new, history := (l.state :: l.history).take 3, attempt := 0, trains := 0 }

theorem State.changeLink_doze (s : State) (n : Nat) : s.changeLink n .doze = s.setLink n ((s.link n).entered .doze) :=
    rfl

theorem State.changeLink_failed (s : State) (n : Nat) :
    s.changeLink n .failed = (s.setLink n ((s.link n).entered .failed)).raise .linkChange := rfl

theorem State.changeLink_up (s : State) (n : Nat) :
    s.changeLink n .up = (s.setLink n ((s.link n).entered .up)).raise .linkChange := rfl

theorem Link.ne_cold_of_state {l : Link} (h : l.state ≠ .training) : l ≠ Link.cold := by
  rintro rfl
  exact h rfl

theorem Link.ne_cold_of_sent {l : Link} (h : l.sent ≠ []) : l ≠ Link.cold := by
  rintro rfl
  exact h rfl

/-- R79: a link in DOZE that has been sent its frame. -/
theorem State.dozed_eq (s : State) (n : Nat) (f : Frame) :
    (s.changeLink n .doze).sendFrame n f =
      s.setLink n { (s.link n).entered .doze with sent := f.bytes, lastSend := s.sck.elapsed } := by
  rw [State.changeLink_doze]
  exact State.modLink_setLink (Link.ne_cold_of_state (show LinkState.doze ≠ .training by decide)) s n _

/-- R165: a TRAIN frame sent and counted. -/
theorem State.sendTrain_eq (s : State) (n : Nat) :
    s.sendTrain n = s.drawTag.setLink n { s.link n with
      sent := ({ station := 0, kind := 0x01, tag := s.nextTag, body := be 1 (linkKind n) } : Frame).bytes
      lastSend := s.sck.elapsed, trains := (s.link n).trains + 1 } :=
  State.modLink_setLink (Link.ne_cold_of_sent (Frame.bytes_ne_nil _)) s.drawTag n fun l => { l with trains := l.trains + 1 }

theorem State.trainDue_of_passed {s : State} {n : Nat} (hstate : (s.link n).state = .training)
    (htrains : (s.link n).trains < 10) (hdue : (s.link n).attemptStart + 100 * (s.link n).trains ≤ s.sck.elapsed) :
    s.trainDue n = true := by
  simp [State.trainDue, hstate, htrains, hdue, Config.trainsPerAttempt, Config.trainMs]

theorem State.attemptOver_of_passed {s : State} {n : Nat} (hstate : (s.link n).state = .training)
    (hdue : (s.link n).attemptStart + 1000 ≤ s.sck.elapsed) : s.attemptOver n = true := by
  simp [State.attemptOver, hstate, hdue, Config.attemptMs]

theorem State.keepAliveDue_of_passed {s : State} {n : Nat} (hstate : (s.link n).state = .up)
    (hdue : (s.link n).lastSend + 1000 ≤ s.sck.elapsed) : s.keepAliveDue n = true := by
  simp [State.keepAliveDue, hstate, hdue, Config.keepAliveMs]

theorem State.silent_of_passed {s : State} {n : Nat} (hstate : (s.link n).state = .up)
    (hdue : (s.link n).silenceStart + 3000 ≤ s.sck.elapsed) : s.silent n = true := by
  simp [State.silent, hstate, hdue, Config.silenceMs]

theorem State.dozeDue_of_passed {s : State} {g d : Nat} (hstate : (s.link (segLink g)).state = .up)
    (htimer : (s.seg g).dozeTimer ≠ 0) (hlimit : (s.seg g).measure.limit = some d)
    (hdue : (s.seg g).measure.start + d ≤ s.sck.elapsed) : s.dozeDue g = true := by
  simp [State.dozeDue, State.segUp, hstate, htimer, hlimit, hdue]

theorem isSegment_of_le {g : Nat} (h : g ≤ 3) : isSegment g = true := decide_eq_true (Nat.lt_succ_of_le h)

theorem linkOk_of_le {n : Nat} (h : n ≤ 5) : linkOk n = true := decide_eq_true h

theorem State.endAttempt_of_lt {s : State} {n : Nat} (h : (s.link n).attempt < 3) :
    s.endAttempt n = s.modLink n fun l =>
      { l with attempt := l.attempt + 1, attemptStart := s.sck.elapsed, trains := 0 } := if_pos h

theorem State.endAttempt_of_le {s : State} {n : Nat} (h : 3 ≤ (s.link n).attempt) :
    s.endAttempt n = (s.changeLink n .failed).recordFault (bareFault .trainingFailed n) := if_neg (Nat.not_lt.mpr h)

/-- Settles O60, timer by timer. -/
theorem timersEnd : Obligations.TimersEnd := by
  intro s hev now
  refine ⟨fun n k h1 h8 hk hdue => ?_, fun g st k hg hk honline hack hexcluded hdue _ => ?_,
    fun g d hg hup htimer hlimit hdue => ?_, fun n hn => ⟨fun htraining htrains hdue => ?_, fun htraining hover =>
      ⟨fun hattempt => ?_, fun hattempt => ?_⟩, fun hup hdue => ?_, fun hup hdue => ?_⟩⟩
  · refine ⟨_, State.exec_permitExpiry hev h1 h8 hk hdue, fun m => ?_, fun q => ?_, State.endPermit_frame s n⟩
    · rw [State.endPermit_of_some hk, State.lane_consumePermit]
      simp only [Lane.ended, Tallies.unpassed, tallyUp_eq]
    · rw [State.endPermit_of_some hk, State.person?_consumePermit]
  · have hcontact := State.contactDue_of_passed hk honline hack hexcluded hdue
    have hdue := Bool.and_eq_true_iff.mpr ⟨isSegment_of_le hg, hcontact⟩
    refine (State.onEvent_of_due hev hdue fun s => s.makeStale g st).trans ?_
    unfold State.makeStale
    rw [State.modLock_of_some hk]
  · intro c l quiet spent
    have hdoze := State.dozeDue_of_passed hup htimer hlimit hdue
    have hrun : exec (.doze g) s = .next (s.endMeasure g) :=
      State.onEvent_of_due hev (Bool.and_eq_true_iff.mpr ⟨isSegment_of_le hg, hdoze⟩) fun s => s.endMeasure g
    refine ⟨fun hbusy => ?_, fun hquiet => ?_⟩
    · rw [hrun, State.endMeasure_of_busy fun h => hbusy ((State.quiet_iff s g).mp h)]
      rfl
    · rw [hrun, State.endMeasure_of_quiet ((State.quiet_iff s g).mpr hquiet), State.dozed_eq]
      rfl
  · have hdue := Bool.and_eq_true_iff.mpr ⟨linkOk_of_le hn, State.trainDue_of_passed htraining htrains hdue⟩
    refine (State.onEvent_of_due hev hdue fun s => s.sendTrain n).trans ?_
    rw [State.sendTrain_eq]
    rfl
  · have hdue := Bool.and_eq_true_iff.mpr ⟨linkOk_of_le hn, State.attemptOver_of_passed htraining hover⟩
    exact (State.onEvent_of_due hev hdue fun s => s.endAttempt n).trans (congrArg _ (State.endAttempt_of_lt hattempt))
  · have hdue := Bool.and_eq_true_iff.mpr ⟨linkOk_of_le hn, State.attemptOver_of_passed htraining hover⟩
    exact (State.onEvent_of_due hev hdue fun s => s.endAttempt n).trans (congrArg _ (State.endAttempt_of_le hattempt))
  · have hdue := Bool.and_eq_true_iff.mpr ⟨linkOk_of_le hn, State.keepAliveDue_of_passed hup hdue⟩
    exact State.onEvent_of_due hev hdue fun s => s.sendKeepAlive n
  · have hdue := Bool.and_eq_true_iff.mpr ⟨linkOk_of_le hn, State.silent_of_passed hup hdue⟩
    exact State.onEvent_of_due hev hdue fun s => s.goSilent n

end Sys2Proof.Machine
end

section
/-! A lane's answers (R29, R33), and records that join the queue beside writes of the gangway. -/

namespace Sys2Proof.Machine

set_option Elab.async false

theorem State.answerLane_frame (s : State) (f : Frame) (body : List Byte) :
    s.answerLane f body = { s with lk := (s.answerLane f body).lk } := by
  unfold State.answerLane State.queueAnswer
  split <;> rfl

theorem State.lane_answerLane (s : State) (f : Frame) (body : List Byte) (n : Nat) :
    (s.answerLane f body).lane n = s.lane n := by
  rw [State.answerLane_frame]
  rfl

theorem State.person?_answerLane (s : State) (f : Frame) (body : List Byte) (q : Nat) :
    (s.answerLane f body).person? q = s.person? q := by
  rw [State.answerLane_frame]
  rfl

/-- R90: the answer waits, whatever the step has written beside the links. -/
theorem State.answerWaits_answerLane {s t : State} (hlk : t.lk = s.lk) (f : Frame) (body : List Byte) :
    s.answerWaits (t.answerLane f body) 1 f 0x3F body := by
  intro m
  have hlink (m : Nat) : t.link m = s.link m := by unfold State.link; rw [hlk]
  unfold State.answerLane State.queueAnswer glLink
  by_cases hup : (s.link 1).state = .up
  · rw [if_pos (by rw [hlink]; exact hup), State.modLink, State.link_setLink]
    simp only [hlink, hup, and_true]
  · rw [if_neg (by rw [hlink]; exact hup), hlink, if_neg fun h => hup h.2]

/-- The state with other persons and another presence unit. -/
def State.withGangway (s : State) (pt : Table Person) (pu : PresenceUnit) : State := { s with pt := pt, pu := pu }

/-- R125: a record at the tail of the queue. -/
def State.enqueue (s : State) (x : Posting) : State :=
  { s with pq := { s.pq with records := s.pq.records ++ [x], next := s.pq.next + 1 } }

/-- R131: the notices of a queue that has reached a threshold. -/
def State.signalFill (s : State) : State :=
  if s.fill = 3839 then (if s.fill = 3584 then s.raise .postingsHigh else s).raise .chargingStopped
  else if s.fill = 3584 then s.raise .postingsHigh else s

theorem State.append_of_full {s : State} (h : s.free < 1) (time : Nat) (person : Option Nat) (day : Nat)
    (body : PostingBody) :
    s.append time person day body = s := by
  rw [State.append_eq, if_pos h]

theorem State.append_of_room {s : State} (h : ¬s.free < 1) (time : Nat) (person : Option Nat) (day : Nat)
    (body : PostingBody) :
    s.append time person day body = (s.enqueue ⟨s.pq.next, time, person, day, body⟩).signalFill := by
  rw [State.append_eq, if_neg h]
  rfl

theorem State.signalFill_withGangway (s : State) (pt : Table Person) (pu : PresenceUnit) :
    (s.withGangway pt pu).signalFill = s.signalFill.withGangway pt pu := by
  have hfill : (s.withGangway pt pu).fill = s.fill := rfl
  unfold State.signalFill
  rw [hfill]
  split <;> split <;> rfl

theorem State.append_withGangway (s : State) (pt : Table Person) (pu : PresenceUnit) (time : Nat) (person : Option Nat)
    (day : Nat) (body : PostingBody) :
    (s.withGangway pt pu).append time person day body = (s.append time person day body).withGangway pt pu := by
  by_cases h : s.free < 1
  · rw [State.append_of_full h, State.append_of_full (s := s.withGangway pt pu) h]
  · rw [State.append_of_room h, State.append_of_room (s := s.withGangway pt pu) h]
    exact State.signalFill_withGangway (s.enqueue ⟨s.pq.next, time, person, day, body⟩) pt pu

/-- The queue and the notices of a crossing do not depend on the persons and the presence unit. -/
theorem State.appendCrossing_withGangway (s : State) (pt : Table Person) (pu : PresenceUnit) (person : Option Nat)
    (c : Crossing) : (s.withGangway pt pu).appendCrossing person c = (s.appendCrossing person c).withGangway pt pu := by
  rw [State.appendCrossing_eq, State.appendCrossing_eq]
  by_cases h : s.free < 1
  · rw [if_pos h, if_pos (show (s.withGangway pt pu).free < 1 from h)]
    rfl
  · rw [if_neg h, if_neg (show ¬(s.withGangway pt pu).free < 1 from h)]
    exact State.append_withGangway s pt pu _ _ _ _

end Sys2Proof.Machine
end

section
/-! Scans (R29 to R31). -/

namespace Sys2Proof.Machine

set_option Elab.async false

theorem State.repeats_iff (s : State) (n : Nat) (r : Person) :
    s.repeats n r = true ↔ r.lastLane = some n ∧ ∃ t, r.lastCrossing = some t ∧ s.sck.elapsed < t + 5000 := by
  unfold State.repeats Config.repeatMs
  cases r.lastCrossing <;> simp

theorem scanLane_of_range {n : Nat} (serial : Serial) (s : State) (h : n < 1 ∨ 8 < n) :
    scanLane n serial s = (s, scanRefused .range none) := if_pos h

theorem scanLane_of_closed {n : Nat} (serial : Serial) {s : State} (h1 : 1 ≤ n) (h8 : n ≤ 8)
    (h : (s.lane n).effective = .closed) : scanLane n serial s = (s, scanRefused .laneClosed none) := by
  unfold scanLane
  dsimp only
  rw [if_neg (by omega), if_pos h]

theorem scanLane_of_unknown {n : Nat} {serial : Serial} {s : State} (h1 : 1 ≤ n) (h8 : n ≤ 8)
    (h : (s.lane n).effective ≠ .closed) (hcard : s.card? serial = none) :
    scanLane n serial s = (s, scanRefused .unknownCard none) := by
  unfold scanLane
  simp only [hcard]
  rw [if_neg (by omega), if_neg h]

theorem scanLane_of_revoked {n day : Nat} {serial : Serial} {s : State} {e : Card} (h1 : 1 ≤ n) (h8 : n ≤ 8)
    (h : (s.lane n).effective ≠ .closed) (hcard : s.card? serial = some e) (hstate : e.state = .revoked day) :
    scanLane n serial s = (s.revokedUse e.person serial (.lane n), scanRefused .revoked (some e.person)) := by
  unfold scanLane
  simp only [hcard, hstate]
  rw [if_neg (by omega), if_neg h]

/-- R29: the direction that an open lane gives a person. -/
def opensOut (mode : LaneMode) (p : Presence) : Bool := mode = .outbound || (mode = .both && p = .aboard)

/-- R31: the direction that the permit of a scan has. -/
def scanned (out : Bool) : Direction := if out then .outward else .inward

theorem scanned_code (out : Bool) : (scanned out).code = if out then 0 else 1 := by cases out <;> rfl

/-- R29 checks 4 to 9, R31: the scan of an ACTIVE card at an open lane. -/
theorem scanLane_of_active {n : Nat} {serial : Serial} {s : State} {e : Card} {r : Person} (h1 : 1 ≤ n) (h8 : n ≤ 8)
    (h : (s.lane n).effective ≠ .closed) (hcard : s.card? serial = some e) (hstate : e.state = .active)
    (hr : s.person? e.person = some r) {out : Bool} (hout : opensOut (s.lane n).effective r.presence = out) :
    scanLane n serial s =
      if s.scanOutcome n r out = .permit then
        (s.grantPermit n e.person (scanned out) r,
          be 1 Code.permit.number ++ be 1 (scanned out).code ++ be 2 e.person ++ be 4 s.pu.permitWindow)
      else (s, scanRefused (s.scanOutcome n r out) (some e.person)) := by
  unfold scanLane
  simp only [hcard, hstate, hr]
  rw [if_neg (by omega), if_neg h]
  by_cases hbusy : (s.lane n).permit ≠ none
  · rw [State.scanOutcome, if_pos hbusy, if_pos (Option.isSome_iff_ne_none.mpr hbusy)]
    rfl
  rw [if_neg (mt Option.isSome_iff_ne_none.mp hbusy)]
  by_cases htransit : r.permitLane ≠ none
  · rw [State.scanOutcome, if_neg hbusy, if_pos htransit, if_pos (Option.isSome_iff_ne_none.mpr htransit)]
    rfl
  rw [if_neg (mt Option.isSome_iff_ne_none.mp htransit)]
  by_cases hrepeat : s.repeats n r = true
  · rw [State.scanOutcome, if_neg hbusy, if_neg htransit, if_pos ((s.repeats_iff n r).mp hrepeat), if_pos hrepeat]
    rfl
  rw [if_neg hrepeat, State.scanOutcome, if_neg hbusy, if_neg htransit, if_neg (mt (s.repeats_iff n r).mpr hrepeat)]
  cases hmode : (s.lane n).effective with
  | closed => exact absurd hmode h
  | outbound =>
    obtain rfl : out = true := by rw [← hout, hmode]; rfl
    cases hp : r.presence <;> cases hhold : r.holdAboard <;> simp [scanDirection, fromStateOk, scanned]
  | inbound =>
    obtain rfl : out = false := by rw [← hout, hmode]; rfl
    cases hp : r.presence <;> simp [scanDirection, fromStateOk, scanned]
  | both =>
    obtain rfl : out = decide (r.presence = .aboard) := by rw [← hout, hmode]; simp [opensOut]
    cases hp : r.presence <;> cases hhold : r.holdAboard <;> simp [scanDirection, fromStateOk, scanned]

theorem exec_scan {n : Nat} {tag : Byte} {serial : Serial} {s0 s : State} {f : Frame}
    (hf : f = { station := n, kind := 0x30, tag := tag, body := serialBytes serial }) (h : s0.takeFrame 1 f = some s) :
    exec (.scan n tag serial) s0 = .next ((scanLane n serial s).1.answerLane f (scanLane n serial s).2) :=
  State.onFrame_of_takeFrame (i := .scan n tag serial) (by rw [hf]; rfl) h fun _ f s1 =>
    (scanLane n serial s1).1.answerLane f (scanLane n serial s1).2

/-- Settles O57, by the checks in their order. -/
theorem scansGrantPermits : Obligations.ScansGrantPermits := by
  intro n tag serial s0 s f hf htake run refused
  have hrun : run = _ := exec_scan hf htake
  have hrefused (c : Code) (p : Option Nat) (h : scanLane n serial s = (s, scanRefused c p)) : refused c p := by
    rw [h] at hrun
    exact ⟨_, hrun, State.answerWaits_answerLane rfl _ _, State.answerLane_frame _ _ _⟩
  refine ⟨fun hrange => hrefused _ _ (scanLane_of_range serial s hrange), fun h1 h8 =>
    ⟨fun hclosed => hrefused _ _ (scanLane_of_closed serial h1 h8 hclosed),
      fun hopen hcard => hrefused _ _ (scanLane_of_unknown h1 h8 hopen hcard),
      fun hopen e day hcard hstate => ?_, fun hopen e r hcard hstate hr => ?_⟩⟩
  · rw [scanLane_of_revoked h1 h8 hopen hcard hstate] at hrun
    exact ⟨_, hrun, State.answerWaits_answerLane (by simp) _ _, State.answerLane_frame _ _ _⟩
  · intro out c
    have hscan := scanLane_of_active h1 h8 hopen hcard hstate hr (out := out) rfl
    refine ⟨fun hc => hrefused c _ (hscan.trans (if_neg hc)), fun hc => ?_⟩
    rw [hscan.trans (if_pos hc), scanned_code] at hrun
    refine ⟨_, hrun, fun m => ?_, fun q => ?_,
      State.answerWaits_answerLane (t := s.grantPermit n e.person (scanned out) r) rfl f _, ?_⟩
    · rw [State.lane_answerLane, State.lane_grantPermit, tallyUp_eq, Nat.mul_comm s.pu.permitWindow]
      rfl
    · rw [State.person?_answerLane, State.person?_grantPermit]
    · apply State.eq_of_fields <;> simp
      apply PresenceUnit.eq_of_fields <;> simp

end Sys2Proof.Machine
end

section
/-! Passages (R33 to R35, R41). -/

namespace Sys2Proof.Machine

set_option Elab.async false

theorem exec_passage {n : Nat} {tag : Byte} {d : Direction} {s0 s : State} {f : Frame}
    (hf : f = { station := n, kind := 0x31, tag := tag, body := be 1 d.code }) (h : s0.takeFrame 1 f = some s) :
    exec (.passage n tag d) s0 = .next ((passLane n d s).1.answerLane f (passLane n d s).2) :=
  State.onFrame_of_takeFrame (i := .passage n tag d) (by rw [hf]; rfl) h fun _ f s1 =>
    (passLane n d s1).1.answerLane f (passLane n d s1).2

theorem passLane_of_range {n : Nat} (d : Direction) (s : State) (h : n < 1 ∨ 8 < n) :
    passLane n d s = (s, be 1 Code.range.number) := if_pos h

/-- R35: without a permit of its direction a passage is unscanned. -/
theorem passLane_of_unscanned {n : Nat} {d : Direction} {s : State} (h1 : 1 ≤ n) (h8 : n ≤ 8)
    (h : ∀ k, (s.lane n).permit = some k → k.direction ≠ d) :
    passLane n d s = (s.unscannedPassage n d, be 1 Code.ok.number ++ optPerson none ++ be 1 2) := by
  unfold passLane
  rw [if_neg (by omega)]
  cases hk : (s.lane n).permit with
  | none => rfl
  | some k => exact if_pos (h k hk)

/-- R34: with the person's state changed since the scan a passage is stale. -/
theorem passLane_of_stale {n : Nat} {d : Direction} {s : State} {k : Permit} {r : Person} (h1 : 1 ≤ n) (h8 : n ≤ 8)
    (hk : (s.lane n).permit = some k) (hd : k.direction = d) (hr : s.person? k.person = some r)
    (h : r.presence ≠ k.fromState) :
    passLane n d s = (s.stalePassage n k, be 1 Code.ok.number ++ optPerson (some k.person) ++ be 1 1) := by
  unfold passLane
  simp only [hk, hr]
  rw [if_neg (by omega), if_neg (not_not_intro hd), if_neg (by simpa using h)]

/-- R33: with the person still in the from-state a passage commits. -/
theorem passLane_of_committed {n : Nat} {d : Direction} {s : State} {k : Permit} {r : Person} (h1 : 1 ≤ n) (h8 : n ≤ 8)
    (hk : (s.lane n).permit = some k) (hd : k.direction = d) (hr : s.person? k.person = some r)
    (h : r.presence = k.fromState) :
    passLane n d s = (s.commitCrossing n k, be 1 Code.ok.number ++ optPerson (some k.person) ++ be 1 0) := by
  unfold passLane
  simp only [hk, hr]
  rw [if_neg (by omega), if_neg (not_not_intro hd), if_pos (by simpa using h)]

/-! ### The parts of a passage -/

/-- A step that has written persons, presence unit, queue and notices, and then answers the lane. -/
theorem State.answerLane_withGangway (s : State) (pt : Table Person) (pu : PresenceUnit) (f : Frame)
    (body : List Byte) :
    (s.withGangway pt pu).answerLane f body =
      { s with lk := ((s.withGangway pt pu).answerLane f body).lk, pt := pt, pu := pu } :=
  State.answerLane_frame _ f body

/-- R35: the lane of an unscanned passage. -/
def Lane.unscanned (l : Lane) : Lane :=
    { l with tallies := { l.tallies with passNoScan := tallyUp l.tallies.passNoScan } }

/-- R35: the record of an unscanned passage. -/
def unscannedCrossing (n : Nat) (d : Direction) : Crossing := ⟨n, d, false, false, false, true, none⟩

theorem State.unscannedPassage_eq (s : State) (n : Nat) (d : Direction) :
    s.unscannedPassage n d =
      ((s.appendCrossing none (unscannedCrossing n d)).raise .tailgate).withGangway
        (s.appendCrossing none (unscannedCrossing n d)).pt (s.setLane n (s.lane n).unscanned).pu := by
  rw [State.appendCrossing_pt]
  exact congrArg (·.raise .tailgate)
    (State.appendCrossing_withGangway s s.pt (s.setLane n (s.lane n).unscanned).pu none (unscannedCrossing n d))

/-- R34: the tally of a stale passage. -/
def Tallies.staled (t : Tallies) : Tallies := { t with stale := tallyUp t.stale }

theorem State.stalePassage_eq (s : State) (n : Nat) (k : Permit) :
    s.stalePassage n k =
      ((s.appendCrossing (some k.person) ⟨n, k.direction, false, false, true, false, none⟩).raise .stalePassage).withGangway
        (s.consumePermit n k Tallies.staled).pt
        { s.pu with lanes := (s.consumePermit n k Tallies.staled).pu.lanes } := by
  let appended (t : State) : State := t.appendCrossing (some k.person) ⟨n, k.direction, false, false, true, false, none⟩
  calc s.stalePassage n k = (appended (s.consumePermit n k Tallies.staled)).raise .stalePassage := rfl
    _ = (appended (s.withGangway _ _)).raise .stalePassage :=
      congrArg (fun t => (appended t).raise .stalePassage) (State.consumePermit_frame s n k Tallies.staled)
    _ = ((appended s).withGangway _ _).raise .stalePassage :=
      congrArg (·.raise .stalePassage) (State.appendCrossing_withGangway s _ _ _ _)

/-- R33: the state entered by a crossing. -/
def entering (d : Direction) : Presence := if d = .outward then .ashore else .aboard

/-- R33: the tally of a crossing. -/
def Tallies.crossed (d : Direction) (t : Tallies) : Tallies :=
  if d = .outward then { t with outward := tallyUp t.outward } else { t with inward := tallyUp t.inward }

/-- R33: the permit consumed, the person moved and the crossing noted in the person's record. -/
def State.crossed (s : State) (n : Nat) (k : Permit) : State :=
  ((s.consumePermit n k (Tallies.crossed k.direction)).movePresence k.person (entering k.direction)).modPerson k.person
    fun r => { r with lastLane := some n, lastCrossing := some s.sck.elapsed }

theorem State.crossed_frame (s : State) (n : Nat) (k : Permit) :
    s.crossed n k = s.withGangway (s.crossed n k).pt
      { s.pu with lanes := (s.crossed n k).pu.lanes, counts := (s.crossed n k).pu.counts } := by
  apply State.eq_of_fields <;> simp [State.withGangway, State.crossed]
  apply PresenceUnit.eq_of_fields <;> simp

theorem State.lane_crossed (s : State) (n m : Nat) (k : Permit) :
    (s.crossed n k).lane m = if m = n then (s.lane n).ended (Tallies.crossed k.direction) else s.lane m := by
  rw [← State.lane_consumePermit s n m k]
  unfold State.lane State.crossed
  rw [State.modPerson_pu, State.movePresence_pu_lanes]

/-- R33: the person after a crossing. -/
def Person.crossed (r : Person) (n : Nat) (d : Direction) (clock now : Nat) : Person :=
  { ({ r with permitLane := none } : Person).entered (entering d) clock with lastLane := some n, lastCrossing := some now }

theorem fromStateOk_ne {d : Direction} {p : Presence} (h : fromStateOk d p = true) : p ≠ entering d := by
  cases d <;> cases p <;> simp_all [fromStateOk, entering]

/-- R33, R25: what a person and the counts read after a crossing from another state. -/
theorem State.crossed_eq {s : State} {n : Nat} {k : Permit} {r : Person} (hr : s.person? k.person = some r)
    (h : r.presence ≠ entering k.direction) :
    (∀ q, (s.crossed n k).person? q =
      if q = k.person then some (r.crossed n k.direction s.sck.clock s.sck.elapsed) else s.person? q) ∧
    (s.crossed n k).pu.counts = s.pu.counts.moved r.presence (entering k.direction) := by
  have hr' : (s.consumePermit n k (Tallies.crossed k.direction)).person? k.person = some { r with permitLane := none } := by
    rw [State.person?_consumePermit, if_pos rfl, hr]
    rfl
  unfold State.crossed
  rw [State.movePresence_of_ne hr' h]
  refine ⟨fun q => ?_, ?_⟩
  · rw [State.person?_modPerson, State.person?_setPerson]
    split
    · rw [State.consumePermit_sck]
      rfl
    · refine (State.person?_consumePermit s n q k (Tallies.crossed k.direction)).trans ?_
      rw [if_neg ‹_›]
  · rw [State.modPerson_pu]
    show Counts.moved (s.consumePermit n k (Tallies.crossed k.direction)).pu.counts _ _ = _
    rw [State.consumePermit_pu_counts]

/-- R33, R41: the record of a crossing, and LATE_RETURN at a late one. -/
def State.crossingPosted (s : State) (k : Permit) (c : Crossing) : State :=
  if c.late then (s.appendCrossing (some k.person) c).raise .lateReturn else s.appendCrossing (some k.person) c

/-- R33, R41: the crossing that a permit's passage records. -/
def State.crossing (s : State) (n : Nat) (k : Permit) (late : Bool) : Crossing :=
  { lane := n, direction := k.direction, late := late, wasDisputed := decide (k.fromState = .disputed), stale := false
    unscanned := false, minutesLate := if late then some s.minutesLate else none }

theorem State.commitCrossing_eq_posted (s : State) (n : Nat) (k : Permit) :
    s.commitCrossing n k =
      (s.crossed n k).crossingPosted k (s.crossing n k (decide (k.fromState = .ashore ∧ s.overdueNow))) := by
  obtain ⟨p, d, fromState, expiry⟩ := k
  unfold State.commitCrossing State.crossingPosted State.crossing
  by_cases hlate : fromState = .ashore ∧ s.overdueNow
  · rw [if_pos hlate]
    cases d <;> simp [hlate] <;> rfl
  · cases d <;> simp [hlate] <;> rfl

theorem State.crossingPosted_lk (s : State) (k : Permit) (c : Crossing) : (s.crossingPosted k c).lk = s.lk := by
  unfold State.crossingPosted
  split <;> simp

theorem State.crossingPosted_withGangway (s : State) (pt : Table Person) (pu : PresenceUnit) (k : Permit)
    (c : Crossing) :
    (s.withGangway pt pu).crossingPosted k c = (s.crossingPosted k c).withGangway pt pu := by
  unfold State.crossingPosted
  rw [State.appendCrossing_withGangway]
  split <;> rfl

theorem State.commitCrossing_eq (s : State) (n : Nat) (k : Permit) :
    s.commitCrossing n k =
      (s.crossingPosted k (s.crossing n k (decide (k.fromState = .ashore ∧ s.overdueNow)))).withGangway (s.crossed n k).pt
        { s.pu with lanes := (s.crossed n k).pu.lanes, counts := (s.crossed n k).pu.counts } :=
  (s.commitCrossing_eq_posted n k).trans ((congrArg (State.crossingPosted · k _) (s.crossed_frame n k)).trans
    (State.crossingPosted_withGangway s _ _ k _))

/-- R27: the lateness of a crossing, as its conditions. -/
theorem State.late_eq (s : State) (k : Permit) :
    decide (k.fromState = .ashore ∧ s.overdueNow) =
      (decide (k.fromState = .ashore) && s.pu.deadline.armed && s.pu.deadline.passed) := by
  unfold State.overdueNow
  rw [Bool.decide_and, Bool.decide_eq_true, Bool.and_assoc]

theorem Tallies.crossed_eq (d : Direction) (t : Tallies) :
    t.crossed d = if d = .outward then { t with outward := min 65535 (t.outward + 1) }
      else { t with inward := min 65535 (t.inward + 1) } := by
  unfold Tallies.crossed
  rw [tallyUp_eq, tallyUp_eq]

/-- Settles O58, by the three ways a passage ends. -/
theorem passagesCross : Obligations.PassagesCross := by
  intro n tag d s0 s f hf htake run l crossing
  have hrun : run = _ := exec_passage hf htake
  refine ⟨fun hrange => ?_, fun h1 h8 hno => ?_, fun k r h1 h8 hk hd hr => ⟨fun hmoved => ?_, fun hsame hok => ?_⟩⟩
  · rw [passLane_of_range d s hrange] at hrun
    exact ⟨_, hrun, State.answerWaits_answerLane rfl _ _, State.answerLane_frame _ _ _⟩
  · rw [passLane_of_unscanned h1 h8 hno, State.unscannedPassage_eq] at hrun
    refine ⟨_, hrun, fun m => ?_, State.answerWaits_answerLane (by simp [State.withGangway]) f _, ?_⟩
    · rw [State.lane_answerLane]
      exact (s.lane_setLane n m _).trans (by rw [Lane.unscanned, tallyUp_eq])
    · refine (State.answerLane_withGangway _ _ _ _ _).trans ?_
      simp only [State.answerLane_pu]
      rfl
  · rw [passLane_of_stale h1 h8 hk hd hr hmoved, State.stalePassage_eq, hd] at hrun
    refine ⟨_, hrun, fun m => ?_, fun q => ?_, State.answerWaits_answerLane (by simp [State.withGangway]) f _, ?_⟩
    · rw [State.lane_answerLane]
      refine (s.lane_consumePermit n m k Tallies.staled).trans ?_
      rw [Lane.ended, Tallies.staled, tallyUp_eq]
    · rw [State.person?_answerLane]
      refine (s.person?_consumePermit n q k Tallies.staled).trans ?_
      split
      · subst_vars
        rw [hr]
        rfl
      · rfl
    · refine (State.answerLane_withGangway _ _ _ _ _).trans ?_
      simp only [State.answerLane_pu, State.answerLane_pt]
      rfl
  · rw [passLane_of_committed h1 h8 hk hd hr hsame, State.commitCrossing_eq, State.late_eq] at hrun
    intro late new up queued
    have hcrossing : s.crossing n k late = crossing late (decide (k.fromState = .disputed)) false false := by
      rw [State.crossing, hd]
      rfl
    rw [hcrossing] at hrun
    obtain ⟨hperson, hcounts⟩ := State.crossed_eq (n := n) hr (by rw [hsame, hd]; exact fromStateOk_ne hok)
    refine ⟨_, hrun, fun m => ?_, fun q => ?_, fun st => ?_, State.answerWaits_answerLane ?_ f _, ?_⟩
    · rw [State.lane_answerLane]
      refine (s.lane_crossed n m k).trans ?_
      rw [Lane.ended, Tallies.crossed_eq, hd]
    · rw [State.person?_answerLane]
      refine (hperson q).trans ?_
      rw [hd, Person.crossed, Person.entered]
      cases d <;> rfl
    · rw [State.answerLane_pu]
      refine (congrArg (Counts.of · st) hcounts).trans ?_
      rw [Counts.of_moved (by rw [hsame, hd]; exact fromStateOk_ne hok), hd]
      rfl
    · exact State.crossingPosted_lk s k _
    · refine (State.answerLane_withGangway _ _ _ _ _).trans ?_
      simp only [State.answerLane_pu, State.answerLane_pt]
      rfl

end Sys2Proof.Machine
end

section
/-! A segment woken from DOZE (R79), and a lock handed over for a push (R14). -/

namespace Sys2Proof.Machine

set_option Elab.async false

theorem State.seg_modSeg (s : State) (g h : Nat) (f : Segment → Segment) :
    (s.modSeg g f).seg h = if h = g then f (s.seg g) else s.seg h := s.seg_setSeg g h _

/-- R79, R166: a segment in DOZE as woken. -/
theorem State.wake_of_doze {s : State} {g : Nat} (h : (s.link (segLink g)).state = .doze) :
    s.wake g = ((s.setLink (segLink g) ((s.link (segLink g)).woken s.sck.elapsed)).raise .linkChange).restartMeasure g := by
  have hup : (s.link (segLink g)).entered .up ≠ Link.cold := Link.ne_cold_of_state (show LinkState.up ≠ .training by decide)
  unfold State.wake
  rw [if_pos h, State.changeLink_up]
  exact congrArg (fun t : State => (t.raise .linkChange).restartMeasure g)
    (a₁ := (s.setLink (segLink g) ((s.link (segLink g)).entered .up)).modLink (segLink g)
      fun l => { l with silenceStart := s.sck.elapsed, lastSend := s.sck.elapsed })
    (State.modLink_setLink hup s (segLink g) _)

theorem State.wake_of_ne {s : State} {g : Nat} (h : (s.link (segLink g)).state ≠ .doze) : s.wake g = s := if_neg h

theorem State.link_wake (s : State) (g n : Nat) :
    (s.wake g).link n =
      if n = segLink g ∧ (s.link (segLink g)).state = .doze then (s.link n).woken s.sck.elapsed else s.link n := by
  by_cases h : (s.link (segLink g)).state = .doze
  · rw [State.wake_of_doze h]
    refine (s.link_setLink (segLink g) n ((s.link (segLink g)).woken s.sck.elapsed)).trans ?_
    by_cases hn : n = segLink g
    · rw [if_pos hn, if_pos ⟨hn, h⟩, hn]
    · rw [if_neg hn, if_neg fun hn' => hn hn'.1]
  · rw [State.wake_of_ne h, if_neg fun hn => h hn.2]

/-- R79: the doze measure of a segment started again. -/
def Segment.remeasured (c : Segment) (now : Nat) : Segment :=
  { c with measure := { start := now, limit := dozeMs c.dozeTimer } }

theorem State.seg_wake (s : State) (g h : Nat) :
    (s.wake g).seg h =
      if h = g ∧ (s.link (segLink g)).state = .doze then (s.seg h).remeasured s.sck.elapsed else s.seg h := by
  by_cases hdoze : (s.link (segLink g)).state = .doze
  · rw [State.wake_of_doze hdoze]
    refine (State.seg_modSeg _ g h _).trans ?_
    by_cases hg : h = g
    · rw [if_pos hg, if_pos ⟨hg, hdoze⟩, hg]
      rfl
    · rw [if_neg hg, if_neg fun hg' => hg hg'.1]
      rfl
  · rw [State.wake_of_ne hdoze, if_neg fun hg => hdoze hg.2]

theorem State.nfu_wake (s : State) (g : Nat) :
    (s.wake g).nfu = if (s.link (segLink g)).state = .doze then (s.raise .linkChange).nfu else s.nfu := by
  by_cases h : (s.link (segLink g)).state = .doze
  · rw [State.wake_of_doze h, if_pos h]
    rfl
  · rw [State.wake_of_ne h, if_neg h]

/-- R14: a station at the tail of a push list that holds none for it. -/
def Segment.pushed (c : Segment) (st : Nat) : Segment :=
  { c with pushes := if c.pushes.contains st then c.pushes else c.pushes ++ [st] }

theorem State.handPush_eq (s : State) (g st : Nat) :
    s.handPush g st =
      if (s.seg g).servable st then (s.setSeg g ((s.seg g).pushed st)).wake g else s.setSeg g ((s.seg g).pushed st) := rfl

theorem State.seg_handPush (s : State) (g st h : Nat) :
    (s.handPush g st).seg h =
      if h = g then
        if (s.link (segLink g)).state = .doze ∧ (s.seg g).servable st = true then
          ((s.seg g).pushed st).remeasured s.sck.elapsed
        else (s.seg g).pushed st
      else s.seg h := by
  have hseg := s.seg_setSeg g h ((s.seg g).pushed st)
  rw [State.handPush_eq]
  by_cases hservable : (s.seg g).servable st = true
  · rw [if_pos hservable, State.seg_wake, hseg]
    by_cases hg : h = g
    · simp only [hg, hservable, and_true, true_and, if_true]
      rfl
    · rw [if_neg fun hg' => hg hg'.1, if_neg hg, if_neg hg]
  · have hwakes : ¬((s.link (segLink g)).state = .doze ∧ (s.seg g).servable st = true) := fun hw => hservable hw.2
    rw [if_neg hservable, hseg, if_neg hwakes]

theorem State.link_handPush (s : State) (g st n : Nat) :
    (s.handPush g st).link n =
      if n = segLink g ∧ (s.link (segLink g)).state = .doze ∧ (s.seg g).servable st = true then
        (s.link n).woken s.sck.elapsed
      else s.link n := by
  rw [State.handPush_eq]
  by_cases hservable : (s.seg g).servable st = true
  · rw [if_pos hservable, State.link_wake]
    simp only [hservable, and_true]
    rfl
  · rw [if_neg hservable, if_neg fun h => hservable h.2.2]
    rfl

theorem State.nfu_handPush (s : State) (g st : Nat) :
    (s.handPush g st).nfu =
      if (s.link (segLink g)).state = .doze ∧ (s.seg g).servable st = true then (s.raise .linkChange).nfu else s.nfu := by
  rw [State.handPush_eq]
  by_cases hservable : (s.seg g).servable st = true
  · rw [if_pos hservable, State.nfu_wake]
    simp only [hservable, and_true]
    rfl
  · rw [if_neg hservable, if_neg fun h => hservable h.2]
    rfl

theorem State.wakesFor_some (s : State) (g st h : Nat) :
    s.wakesFor (some (g, st)) h = true ↔ h = g ∧ (s.link (segLink g)).state = .doze ∧ (s.seg g).servable st = true := by
  unfold State.wakesFor
  by_cases hg : h = g
  · simp [hg]
  · simp [hg, Ne.symm hg]

theorem Segment.pushed_eq (c : Segment) (g st : Nat) :
    c.pushed st = { c with
      pushes := c.pushes ++ (((some (g, st)).filter fun l => l.1 = g && !c.pushes.contains l.2).map (·.2)).toList } := by
  unfold Segment.pushed
  by_cases hc : st ∈ c.pushes <;> simp [hc, Option.filter]

/-- R14, R79: a lock handed over. -/
theorem State.handedPush_handPush (s : State) (g st : Nat) : s.handedPush (s.handPush g st) (some (g, st)) := by
  refine ⟨fun h => ?_, fun n => ?_⟩
  · rw [State.seg_handPush]
    by_cases hg : h = g
    · subst hg
      rw [if_pos rfl, Segment.pushed_eq _ h]
      simp only [State.wakesFor_some, true_and]
      split <;> rfl
    · have hwakes : ¬s.wakesFor (some (g, st)) h = true := fun hw => hg ((s.wakesFor_some g st h).mp hw).1
      rw [if_neg hg, if_neg hwakes]
      simp [Option.filter, Ne.symm hg]
  · rw [State.link_handPush]
    refine if_congr ?_ rfl rfl
    rw [State.wakesFor_some]
    unfold segLink
    constructor
    · rintro ⟨rfl, hdoze, hservable⟩
      exact ⟨by omega, by omega, hdoze, hservable⟩
    · rintro ⟨hn, hg, hdoze, hservable⟩
      exact ⟨by omega, hdoze, hservable⟩

theorem State.pushNotices_handPush (s : State) (g st : Nat) : (s.handPush g st).nfu = s.pushNotices (some (g, st)) := by
  rw [State.nfu_handPush]
  unfold State.pushNotices
  refine if_congr ?_ rfl rfl
  rw [Option.any_some, State.wakesFor_some, eq_self, true_and]

/-- R14: where no lock is handed over no segment and no link differs. -/
theorem State.handedPush_none {s t : State} (hsc : t.sc = s.sc) (hlk : t.lk = s.lk) : s.handedPush t none := by
  refine ⟨fun h => ?_, fun n => ?_⟩
  · simp [State.seg, hsc, State.wakesFor]
  · simp [State.link, hlk, State.wakesFor]

theorem State.handedPush_of_eq {s t u : State} {lock : Option (Nat × Nat)} (h : s.handedPush t lock) (hsc : u.sc = t.sc)
    (hlk : u.lk = t.lk) : s.handedPush u lock := by
  unfold State.handedPush State.seg State.link at h ⊢
  rw [hsc, hlk]
  exact h

end Sys2Proof.Machine
end

section
/-! A rekey, a revocation and a removal from a cabin: what each record reads afterwards (R13, R14, R17). -/

namespace Sys2Proof.Machine

set_option Elab.async false

/-! ### Reissue due -/

/-- R14: reissue due set, where a condition holds. -/
def Person.marked (r : Person) (b : Bool) : Person := { r with reissueDue := r.reissueDue || b }

theorem Person.marked_false (r : Person) : r.marked false = r := by
  unfold Person.marked
  rw [Bool.or_false]

theorem Person.marked_marked (r : Person) (a b : Bool) : (r.marked a).marked b = r.marked (a || b) := by
  unfold Person.marked
  rw [Bool.or_assoc]

/-- R5: the generation of a person's card, where no card's generation has changed. -/
theorem State.activeGen?_of_generations {s t : State} {r r' : Person} (hcard : r'.card = r.card)
    (h : ∀ k, (t.card? k).map (·.generation) = (s.card? k).map (·.generation)) : t.activeGen? r' = s.activeGen? r := by
  unfold State.activeGen?
  rw [hcard]
  cases r.card with
  | none => rfl
  | some serial => exact h serial

theorem State.activeGen?_of_ci {s t : State} {r r' : Person} (hcard : r'.card = r.card) (h : t.ci = s.ci) :
    t.activeGen? r' = s.activeGen? r :=
  State.activeGen?_of_generations hcard fun k => by unfold State.card?; rw [h]

theorem State.person?_markBelow_single (s : State) (p q gen : Nat) :
    (s.markBelow [p] gen).person? q = (s.person? q).map fun r =>
      r.marked (decide (q = p) && (s.activeGen? r).any fun g => g < gen) := by
  show State.person? (State.markBelow s [p] gen) q = _
  unfold State.markBelow
  rw [List.foldl_cons, List.foldl_nil]
  cases hp : s.person? p with
  | none =>
    by_cases hq : q = p
    · rw [hq, hp]
      rfl
    · simp [hq, Person.marked_false]
  | some r =>
    dsimp only
    cases hg : s.activeGen? r with
    | none =>
      by_cases hq : q = p
      · rw [hq, hp]
        simp [hg, Person.marked_false]
      · simp [hq, Person.marked_false]
    | some g =>
      dsimp only
      by_cases hlt : g < gen
      · rw [if_pos hlt, State.person?_setPerson]
        by_cases hq : q = p
        · rw [hq, hp]
          simp [hg, hlt, Person.marked]
        · simp [hq, Person.marked_false]
      · rw [if_neg hlt]
        by_cases hq : q = p
        · rw [hq, hp]
          simp [hg, hlt, Person.marked_false]
        · simp [hq, Person.marked_false]

theorem State.markBelow_cons (s : State) (p : Nat) (l : List Nat) (gen : Nat) :
    s.markBelow (p :: l) gen = (s.markBelow [p] gen).markBelow l gen := rfl

/-- R14: reissue due after a rekey. -/
theorem State.person?_markBelow (s : State) (l : List Nat) (q gen : Nat) :
    (s.markBelow l gen).person? q = (s.person? q).map fun r =>
      r.marked (decide (q ∈ l) && (s.activeGen? r).any fun g => g < gen) := by
  induction l generalizing s with
  | nil => simp [State.markBelow, Person.marked_false]
  | cons p l ih =>
    rw [State.markBelow_cons, ih, State.person?_markBelow_single, Option.map_map]
    congr 1
    funext r
    have hgen (b : Bool) : (s.markBelow [p] gen).activeGen? (r.marked b) = s.activeGen? r :=
      State.activeGen?_of_ci rfl (by simp)
    rw [Function.comp_apply, hgen, Person.marked_marked]
    congr 1
    by_cases hq : q = p <;> simp [hq]

/-! ### Rekeys -/

/-- R14: a cabin's lock, if any, handed over. -/
def State.handPushIf (s : State) (lock : Option (Nat × Nat)) : State :=
  match lock with
  | some (g, st) => s.handPush g st
  | none => s

theorem State.handPushIf_pt (s : State) (lock : Option (Nat × Nat)) : (s.handPushIf lock).pt = s.pt := by
  cases lock <;> simp [State.handPushIf]

theorem State.handPushIf_ci (s : State) (lock : Option (Nat × Nat)) : (s.handPushIf lock).ci = s.ci := by
  cases lock <;> simp [State.handPushIf]

theorem State.handPushIf_ct (s : State) (lock : Option (Nat × Nat)) : (s.handPushIf lock).ct = s.ct := by
  cases lock <;> simp [State.handPushIf]

theorem State.handedPush_handPushIf (s : State) (lock : Option (Nat × Nat)) : s.handedPush (s.handPushIf lock) lock :=
    by
  cases lock with
  | none => exact State.handedPush_none rfl rfl
  | some l => exact State.handedPush_handPush s l.1 l.2

theorem State.pushNotices_handPushIf (s : State) (lock : Option (Nat × Nat)) :
    (s.handPushIf lock).nfu = s.pushNotices lock := by
  cases lock with
  | none => rfl
  | some l => exact State.pushNotices_handPush s l.1 l.2

theorem State.rekey_of_lt {s : State} {c : Nat} (h : (s.cabin c).keyGen < 65535) :
    s.rekey c = ((s.setCabin c { s.cabin c with keyGen := (s.cabin c).keyGen + 1 }).handPushIf (s.cabin c).lock).markBelow
      (s.cabin c).occupants ((s.cabin c).keyGen + 1) :=
  (if_pos h).trans (by unfold State.handPushIf; rfl)

theorem State.rekey_of_top {s : State} {c : Nat} (h : ¬(s.cabin c).keyGen < 65535) :
    s.rekey c = s.markBelow (s.cabin c).occupants 65535 := if_neg h

/-- R14: the persons after a rekey. -/
theorem State.person?_rekey (s : State) (c q : Nat) :
    (s.rekey c).person? q = (s.person? q).map fun r =>
      r.marked (decide (q ∈ (s.cabin c).occupants) &&
        (s.activeGen? r).any fun g => g < min 65535 ((s.cabin c).keyGen + 1)) := by
  by_cases h : (s.cabin c).keyGen < 65535
  · rw [State.rekey_of_lt h, State.person?_markBelow, Nat.min_eq_right h]
    unfold State.person?
    rw [State.handPushIf_pt]
    congr 1
    funext r
    have hgen := State.activeGen?_of_ci (s := s) (r := r) rfl
      (State.handPushIf_ci (s.setCabin c { s.cabin c with keyGen := (s.cabin c).keyGen + 1 }) (s.cabin c).lock)
    rw [hgen]
  · rw [State.rekey_of_top h, State.person?_markBelow, Nat.min_eq_left (by omega)]

theorem State.cabin_rekey (s : State) (c d : Nat) :
    (s.rekey c).cabin d = if d = c then (s.cabin c).rekeyed else s.cabin d := by
  by_cases h : (s.cabin c).keyGen < 65535
  · have hct := State.handPushIf_ct (s.setCabin c { s.cabin c with keyGen := (s.cabin c).keyGen + 1 }) (s.cabin c).lock
    rw [State.rekey_of_lt h]
    unfold State.cabin at *
    rw [State.markBelow_ct, hct]
    refine (s.cabin_setCabin c d _).trans ?_
    rw [Cabin.rekeyed, if_pos h]
    rfl
  · have hsame : (s.cabin c).rekeyed = s.cabin c := by rw [Cabin.rekeyed, if_neg h]
    rw [State.rekey_of_top h, hsame]
    have hct : (s.markBelow (s.cabin c).occupants 65535).cabin d = s.cabin d := by
      unfold State.cabin
      rw [State.markBelow_ct]
    rw [hct]
    split
    · subst_vars
      rfl
    · rfl

theorem State.rekeyLock_of_lt {s : State} {c : Nat} (h : (s.cabin c).keyGen < 65535) :
    s.rekeyLock (some c) = (s.cabin c).lock := if_pos h

theorem State.rekeyLock_of_top {s : State} {c : Nat} (h : ¬(s.cabin c).keyGen < 65535) :
    s.rekeyLock (some c) = none := if_neg h

/-- R14, R79: the lock that a rekey hands over, with the notice where its segment is woken. -/
theorem State.handedPush_rekey (s : State) (c : Nat) :
    s.handedPush (s.rekey c) (s.rekeyLock (some c)) ∧ (s.rekey c).nfu = s.pushNotices (s.rekeyLock (some c)) := by
  by_cases h : (s.cabin c).keyGen < 65535
  · let s1 := s.setCabin c { s.cabin c with keyGen := (s.cabin c).keyGen + 1 }
    rw [State.rekey_of_lt h, State.rekeyLock_of_lt h, State.markBelow_nfu]
    exact ⟨State.handedPush_of_eq (s := s) (State.handedPush_handPushIf s1 _) (State.markBelow_sc _ _ _)
      (State.markBelow_lk _ _ _), State.pushNotices_handPushIf s1 _⟩
  · rw [State.rekey_of_top h, State.rekeyLock_of_top h]
    exact ⟨State.handedPush_none (State.markBelow_sc _ _ _) (State.markBelow_lk _ _ _), State.markBelow_nfu _ _ _⟩

/-! ### The removal and the revocation -/

theorem State.person?_leaveCabin {s : State} {p : Nat} {r : Person} (hp : s.person? p = some r) (q : Nat) :
    (s.leaveCabin p).person? q = if q = p then some { r with cabin := none } else s.person? q := by
  unfold State.leaveCabin
  simp only [hp]
  cases hc : r.cabin with
  | none =>
    dsimp only
    split
    · subst_vars
      rw [hp, ← hc]
    · rfl
  | some c => exact State.person?_setPerson _ _ _ _

theorem State.cabin_leaveCabin {s : State} {p : Nat} {r : Person} (hp : s.person? p = some r) (d : Nat) :
    (s.leaveCabin p).cabin d =
      if r.cabin = some d then { s.cabin d with occupants := (s.cabin d).occupants.filter (· ≠ p) } else s.cabin d := by
  unfold State.leaveCabin
  simp only [hp]
  cases hc : r.cabin with
  | none => rfl
  | some c =>
    refine (s.cabin_setCabin c d _).trans ?_
    by_cases hd : d = c
    · rw [if_pos hd, if_pos (congrArg some hd.symm), hd]
    · rw [if_neg hd, if_neg fun h => hd (Option.some.inj h).symm]

/-- R13: what a revocation of a person's card writes. -/
theorem State.revokeCardOf_reads {s : State} {p : Nat} {r : Person} (hp : s.person? p = some r)
    (hcard : ∀ serial, r.card = some serial → ∃ e, s.card? serial = some e ∧ e.person = p) :
    (∀ q, (s.revokeCardOf p).person? q = if q = p then some { r with card := none } else s.person? q) ∧
    s.cardRevoked (s.revokeCardOf p) r.card := by
  unfold State.revokeCardOf
  simp only [hp]
  cases hc : r.card with
  | none =>
    refine ⟨fun q => ?_, fun k => rfl, (List.append_nil _).symm⟩
    dsimp only
    split
    · subst_vars
      rw [hp, ← hc]
    · rfl
  | some serial =>
    obtain ⟨e, he, rfl⟩ := hcard serial hc
    unfold State.revokeEntry
    simp only [he]
    refine ⟨fun q => ?_, fun k => ?_, ?_⟩
    · refine (State.person?_modPerson _ e.person q _).trans ?_
      by_cases hq : q = e.person
      · rw [if_pos hq, if_pos hq, hq]
        exact congrArg (Option.map _) hp
      · rw [if_neg hq, if_neg hq]
        rfl
    · unfold State.card?
      rw [State.modPerson_ci]
      refine (s.card?_setCard serial k _).trans ?_
      by_cases hk : k = serial
      · rw [if_pos hk, if_pos (congrArg some hk.symm), hk]
        rw [show find? s.ci.entries serial.toNat = some e from he]
        rfl
      · rw [if_neg hk, if_neg fun h => hk (Option.some.inj h).symm]
        rfl
    · rw [State.modPerson_ci]
      rfl

/-- R17: a person gone from the cabin and the active card revoked, the rekey left out. -/
def State.unhoused (s : State) (p : Nat) : State := (s.leaveCabin p).revokeCardOf p

theorem State.handedPush_of_before {s s' t : State} {lock : Option (Nat × Nat)} (hsc : s'.sc = s.sc)
    (hlk : s'.lk = s.lk)
    (hsck : s'.sck = s.sck) (h : s'.handedPush t lock) : s.handedPush t lock := by
  unfold State.handedPush State.wakesFor State.seg State.link at h ⊢
  rw [hsc, hlk, hsck] at h
  exact h

theorem State.pushNotices_of_before {s s' : State} (hsc : s'.sc = s.sc) (hlk : s'.lk = s.lk) (hnfu : s'.nfu = s.nfu)
    (lock : Option (Nat × Nat)) : s'.pushNotices lock = s.pushNotices lock := by
  unfold State.pushNotices State.wakesFor State.raise State.seg State.link
  rw [hsc, hlk, hnfu]

section unhoused

variable {s : State} {p : Nat} {r : Person}

theorem State.unhoused_reads (hp : s.person? p = some r)
    (hcard : ∀ serial, r.card = some serial → ∃ e, s.card? serial = some e ∧ e.person = p) :
    (∀ q, (s.unhoused p).person? q = if q = p then some { r with cabin := none, card := none } else s.person? q) ∧
    s.cardRevoked (s.unhoused p) r.card := by
  have hleft : (s.leaveCabin p).person? p = some { r with cabin := none } := by
    rw [State.person?_leaveCabin hp, if_pos rfl]
  have hci : (s.leaveCabin p).ci = s.ci := by simp
  have hsck : (s.leaveCabin p).sck = s.sck := by simp
  obtain ⟨hperson, hcards⟩ := State.revokeCardOf_reads hleft (by unfold State.card?; rw [hci]; exact hcard)
  refine ⟨fun q => ?_, ?_⟩
  · refine (hperson q).trans ?_
    rw [State.person?_leaveCabin hp]
    split <;> rfl
  · unfold State.cardRevoked State.card? at *
    rw [hci, hsck] at hcards
    exact hcards

theorem State.cabin_unhoused (hp : s.person? p = some r) (d : Nat) :
    (s.unhoused p).cabin d =
      if r.cabin = some d then { s.cabin d with occupants := (s.cabin d).occupants.filter (· ≠ p) } else s.cabin d := by
  rw [← State.cabin_leaveCabin hp]
  unfold State.cabin State.unhoused
  rw [State.revokeCardOf_ct]

theorem State.keyGen_unhoused (hp : s.person? p = some r) (d : Nat) :
    ((s.unhoused p).cabin d).keyGen = (s.cabin d).keyGen := by
  rw [State.cabin_unhoused hp]
  split <;> rfl

theorem State.lock_unhoused (hp : s.person? p = some r) (d : Nat) :
    ((s.unhoused p).cabin d).lock = (s.cabin d).lock := by
  rw [State.cabin_unhoused hp]
  split <;> rfl

theorem State.activeGen?_unhoused (hp : s.person? p = some r)
    (hcard : ∀ serial, r.card = some serial → ∃ e, s.card? serial = some e ∧ e.person = p) (r' : Person) :
    (s.unhoused p).activeGen? r' = s.activeGen? r' := by
  refine State.activeGen?_of_generations rfl fun k => ?_
  rw [(State.unhoused_reads hp hcard).2.1 k]
  split
  · cases s.card? k <;> rfl
  · rfl

theorem State.removeAndRevoke_eq (hp : s.person? p = some r) :
    s.removeAndRevoke p = (s.unhoused p).rekeyIf r.cabin := by
  unfold State.removeAndRevoke
  simp only [hp]
  rfl

/-- R14, R17: the persons after a removal and a revocation with their one rekey. -/
theorem State.removeAndRevoke_persons (hp : s.person? p = some r)
    (hcard : ∀ serial, r.card = some serial → ∃ e, s.card? serial = some e ∧ e.person = p) :
    (s.removeAndRevoke p).person? p = some { r with cabin := none, card := none } ∧
    s.othersMarked (s.removeAndRevoke p) p r.cabin := by
  have hperson := (State.unhoused_reads hp hcard).1
  rw [State.removeAndRevoke_eq hp]
  cases hc : r.cabin with
  | none =>
    refine ⟨(hperson p).trans (if_pos rfl), fun q hq => (hperson q).trans ?_⟩
    rw [if_neg hq]
    simp
  | some c =>
    have hrekey := State.person?_rekey (s.unhoused p) c
    have hocc (q : Nat) : q ∈ ((s.unhoused p).cabin c).occupants ↔ q ∈ (s.cabin c).occupants ∧ q ≠ p := by
      rw [State.cabin_unhoused hp, if_pos hc]
      simp
    refine ⟨(hrekey p).trans ?_, fun q hq => (hrekey q).trans ?_⟩
    · rw [hperson, if_pos rfl]
      simp [hocc, Person.marked_false]
    · rw [hperson, if_neg hq, State.keyGen_unhoused hp]
      congr 1
      funext r'
      rw [State.activeGen?_unhoused hp hcard]
      simp [hocc, hq, Person.marked]

theorem State.removeAndRevoke_cards (hp : s.person? p = some r)
    (hcard : ∀ serial, r.card = some serial → ∃ e, s.card? serial = some e ∧ e.person = p) :
    s.cardRevoked (s.removeAndRevoke p) r.card := by
  have hcards := (State.unhoused_reads hp hcard).2
  have hci : (s.removeAndRevoke p).ci = (s.unhoused p).ci := by
    rw [State.removeAndRevoke_eq hp]
    cases r.cabin <;> simp [State.rekeyIf]
  unfold State.cardRevoked State.card? at *
  rw [hci]
  exact hcards

theorem State.removeAndRevoke_cabins (hp : s.person? p = some r) (d : Nat) :
    (s.removeAndRevoke p).cabin d = if r.cabin = some d then (s.cabin d).left p else s.cabin d := by
  rw [State.removeAndRevoke_eq hp]
  cases hc : r.cabin with
  | none =>
    rw [if_neg nofun]
    refine (State.cabin_unhoused hp d).trans ?_
    rw [hc, if_neg nofun]
  | some c =>
    refine (State.cabin_rekey (s.unhoused p) c d).trans ?_
    by_cases hd : d = c
    · rw [if_pos hd, if_pos (congrArg some hd.symm), State.cabin_unhoused hp, hd, if_pos hc]
      rfl
    · have hne : ¬some c = some d := fun h => hd (Option.some.inj h).symm
      rw [if_neg hd, if_neg hne, State.cabin_unhoused hp, hc, if_neg hne]

theorem State.removeAndRevoke_push (hp : s.person? p = some r) :
    s.handedPush (s.removeAndRevoke p) (s.rekeyLock r.cabin) ∧
    (s.removeAndRevoke p).nfu = s.pushNotices (s.rekeyLock r.cabin) := by
  have hsc : (s.unhoused p).sc = s.sc := by simp [State.unhoused]
  have hlk : (s.unhoused p).lk = s.lk := by simp [State.unhoused]
  have hnfu : (s.unhoused p).nfu = s.nfu := by simp [State.unhoused]
  have hsck : (s.unhoused p).sck = s.sck := by simp [State.unhoused]
  rw [State.removeAndRevoke_eq hp]
  cases hc : r.cabin with
  | none => exact ⟨State.handedPush_none hsc hlk, hnfu⟩
  | some c =>
    have hpush := State.handedPush_rekey (s.unhoused p) c
    have hlock : (s.unhoused p).rekeyLock (some c) = s.rekeyLock (some c) := by
      show (if ((s.unhoused p).cabin c).keyGen < 65535 then _ else _) = _
      rw [State.keyGen_unhoused hp, State.lock_unhoused hp]
      rfl
    rw [hlock] at hpush
    exact ⟨State.handedPush_of_before hsc hlk hsck hpush.1, hpush.2.trans (State.pushNotices_of_before hsc hlk hnfu _)⟩

end unhoused

end Sys2Proof.Machine
end

section
/-! SET PRESENCE (R39). -/

namespace Sys2Proof.Machine

set_option Elab.async false

theorem setPresence_of_range {p : Nat} {new : Presence} (s : State) (h : 8191 < p ∨ new = .disputed) :
    setPresence p new s = s.refuse .range := if_pos h

theorem named_of_le {p : Nat} {new : Presence} (hp : p ≤ 8191) (hnew : new ≠ .disputed) :
    ¬(Config.lastPerson < p ∨ new = .disputed) := not_or.mpr ⟨Nat.not_lt.mpr hp, hnew⟩

section mem

variable {s : State} {p : Nat} {new : Presence} {r : Person}

theorem setPresence_of_free (hp : p ≤ 8191) (hnew : new ≠ .disputed) (hr : s.person? p = none) :
    setPresence p new s = s.refuse .notFound := by
  unfold setPresence
  simp only [hr]
  exact if_neg (named_of_le hp hnew)

theorem setPresence_of_transit (hp : p ≤ 8191) (hnew : new ≠ .disputed) (hr : s.person? p = some r)
    (hlane : r.permitLane ≠ none) : setPresence p new s = s.refuse .inTransit := by
  unfold setPresence
  simp only [hr]
  rw [if_neg (named_of_le hp hnew), if_pos (Option.isSome_iff_ne_none.mpr hlane)]

theorem setPresence_of_tabs (hp : p ≤ 8191) (hnew : new ≠ .disputed) (hr : s.person? p = some r)
    (hlane : r.permitLane = none) (hleaving : new = .notEmbarked ∨ new = .disembarked) (htabs : r.tabs ≠ []) :
    setPresence p new s = s.refuse .tabsOpen := by
  unfold setPresence
  simp only [hr]
  rw [if_neg (named_of_le hp hnew), if_neg (by simp [hlane]), if_pos ⟨hleaving, htabs⟩]

/-- R39: the change of a person that no refusal names. -/
def State.presenceSet (s : State) (p : Nat) (new : Presence) : State :=
  if new = .disembarked then (s.movePresence p new).removeAndRevoke p else s.movePresence p new

theorem setPresence_of_passed (hp : p ≤ 8191) (hnew : new ≠ .disputed) (hr : s.person? p = some r)
    (hlane : r.permitLane = none) (htabs : (new = .notEmbarked ∨ new = .disembarked) → r.tabs = []) :
    setPresence p new s = (if r.presence = new then s else s.presenceSet p new,
      Reply.ok (be 1 r.presence.code ++ be 1 new.code)) := by
  unfold setPresence
  simp only [hr]
  rw [if_neg (named_of_le hp hnew), if_neg (by simp [hlane]), if_neg fun h => h.2 (htabs h.1)]
  split <;> rfl

/-! ### What the change writes -/

theorem State.moved_reads (hr : s.person? p = some r) (hne : r.presence ≠ new) :
    (∀ q, (s.movePresence p new).person? q = if q = p then some (r.entered new s.sck.clock) else s.person? q) ∧
    (s.movePresence p new).pu.counts = s.pu.counts.moved r.presence new := by
  rw [State.movePresence_of_ne hr hne]
  exact ⟨fun q => State.person?_setPerson _ p q _, rfl⟩

/-- R14: the marks of a rekey, the person's own record changed before it. -/
theorem State.othersMarked_of_before {s s' t : State} {p : Nat} {cabin : Option Nat} (hci : s'.ci = s.ci)
    (hct : s'.ct = s.ct) (hperson : ∀ q, q ≠ p → s'.person? q = s.person? q) (h : s'.othersMarked t p cabin) :
    s.othersMarked t p cabin := by
  intro q hq
  refine (h q hq).trans ?_
  unfold State.cabin State.activeGen? State.card?
  rw [hperson q hq, hci, hct]

theorem State.cardRevoked_of_before {s s' t : State} {card : Option Serial} (hci : s'.ci = s.ci) (hsck : s'.sck = s.sck)
    (h : s'.cardRevoked t card) : s.cardRevoked t card := by
  unfold State.cardRevoked State.card? at *
  rw [hci, hsck] at h
  exact h

theorem State.othersMarked_none {s t : State} {p : Nat} (hperson : ∀ q, q ≠ p → t.person? q = s.person? q) :
    s.othersMarked t p none := by
  intro q hq
  rw [hperson q hq]
  simp

theorem State.cardRevoked_none {s t : State} (hci : t.ci = s.ci) : s.cardRevoked t none := by
  unfold State.cardRevoked State.card?
  rw [hci]
  exact ⟨fun k => rfl, (List.append_nil _).symm⟩

theorem State.presenceSet_frame (s : State) (p : Nat) (new : Presence) :
    s.presenceSet p new = { s with
      pt := (s.presenceSet p new).pt, ci := (s.presenceSet p new).ci, ct := (s.presenceSet p new).ct
      sc := (s.presenceSet p new).sc, lk := (s.presenceSet p new).lk, nfu := (s.presenceSet p new).nfu
      pu := { s.pu with counts := (s.presenceSet p new).pu.counts } } := by
  unfold State.presenceSet
  split
  all_goals
    apply State.eq_of_fields <;> simp
    apply PresenceUnit.eq_of_fields <;> simp

theorem State.presenceSet_counts (hr : s.person? p = some r) (hne : r.presence ≠ new) :
    (s.presenceSet p new).pu.counts = s.pu.counts.moved r.presence new := by
  rw [← (State.moved_reads hr hne).2]
  unfold State.presenceSet
  split
  · rw [State.removeAndRevoke_pu]
  · rfl

/-- R39: what the change to another state writes. -/
theorem State.presenceSet_reads (hr : s.person? p = some r) (hne : r.presence ≠ new)
    (hcard : ∀ serial, r.card = some serial → ∃ e, s.card? serial = some e ∧ e.person = p)
    {cabin : Option Nat} (hcabin : cabin = if new = .disembarked then r.cabin else none)
    {card : Option Serial} (hserial : card = if new = .disembarked then r.card else none) :
    ((s.presenceSet p new).person? p = some { r.entered new s.sck.clock with
      cabin := if new = .disembarked then none else r.cabin, card := if new = .disembarked then none else r.card } ∧
    s.othersMarked (s.presenceSet p new) p cabin) ∧ s.cardRevoked (s.presenceSet p new) card ∧
    (∀ c, (s.presenceSet p new).cabin c = if cabin = some c then (s.cabin c).left p else s.cabin c) ∧
    s.handedPush (s.presenceSet p new) (s.rekeyLock cabin) ∧
    (s.presenceSet p new).nfu = s.pushNotices (s.rekeyLock cabin) := by
  obtain ⟨hperson, -⟩ := State.moved_reads hr hne
  have hothers (q : Nat) (hq : q ≠ p) : (s.movePresence p new).person? q = s.person? q := (hperson q).trans (if_neg hq)
  have hci : (s.movePresence p new).ci = s.ci := by simp
  have hct : (s.movePresence p new).ct = s.ct := by simp
  have hsc : (s.movePresence p new).sc = s.sc := by simp
  have hlk : (s.movePresence p new).lk = s.lk := by simp
  have hnfu : (s.movePresence p new).nfu = s.nfu := by simp
  have hsck : (s.movePresence p new).sck = s.sck := by simp
  unfold State.presenceSet
  by_cases hleaves : new = .disembarked
  · rw [if_pos hleaves] at hcabin hserial
    rw [if_pos hleaves, if_pos hleaves, if_pos hleaves, hcabin, hserial]
    have hr' := (hperson p).trans (if_pos rfl)
    have hcard' : ∀ serial, r.card = some serial → ∃ e, (s.movePresence p new).card? serial = some e ∧ e.person = p := by
      unfold State.card?
      rw [hci]
      exact hcard
    obtain ⟨hself, hmarked⟩ := State.removeAndRevoke_persons hr' hcard'
    obtain ⟨hpush, hnotices⟩ := State.removeAndRevoke_push hr'
    have hlock : (s.movePresence p new).rekeyLock (r.entered new s.sck.clock).cabin = s.rekeyLock r.cabin := by
      unfold State.rekeyLock State.cabin
      rw [hct]
      rfl
    refine ⟨⟨hself, State.othersMarked_of_before hci hct hothers hmarked⟩,
      State.cardRevoked_of_before hci hsck (State.removeAndRevoke_cards (r := r.entered new s.sck.clock) hr' hcard'),
      fun c => ?_, ?_, ?_⟩
    · refine (State.removeAndRevoke_cabins hr' c).trans ?_
      unfold State.cabin
      rw [hct]
      rfl
    · exact State.handedPush_of_before hsc hlk hsck (hlock ▸ hpush)
    · exact hnotices.trans ((State.pushNotices_of_before hsc hlk hnfu _).trans (congrArg _ hlock))
  · rw [if_neg hleaves] at hcabin hserial
    rw [if_neg hleaves, if_neg hleaves, if_neg hleaves, hcabin, hserial]
    refine ⟨⟨(hperson p).trans (if_pos rfl), State.othersMarked_none hothers⟩, State.cardRevoked_none hci, fun c => ?_,
      State.handedPush_none hsc hlk, hnfu⟩
    unfold State.cabin
    rw [hct]
    rfl

end mem

/-- Settles O30, by the refusals in their order and what the change writes. -/
theorem setPresenceRecords : Obligations.SetPresenceRecords := by
  intro tag p new s hacc
  have hrun : exec (.setPresence tag p new) s = _ := State.onCommand_of_accepts hacc tag (setPresence p new)
  refine ⟨fun hrange => ?_, fun hp hnew hr => ?_, fun r hp hnew hr => ⟨fun hlane => ?_, fun hlane hleaving htabs => ?_,
    fun hlane htabs hsame => ?_, fun hlane htabs hne hcard => ?_⟩⟩
  · rw [hrun, setPresence_of_range s hrange]
    rfl
  · rw [hrun, setPresence_of_free hp hnew hr]
    rfl
  · rw [hrun, setPresence_of_transit hp hnew hr hlane]
    rfl
  · rw [hrun, setPresence_of_tabs hp hnew hr hlane hleaving htabs]
    rfl
  · rw [hrun, setPresence_of_passed hp hnew hr hlane htabs, if_pos hsame, hsame]
    rfl
  · intro cabin card lock
    rw [setPresence_of_passed hp hnew hr hlane htabs, if_neg hne] at hrun
    obtain ⟨⟨hself, hothers⟩, hcards, hcabins, hpush, hnotices⟩ :=
      State.presenceSet_reads hr hne hcard (cabin := cabin) rfl (card := card) rfl
    refine ⟨_, hrun, hself, fun st => ?_, hothers, hcards, hcabins, hpush, ?_⟩
    · refine (congrArg (Counts.of · st) (State.presenceSet_counts hr hne)).trans ?_
      exact Counts.of_moved hne _ st
    · refine (congrArg (fun t : State => t.answer tag _) (s.presenceSet_frame p new)).trans ?_
      rw [hnotices]
      rfl

end Sys2Proof.Machine
end

section
/-! Release and restore of the segments (R80), with the wake of those in DOZE (R79). -/

namespace Sys2Proof.Machine

set_option Elab.async false

/-- R182: a set of bits with one number written in. -/
theorem getLsbD_setMember {w n : Nat} (set : BitVec w) (h : n < w) (k : Nat) :
    (setMember set n true).getLsbD k = (set.getLsbD k || decide (k = n)) := by
  unfold setMember
  rw [if_pos rfl, BitVec.getLsbD_or, BitVec.getLsbD_ofNat, Nat.testBit_two_pow]
  by_cases hk : k = n
  · simp [hk, h]
  · simp [hk, Ne.symm hk]

theorem State.pending_raise (s : State) (n : Notice) (k : Nat) :
    (s.raise n).nfu.pending.getLsbD k = (s.nfu.pending.getLsbD k || decide (k = n.number)) :=
  getLsbD_setMember _ (by cases n <;> decide) k

/-- R80: the release state of a lock after a release or a restore. -/
def ReleaseState.shifted (rel : Bool) (r : ReleaseState) : ReleaseState := if rel then r.onRelease else r.onRestore

/-- R80: a segment after a release or a restore. -/
def Segment.shifted (rel : Bool) (c : Segment) : Segment :=
  { c with
    wanted := rel
    due := if rel then .allRelease else .allRestore
    roster := mapRecords (fun k => { k with release := k.release.shifted rel }) c.roster }

/-- R80, R79: one segment released or restored, and woken from DOZE. -/
def State.shift (rel : Bool) (s : State) (g : Nat) : State := (s.modSeg g (Segment.shifted rel)).wake g

theorem State.releaseSegment_eq : State.releaseSegment = State.shift true := rfl

theorem State.restoreSegment_eq : State.restoreSegment = State.shift false := rfl

theorem State.link_shift (rel : Bool) (s : State) (g n : Nat) :
    (s.shift rel g).link n =
      if n = segLink g ∧ (s.link (segLink g)).state = .doze then (s.link n).woken s.sck.elapsed else s.link n :=
  State.link_wake (s.modSeg g (Segment.shifted rel)) g n

/-- R79, R80: a segment after a release or a restore, its measure started again where it was in DOZE. -/
def State.segShifted (s : State) (rel : Bool) (g : Nat) : Segment :=
  if (s.link (segLink g)).state = .doze then ((s.seg g).shifted rel).remeasured s.sck.elapsed else (s.seg g).shifted rel

theorem State.seg_shift (rel : Bool) (s : State) (g h : Nat) :
    (s.shift rel g).seg h = if h = g then s.segShifted rel g else s.seg h := by
  refine (State.seg_wake (s.modSeg g (Segment.shifted rel)) g h).trans ?_
  rw [State.seg_modSeg]
  unfold State.segShifted
  by_cases hg : h = g
  · rw [if_pos hg, if_pos hg]
    exact if_congr (and_iff_right hg) rfl rfl
  · rw [if_neg hg, if_neg hg, if_neg fun h => hg h.1]

theorem State.pending_shift (rel : Bool) (s : State) (g k : Nat) :
    (s.shift rel g).nfu.pending.getLsbD k =
      (s.nfu.pending.getLsbD k || (decide (k = 11) && decide ((s.link (segLink g)).state = .doze))) := by
  refine (congrArg (fun u : NoticeUnit => u.pending.getLsbD k) (State.nfu_wake (s.modSeg g (Segment.shifted rel)) g)).trans ?_
  by_cases h : (s.link (segLink g)).state = .doze
  · rw [if_pos (show ((s.modSeg g (Segment.shifted rel)).link (segLink g)).state = .doze from h)]
    refine (State.pending_raise _ .linkChange k).trans ?_
    rw [decide_eq_true h, Bool.and_true]
    rfl
  · rw [if_neg (show ¬((s.modSeg g (Segment.shifted rel)).link (segLink g)).state = .doze from h), decide_eq_false h,
      Bool.and_false, Bool.or_false]
    rfl

theorem State.shift_sck (rel : Bool) (s : State) (g : Nat) : (s.shift rel g).sck = s.sck :=
  State.wake_sck (s.modSeg g (Segment.shifted rel)) g

/-- R80: every segment released or restored. -/
def State.shiftAll (s : State) (rel : Bool) : State := segmentNumbers.foldl (State.shift rel) s

/-- R79, R80: what links, segments and notices read after the segments of a list have been gone through. -/
theorem State.shift_foldl (rel : Bool) (gs : List Nat) (hgs : gs.Nodup) (s : State) :
    (∀ n, (gs.foldl (State.shift rel) s).link n =
      if (∃ g ∈ gs, n = segLink g) ∧ (s.link n).state = .doze then (s.link n).woken s.sck.elapsed else s.link n) ∧
    (∀ g, (gs.foldl (State.shift rel) s).seg g = if g ∈ gs then s.segShifted rel g else s.seg g) ∧
    ∀ k, (gs.foldl (State.shift rel) s).nfu.pending.getLsbD k =
      (s.nfu.pending.getLsbD k || (decide (k = 11) && gs.any fun g => (s.link (segLink g)).state = .doze)) := by
  induction gs generalizing s with
  | nil => simp
  | cons g gs ih =>
    obtain ⟨hnot, hnodup⟩ := List.nodup_cons.mp hgs
    obtain ⟨hlink, hseg, hpending⟩ := ih hnodup (s.shift rel g)
    have hother (h : Nat) (hh : h ∈ gs) : (s.shift rel g).link (segLink h) = s.link (segLink h) := by
      rw [State.link_shift, if_neg]
      rintro ⟨heq, -⟩
      unfold segLink at heq
      exact hnot (by rwa [show g = h by omega])
    refine ⟨fun n => ?_, fun h => ?_, fun k => ?_⟩
    · rw [List.foldl_cons, hlink, State.shift_sck]
      by_cases hn : n = segLink g
      · have hlater : ¬∃ h ∈ gs, n = segLink h := by
          rintro ⟨h, hh, hnh⟩
          unfold segLink at hn hnh
          exact hnot (by rwa [show g = h by omega])
        have hfirst : ∃ h ∈ g :: gs, n = segLink h := ⟨g, List.mem_cons_self, hn⟩
        rw [if_neg fun h => hlater h.1, State.link_shift]
        exact if_congr (by rw [← hn]; exact ⟨fun h => ⟨hfirst, h.2⟩, fun h => ⟨rfl, h.2⟩⟩) rfl rfl
      · have hsame : (s.shift rel g).link n = s.link n := (State.link_shift rel s g n).trans (if_neg fun h => hn h.1)
        rw [hsame]
        exact if_congr (by simp [hn]) rfl rfl
    · rw [List.foldl_cons, hseg]
      by_cases hh : h ∈ gs
      · have hne : h ≠ g := fun heq => hnot (heq ▸ hh)
        rw [if_pos hh, if_pos (List.mem_cons_of_mem g hh)]
        unfold State.segShifted
        rw [hother h hh, State.seg_shift, if_neg hne, State.shift_sck]
      · rw [if_neg hh, State.seg_shift]
        by_cases hg : h = g
        · rw [if_pos hg, hg, if_pos List.mem_cons_self]
        · rw [if_neg hg, if_neg (List.not_mem_cons_of_ne_of_not_mem hg hh)]
    · have hany : (gs.any fun h => decide (((s.shift rel g).link (segLink h)).state = .doze)) =
          gs.any fun h => decide ((s.link (segLink h)).state = .doze) := by
        rw [Bool.eq_iff_iff, List.any_eq_true, List.any_eq_true]
        exact exists_congr fun h => and_congr_right fun hh => by rw [hother h hh]
      rw [List.foldl_cons, hpending, State.pending_shift, hany, List.any_cons, Bool.or_assoc, Bool.and_or_distrib_left]

theorem NoticeUnit.eq_of_fields {u v : NoticeUnit} (pending : u.pending = v.pending) (enables : u.enables = v.enables)
    (status : u.status = v.status) (masks : u.masks = v.masks) (severe : u.severe = v.severe) (first : u.first = v.first)
    (refusalRecord : u.refusalRecord = v.refusalRecord) (refusalNotice : u.refusalNotice = v.refusalNotice) : u = v := by
  cases u
  cases v
  simp only at *
  simp only [*]

/-- `t` differs from `s` in the links, the segments and the pending notices alone. -/
def State.segmentsOnly (s t : State) : Prop :=
  t = { s with lk := t.lk, sc := t.sc, nfu := { s.nfu with pending := t.nfu.pending } }

theorem State.segmentsOnly_trans {s t u : State} (ht : s.segmentsOnly t) (hu : t.segmentsOnly u) : s.segmentsOnly u :=
    by
  unfold State.segmentsOnly at *
  refine hu.trans ?_
  rw [ht]

theorem State.segmentsOnly_shift (rel : Bool) (s : State) (g : Nat) : s.segmentsOnly (s.shift rel g) := by
  unfold State.shift
  apply State.eq_of_fields
  case nfu => apply NoticeUnit.eq_of_fields <;> simp
  all_goals simp

theorem State.segmentsOnly_foldl (rel : Bool) (gs : List Nat) (s : State) :
    s.segmentsOnly (gs.foldl (State.shift rel) s) := by
  induction gs generalizing s with
  | nil => rfl
  | cons g gs ih => exact State.segmentsOnly_trans (State.segmentsOnly_shift rel s g) (ih (s.shift rel g))

theorem State.segmentsOnly_shiftAll (s : State) (rel : Bool) : s.segmentsOnly (s.shiftAll rel) := by
  unfold State.shiftAll
  exact State.segmentsOnly_foldl rel segmentNumbers s

theorem State.link_shiftAll (s : State) (rel : Bool) (n : Nat) :
    (s.shiftAll rel).link n =
      if 2 ≤ n ∧ n ≤ 5 ∧ (s.link n).state = .doze then (s.link n).woken s.sck.elapsed else s.link n := by
  unfold State.shiftAll
  refine ((State.shift_foldl rel segmentNumbers (by decide) s).1 n).trans (if_congr ?_ rfl rfl)
  rw [← and_assoc]
  refine and_congr_left fun _ => ?_
  unfold segmentNumbers segLink
  simp
  omega

theorem State.seg_shiftAll (s : State) (rel : Bool) (g : Nat) :
    (s.shiftAll rel).seg g = if g ≤ 3 then s.segShifted rel g else s.seg g := by
  unfold State.shiftAll
  refine ((State.shift_foldl rel segmentNumbers (by decide) s).2.1 g).trans (if_congr ?_ rfl rfl)
  unfold segmentNumbers
  simp
  omega

theorem State.pending_shiftAll (s : State) (rel : Bool) (k : Nat) :
    (s.shiftAll rel).nfu.pending.getLsbD k = (s.nfu.pending.getLsbD k ||
      (decide (k = 11) && segmentNumbers.any fun g => (s.link (segLink g)).state = .doze)) := by
  unfold State.shiftAll
  exact (State.shift_foldl rel segmentNumbers (by decide) s).2.2 k

end Sys2Proof.Machine
end

section
/-! The muster state entered and left (R42, R159): what lanes, persons, links, segments and notices read. -/

namespace Sys2Proof.Machine

set_option Elab.async false

/-- R80, R79, R159: in `t` every segment has been released or restored from `s`, and MUSTER is raised. -/
structure State.shiftedFrom (s t : State) (rel : Bool) : Prop where
  link : ∀ n, t.link n =
    if 2 ≤ n ∧ n ≤ 5 ∧ (s.link n).state = .doze then (s.link n).woken s.sck.elapsed else s.link n
  seg : ∀ g, t.seg g = if g ≤ 3 then s.segShifted rel g else s.seg g
  pending : ∀ k, t.nfu.pending.getLsbD k = (s.nfu.pending.getLsbD k || decide (k = 16) ||
    (decide (k = 11) && segmentNumbers.any fun g => (s.link (segLink g)).state = .doze))

theorem State.shiftedFrom_shiftAll {s u t : State} {rel : Bool} (hlk : u.lk = s.lk) (hsc : u.sc = s.sc)
    (helapsed : u.sck.elapsed = s.sck.elapsed) (hnfu : u.nfu = (s.raise .muster).nfu) (htlk : t.lk = (u.shiftAll rel).lk)
    (htsc : t.sc = (u.shiftAll rel).sc) (htnfu : t.nfu = (u.shiftAll rel).nfu) : s.shiftedFrom t rel := by
  have hlink (n : Nat) : u.link n = s.link n := by unfold State.link; rw [hlk]
  have hseg (g : Nat) : u.seg g = s.seg g := by unfold State.seg; rw [hsc]
  refine ⟨fun n => ?_, fun g => ?_, fun k => ?_⟩
  · have h := u.link_shiftAll rel n
    rw [hlink, helapsed] at h
    unfold State.link at h ⊢
    rw [htlk]
    exact h
  · have h := u.seg_shiftAll rel g
    unfold State.segShifted at h ⊢
    rw [hlink, hseg, helapsed] at h
    unfold State.seg at h ⊢
    rw [htsc]
    exact h
  · rw [htnfu, State.pending_shiftAll, hnfu, State.pending_raise]
    simp only [hlink]
    rfl

/-! ### Entry -/

/-- R159, R42: the muster state entered, with the snapshot where none is held. -/
def State.musterNoted (s : State) (keep : Bool) : State :=
  let s1 := ({ s with sck := { s.sck with muster := true } } : State).raise .muster
  if keep then s1 else s1.takeSnapshot

/-- R159: the entry up to the operation in flight. -/
def State.musterShifted (s : State) (keep : Bool) : State :=
    (s.musterNoted keep).deriveModes.endOutPermits.shiftAll true

theorem State.enterMuster_eq (s : State) (keep : Bool) :
    s.enterMuster keep =
      if (s.musterShifted keep).inFlight then
        (s.musterShifted keep).setOperation { (s.musterShifted keep).oe with musterSeen := true }
      else s.musterShifted keep := by
  simp only [State.enterMuster, State.musterShifted, State.musterNoted, State.shiftAll, State.releaseSegment_eq]

/-- R143: the operation in flight notes the muster state, and nothing else follows the shift. -/
theorem State.enterMuster_same (s : State) (keep : Bool) :
    (s.enterMuster keep).lk = (s.musterShifted keep).lk ∧ (s.enterMuster keep).sc = (s.musterShifted keep).sc ∧
    (s.enterMuster keep).nfu = (s.musterShifted keep).nfu ∧ (s.enterMuster keep).pu = (s.musterShifted keep).pu ∧
    (s.enterMuster keep).pt = (s.musterShifted keep).pt ∧ (s.enterMuster keep).sck = (s.musterShifted keep).sck ∧
    (s.enterMuster keep).oe = if (s.musterShifted keep).oe.state = .idle then (s.musterShifted keep).oe
      else { (s.musterShifted keep).oe with musterSeen := true } := by
  rw [State.enterMuster_eq]
  generalize s.musterShifted keep = u
  by_cases h : u.oe.state = .idle
  · have hflight : ¬u.inFlight = true := by simp [State.inFlight, h]
    rw [if_neg hflight, if_pos h]
    exact ⟨rfl, rfl, rfl, rfl, rfl, rfl, rfl⟩
  · have hflight : u.inFlight = true := by simp [State.inFlight, h]
    rw [if_pos hflight, if_neg h]
    exact ⟨rfl, rfl, rfl, rfl, rfl, rfl, rfl⟩

/-- Every lane under the closed modes (R27). -/
def State.lanesClosed (s : State) : State :=
  { s with pu := { s.pu with
      lanes := mapD Lane.cold (fun l => { l with effective := deriveMode true l.configured }) s.pu.lanes } }

theorem State.permitsWithdrawn_of_eq {s s' t t' : State} {which : Permit → Bool} (hlanes : s'.pu.lanes = s.pu.lanes)
    (hpt : s'.pt = s.pt) (htlanes : t'.pu.lanes = t.pu.lanes) (htpt : t'.pt = t.pt) (h : s.permitsWithdrawn t which) :
    s'.permitsWithdrawn t' which := by
  unfold State.permitsWithdrawn State.lane State.person? at *
  rw [hlanes, hpt, htlanes, htpt]
  exact h

theorem State.permitsWithdrawn_endOutPermits (s : State) :
    s.permitsWithdrawn s.endOutPermits fun k => decide (k.direction = .outward) := by
  rw [State.endOutPermits_eq]
  exact State.permitsWithdrawn_foldl _ s

theorem State.musterNoted_reads (s : State) (keep : Bool) :
    (s.musterNoted keep).pu.lanes = s.pu.lanes ∧ (s.musterNoted keep).pt = s.pt ∧ (s.musterNoted keep).closing = true ∧
    (s.musterNoted keep).lk = s.lk ∧ (s.musterNoted keep).sc = s.sc ∧ (s.musterNoted keep).sck.elapsed = s.sck.elapsed ∧
    (s.musterNoted keep).nfu = (s.raise .muster).nfu := by
  cases keep <;> exact ⟨rfl, rfl, Bool.or_true _, rfl, rfl, rfl, rfl⟩

theorem State.shiftAll_pu (s : State) (rel : Bool) : (s.shiftAll rel).pu = s.pu := by
  rw [State.segmentsOnly_shiftAll s rel]

theorem State.shiftAll_pt (s : State) (rel : Bool) : (s.shiftAll rel).pt = s.pt := by
  rw [State.segmentsOnly_shiftAll s rel]

/-- R27, R37: the entry withdraws the permits of direction OUT, under closed lanes. -/
theorem State.permitsWithdrawn_enterMuster (s : State) (keep : Bool) :
    s.lanesClosed.permitsWithdrawn (s.enterMuster keep) fun k => decide (k.direction = .outward) := by
  obtain ⟨hlanes, hpt, hclosing, -⟩ := State.musterNoted_reads s keep
  have hclosed : s.lanesClosed.pu.lanes = (s.musterNoted keep).deriveModes.pu.lanes := by
    unfold State.deriveModes
    dsimp only
    rw [hclosing, hlanes]
    rfl
  obtain ⟨-, -, -, hpu, htpt, -, -⟩ := State.enterMuster_same s keep
  refine State.permitsWithdrawn_of_eq hclosed (by simp [State.lanesClosed, hpt]) ?_ ?_
    (State.permitsWithdrawn_endOutPermits (s.musterNoted keep).deriveModes)
  · rw [hpu, State.musterShifted, State.shiftAll_pu]
  · rw [htpt, State.musterShifted, State.shiftAll_pt]

theorem State.shiftedFrom_enterMuster (s : State) (keep : Bool) : s.shiftedFrom (s.enterMuster keep) true := by
  obtain ⟨-, -, -, hlk, hsc, helapsed, hnfu⟩ := State.musterNoted_reads s keep
  obtain ⟨htlk, htsc, htnfu, -, -, -, -⟩ := State.enterMuster_same s keep
  rw [State.musterShifted] at htlk htsc htnfu
  exact State.shiftedFrom_shiftAll (by simp [hlk]) (by simp [hsc]) (by simp [helapsed]) (by simp [hnfu]) htlk htsc htnfu

theorem State.shiftAll_sck (s : State) (rel : Bool) : (s.shiftAll rel).sck = s.sck := by
  rw [State.segmentsOnly_shiftAll s rel]

theorem State.shiftAll_oe (s : State) (rel : Bool) : (s.shiftAll rel).oe = s.oe := by
  rw [State.segmentsOnly_shiftAll s rel]

/-- R42: the counts as they stand. -/
def State.countsNow (s : State) : Snapshot :=
  { time := s.sck.clock, aboard := s.pu.counts.aboard, disputed := s.pu.counts.disputed, ashore := s.pu.counts.ashore
    notEmbarked := s.pu.counts.notEmbarked }

theorem State.musterShifted_reads (s : State) (keep : Bool) :
    (s.musterShifted keep).sck = { s.sck with muster := true } ∧ (s.musterShifted keep).oe = s.oe ∧
    (s.musterShifted keep).pu.snapshot = if keep then s.pu.snapshot else some s.countsNow := by
  unfold State.musterShifted
  rw [State.shiftAll_sck, State.shiftAll_oe, State.shiftAll_pu, State.endOutPermits_sck, State.endOutPermits_oe,
    State.endOutPermits_pu_snapshot]
  cases keep <;> exact ⟨rfl, rfl, rfl⟩

/-- R159: all that the entry writes. -/
theorem State.enterMuster_frame (s : State) (keep : Bool) :
    s.enterMuster keep = { s with
      sck := { s.sck with muster := true }
      pt := (s.enterMuster keep).pt, lk := (s.enterMuster keep).lk, sc := (s.enterMuster keep).sc
      pu := { s.pu with
        lanes := (s.enterMuster keep).pu.lanes, snapshot := if keep then s.pu.snapshot else some s.countsNow }
      nfu := { s.nfu with pending := (s.enterMuster keep).nfu.pending }
      oe := if s.oe.state = .idle then s.oe else { s.oe with musterSeen := true } } := by
  obtain ⟨-, -, -, hpu, -, hsck, hoe⟩ := State.enterMuster_same s keep
  obtain ⟨hsck', hoe', hsnapshot⟩ := State.musterShifted_reads s keep
  rw [hoe'] at hoe
  rw [← hpu] at hsnapshot
  apply State.eq_of_fields
  case pu => apply PresenceUnit.eq_of_fields <;> simp [hsnapshot]
  case nfu => apply NoticeUnit.eq_of_fields <;> simp
  case oe => exact hoe
  case sck => exact hsck.trans hsck'
  all_goals simp

/-! ### Exit -/

/-- R159, R42: the muster state left. -/
def State.musterCleared (s : State) : State := ({ s with sck := { s.sck with muster := false } } : State).raise .muster

theorem State.leaveMuster_eq (s : State) : s.leaveMuster = s.musterCleared.deriveModes.shiftAll false := by
  simp only [State.leaveMuster, State.musterCleared, State.shiftAll, State.restoreSegment_eq]

theorem State.shiftedFrom_leaveMuster (s : State) : s.shiftedFrom s.leaveMuster false := by
  rw [State.leaveMuster_eq]
  exact State.shiftedFrom_shiftAll (u := s.musterCleared.deriveModes) rfl rfl rfl rfl rfl rfl rfl

theorem State.lane_leaveMuster {s : State} (h : rising s.pu.lanes = true) (n : Nat) :
    s.leaveMuster.lane n = { s.lane n with effective := deriveMode s.pu.deadline.passed (s.lane n).configured } := by
  have hclosing : s.musterCleared.closing = s.pu.deadline.passed := Bool.or_false _
  have hlanes := State.lane_deriveModes (s := s.musterCleared) h n
  rw [hclosing] at hlanes
  rw [State.leaveMuster_eq]
  unfold State.lane at *
  rw [State.shiftAll_pu]
  exact hlanes

theorem State.leaveMuster_frame (s : State) :
    s.leaveMuster = { s with
      sck := { s.sck with muster := false }, lk := s.leaveMuster.lk, sc := s.leaveMuster.sc
      pu := { s.pu with lanes := s.leaveMuster.pu.lanes }
      nfu := { s.nfu with pending := s.leaveMuster.nfu.pending } } := by
  have hsck : s.leaveMuster.sck = { s.sck with muster := false } := by
    rw [State.leaveMuster_eq, State.shiftAll_sck]
    rfl
  apply State.eq_of_fields
  case pu => apply PresenceUnit.eq_of_fields <;> simp
  case nfu => apply NoticeUnit.eq_of_fields <;> simp
  case sck => exact hsck
  all_goals simp

/-! ### The segments after a shift -/

section shifted

variable {s t : State} {rel : Bool}

theorem State.segShifted_eq (s : State) (rel : Bool) (g : Nat) :
    s.segShifted rel g = { s.seg g with
      wanted := rel, due := if rel then .allRelease else .allRestore, roster := ((s.seg g).shifted rel).roster
      measure := (s.segShifted rel g).measure } := by
  unfold State.segShifted
  split <;> rfl

theorem State.shiftedFrom.lock? (h : s.shiftedFrom t rel) (g st : Nat) :
    t.lock? g st =
      if g ≤ 3 then (s.lock? g st).map fun k => { k with release := k.release.shifted rel } else s.lock? g st := by
  unfold State.lock?
  rw [h.seg]
  split
  · rw [State.segShifted_eq]
    exact find?_mapRecords (fun k : Lock => { k with release := k.release.shifted rel }) (s.seg g).roster st
  · rfl

/-- R80: the parts of a segment that a shift writes. -/
theorem State.shiftedFrom.parts (h : s.shiftedFrom t rel) (g : Nat) :
    (t.seg g).wanted = (if g ≤ 3 then rel else (s.seg g).wanted) ∧
    (g ≤ 3 → (t.seg g).due = if rel then .allRelease else .allRestore) ∧
    t.seg g = { s.seg g with wanted := (t.seg g).wanted, due := (t.seg g).due, roster := (t.seg g).roster
                             measure := (t.seg g).measure } := by
  rw [h.seg]
  by_cases hg : g ≤ 3
  · rw [if_pos hg, if_pos hg, State.segShifted_eq]
    exact ⟨rfl, fun _ => rfl, rfl⟩
  · rw [if_neg hg, if_neg hg]
    exact ⟨rfl, fun h => absurd h hg, rfl⟩

end shifted

end Sys2Proof.Machine
end

section
/-! The MUSTER line sampled after a reset (R160). -/

namespace Sys2Proof.Machine

set_option Elab.async false

theorem rising_setD {α : Type} [DecidableEq α] {t : Table α} {c : α} (k : Nat) (a : α) (h : rising t = true) :
    rising (setD t k c a) = true := by
  unfold setD
  split
  · exact rising_erase k h
  · exact rising_insert k a h

theorem State.rising_withdraw {s : State} (which : Permit → Bool) (n : Nat) (h : rising s.pu.lanes = true) :
    rising (s.withdraw which n).pu.lanes = true := by
  unfold State.withdraw
  split
  · cases hk : (s.lane n).permit with
    | none => rwa [State.endPermit_of_none hk]
    | some k =>
      rw [State.endPermit_of_some hk, State.consumePermit]
      rw [State.modPerson_pu]
      exact rising_setD n _ h
  · exact h

theorem State.rising_withdraw_foldl (which : Permit → Bool) (ns : List Nat) {s : State} (h : rising s.pu.lanes = true) :
    rising (ns.foldl (State.withdraw which) s).pu.lanes = true := by
  induction ns generalizing s with
  | nil => exact h
  | cons n ns ih => exact ih (State.rising_withdraw which n h)

theorem State.rising_endPermits {s : State} (h : rising s.pu.lanes = true) : rising s.endPermits.pu.lanes = true := by
  rw [State.endPermits_eq]
  exact State.rising_withdraw_foldl _ _ h

theorem State.rising_deriveModes {s : State} (h : rising s.pu.lanes = true) : rising s.deriveModes.pu.lanes = true :=
  rising_of_canonical (State.canonical_deriveModes h)

theorem State.rising_enterMuster {s : State} (keep : Bool) (h : rising s.pu.lanes = true) :
    rising (s.enterMuster keep).pu.lanes = true := by
  obtain ⟨-, -, -, hpu, -⟩ := State.enterMuster_same s keep
  obtain ⟨hlanes, -⟩ := State.musterNoted_reads s keep
  rw [hpu, State.musterShifted, State.shiftAll_pu, State.endOutPermits_eq]
  refine State.rising_withdraw_foldl _ _ (State.rising_deriveModes ?_)
  rw [hlanes]
  exact h

theorem State.rising_leaveMuster {s : State} (h : rising s.pu.lanes = true) : rising s.leaveMuster.pu.lanes = true := by
  rw [State.leaveMuster_eq, State.shiftAll_pu]
  exact State.rising_deriveModes h

/-- A state in which a reset samples the MUSTER line: outside the muster state, every link restarted, no permit held and
every mode derived. -/
structure State.rested (s : State) : Prop where
  muster : s.sck.muster = false
  link : ∀ n, s.link n = Link.cold
  idle : s.oe.state = .idle
  permit : ∀ n ∈ laneNumbers, (s.lane n).permit = none
  rising : rising s.pu.lanes = true
  mode : ∀ n, (s.lane n).effective = deriveMode s.pu.deadline.passed (s.lane n).configured

/-- R160: what the sample of the MUSTER line at a level writes. -/
structure State.sampled (s t : State) (level was : Bool) : Prop where
  link : ∀ n, t.link n = Link.cold
  person : ∀ q, t.person? q = s.person? q
  lane : ∀ n, t.lane n =
    { s.lane n with effective := deriveMode (s.pu.deadline.passed || level) (s.lane n).configured }
  rising : rising t.pu.lanes = true
  seg : ∀ g, t.seg g = if g ≤ 3 ∧ (level || was) = true then (s.seg g).shifted level else s.seg g
  pending : ∀ k, t.nfu.pending.getLsbD k = (s.nfu.pending.getLsbD k || (decide (k = 16) && (level || was)))
  frame : t = { s with
    sck := { s.sck with muster := level }, pt := t.pt, lk := t.lk, sc := t.sc
    pu := { s.pu with
      lanes := t.pu.lanes, snapshot := if level = true ∧ was = false then some s.countsNow else s.pu.snapshot }
    nfu := { s.nfu with pending := t.nfu.pending } }

theorem State.shiftedFrom.of_cold {s t : State} {rel : Bool} (h : s.shiftedFrom t rel)
    (hlink : ∀ n, s.link n = Link.cold) :
    (∀ n, t.link n = Link.cold) ∧ (∀ g, t.seg g = if g ≤ 3 then (s.seg g).shifted rel else s.seg g) ∧
    ∀ k, t.nfu.pending.getLsbD k = (s.nfu.pending.getLsbD k || decide (k = 16)) := by
  have hdoze (n : Nat) : ¬(s.link n).state = .doze := by rw [hlink]; decide
  refine ⟨fun n => ?_, fun g => ?_, fun k => ?_⟩
  · rw [h.link, if_neg fun hn => hdoze n hn.2.2, hlink]
  · rw [h.seg, State.segShifted, if_neg (hdoze _)]
  · rw [h.pending]
    simp [hdoze]

theorem State.lane_lanesClosed {s : State} (h : Machine.rising s.pu.lanes = true) (n : Nat) :
    s.lanesClosed.lane n = { s.lane n with effective := deriveMode true (s.lane n).configured } :=
  getD_mapD (fun l : Lane => { l with effective := deriveMode true l.configured }) rfl h n

theorem State.sampled_enterMuster {s : State} (h : s.rested) (was : Bool) : s.sampled (s.enterMuster was) true was := by
  obtain ⟨hlane, hperson⟩ := State.permitsWithdrawn_enterMuster s was
  obtain ⟨hlink, hseg, hpending⟩ := (State.shiftedFrom_enterMuster s was).of_cold h.link
  have hnone (n : Nat) (hn : n ∈ laneNumbers) : (s.lanesClosed.lane n).permit = none := by
    rw [State.lane_lanesClosed h.rising]
    exact h.permit n hn
  refine ⟨hlink, fun q => ?_, fun n => ?_, State.rising_enterMuster was h.rising, fun g => ?_, fun k => ?_, ?_⟩
  · have hany : (laneNumbers.any fun m => (s.lanesClosed.lane m).permit.any fun k =>
        decide (k.direction = .outward) && decide (k.person = q)) = false :=
      List.any_eq_false.mpr fun m hm => by simp [hnone m hm]
    rw [hperson, hany]
    exact Option.map_id'
  · have hkept : ¬(n ∈ laneNumbers ∧ (s.lanesClosed.lane n).permit.any (fun k => decide (k.direction = .outward)) = true) := by
      rintro ⟨hn, hany⟩
      rw [hnone n hn] at hany
      exact Bool.noConfusion hany
    rw [hlane, if_neg hkept, State.lane_lanesClosed h.rising, Bool.or_true]
  · rw [hseg]
    simp
  · rw [hpending]
    simp
  · refine (State.enterMuster_frame s was).trans ?_
    rw [if_pos h.idle]
    cases was <;> rfl

theorem State.sampled_leaveMuster {s : State} (h : s.rested) : s.sampled s.leaveMuster false true := by
  obtain ⟨hlink, hseg, hpending⟩ := (State.shiftedFrom_leaveMuster s).of_cold h.link
  refine ⟨hlink, fun q => ?_, fun n => ?_, State.rising_leaveMuster h.rising, fun g => ?_, fun k => ?_, ?_⟩
  · unfold State.person?
    rw [State.leaveMuster_pt]
  · rw [State.lane_leaveMuster h.rising, Bool.or_false]
  · rw [hseg]
    simp
  · rw [hpending]
    simp
  · refine (State.leaveMuster_frame s).trans ?_
    rw [State.leaveMuster_pt]
    rfl

theorem State.sampled_refl {s : State} (h : s.rested) : s.sampled s false false := by
  refine ⟨h.link, fun q => rfl, fun n => ?_, h.rising, fun g => by simp, fun k => by simp, ?_⟩
  · rw [Bool.or_false, ← h.mode]
  · apply State.eq_of_fields
    case sck =>
      dsimp only
      rw [← h.muster]
    all_goals rfl

/-- R160: the sample of the MUSTER line after a reset. -/
theorem State.sampled_sampleMuster {s : State} (h : s.rested) (was : Bool) :
    s.sampled (s.sampleMuster was) s.sck.musterLevel was := by
  unfold State.sampleMuster
  by_cases hlevel : s.sck.musterLevel = true
  · rw [if_pos hlevel, hlevel]
    exact State.sampled_enterMuster h was
  · rw [if_neg hlevel, Bool.eq_false_of_not_eq_true hlevel]
    by_cases hwas : was = true
    · rw [if_pos hwas, hwas]
      exact State.sampled_leaveMuster h
    · rw [if_neg hwas, Bool.eq_false_of_not_eq_true hwas]
      exact State.sampled_refl h

end Sys2Proof.Machine
end

section
/-! The COLD reset (R157). -/

namespace Sys2Proof.Machine

set_option Elab.async false

/-- R157: every block's COLD column, the MUSTER line not yet sampled. -/
def State.coldStart (s : State) : State :=
  { State.reset with
    pending := s.pending
    tagCount := s.tagCount
    sck := { State.reset.sck with
      musterLevel := s.sck.musterLevel, musterLine := s.sck.musterLine, musterHold := s.sck.musterHold
      supb := s.sck.supb } }

theorem State.coldReset_eq (s : State) : s.coldReset = s.coldStart.sampleMuster false := rfl

theorem State.rested_coldStart (s : State) : s.coldStart.rested :=
  ⟨rfl, fun _ => rfl, rfl, fun _ _ => rfl, rfl, fun _ => rfl⟩

theorem State.sampled_coldReset (s : State) : s.coldStart.sampled s.coldReset s.sck.musterLevel false := by
  rw [State.coldReset_eq]
  exact State.sampled_sampleMuster s.rested_coldStart false

theorem nil_of_find?_none {α : Type} {t : Table α} (h : ∀ k, find? t k = none) : t = [] := by
  cases t with
  | nil => rfl
  | cons e rest =>
    have hfirst := h e.1
    simp [find?] at hfirst

theorem State.coldReset_pt (s : State) : s.coldReset.pt = [] :=
  nil_of_find?_none fun q => s.sampled_coldReset.person q

theorem State.coldReset_sck (s : State) :
    s.coldReset.sck = { s.coldStart.sck with muster := s.sck.musterLevel } :=
  congrArg State.sck s.sampled_coldReset.frame

theorem State.lane_coldReset (s : State) (n : Nat) : s.coldReset.lane n = Lane.cold := by
  rw [s.sampled_coldReset.lane]
  cases s.sck.musterLevel <;> rfl

theorem State.seg_coldReset (s : State) (g : Nat) :
    s.coldReset.seg g = { Segment.cold with
      wanted := decide (g ≤ 3) && s.sck.musterLevel
      due := if g ≤ 3 ∧ s.sck.musterLevel = true then .allRelease else .none } := by
  rw [s.sampled_coldReset.seg, Bool.or_false]
  by_cases hg : g ≤ 3
  · cases s.sck.musterLevel <;> simp [hg] <;> rfl
  · simp [hg]
    rfl

theorem State.pending_coldReset (s : State) (k : Nat) :
    s.coldReset.nfu.pending.getLsbD k = (decide (k = 0) || (s.sck.musterLevel && decide (k = 16))) := by
  have hbit : s.coldStart.nfu.pending.getLsbD k = decide (k = 0) := by
    show (1 : BitVec 18).getLsbD k = decide (k = 0)
    simp
  rw [s.sampled_coldReset.pending, hbit, Bool.or_false, Bool.and_comm]

theorem State.snapshot_coldReset (s : State) :
    s.coldReset.pu.snapshot = if s.sck.musterLevel then some ⟨0, 0, 0, 0, 0⟩ else none := by
  have h : s.coldReset.pu.snapshot = _ := congrArg (fun t : State => t.pu.snapshot) s.sampled_coldReset.frame
  rw [h]
  cases s.sck.musterLevel <;> rfl

/-- R157: all that a COLD reset leaves. -/
theorem State.coldReset_frame (s : State) :
    s.coldReset = { State.reset with
      pending := s.pending, tagCount := s.tagCount, sck := s.coldReset.sck, lk := s.coldReset.lk, sc := s.coldReset.sc
      pu := { State.reset.pu with lanes := s.coldReset.pu.lanes, snapshot := s.coldReset.pu.snapshot }
      nfu := { State.reset.nfu with pending := s.coldReset.nfu.pending } } := by
  have hframe := s.sampled_coldReset.frame
  have hpt := s.coldReset_pt
  generalize s.coldReset = t at *
  rw [hpt] at hframe
  refine hframe.trans (State.eq_of_fields rfl rfl rfl rfl rfl rfl rfl ?_ rfl rfl rfl rfl rfl rfl ?_)
  · exact PresenceUnit.eq_of_fields rfl rfl rfl rfl (congrArg (fun t : State => t.pu.snapshot) hframe).symm rfl
  · exact (congrArg State.sck hframe).symm

end Sys2Proof.Machine
end

section
/-! The WARM reset (R157). -/

namespace Sys2Proof.Machine

set_option Elab.async false

/-- R157: every block's WARM column, the MUSTER line not yet sampled. -/
def State.warmStart (s : State) : State := s.warmEffects.deriveModes

theorem State.warmReset_eq (s : State) :
    s.warmReset =
      if (s.warmStart.sampleMuster s.sck.muster).deadlineReached then (s.warmStart.sampleMuster s.sck.muster).expireDeadline
      else s.warmStart.sampleMuster s.sck.muster := rfl

section warm

variable {s : State}

theorem State.person?_warmStart (s : State) (q : Nat) :
    s.warmStart.person? q = (s.person? q).map Person.clearPermits := by
  have hpt : s.warmStart.pt = s.warmEffects.pt := State.deriveModes_pt _
  unfold State.person?
  rw [hpt]
  refine (s.person?_warmEffects q).trans ?_
  rw [State.endPermits_eq, (State.withdraw_foldl _ laneNumbers (by decide) s).2, Option.map_map]
  refine congrArg (fun f => Option.map f (s.person? q)) (funext fun r => ?_)
  rw [Function.comp_apply]
  split <;> rfl

theorem State.warmStart_deadline (s : State) : s.warmStart.pu.deadline = s.pu.deadline := by
  unfold State.warmStart
  rw [State.deriveModes_pu_deadline, State.warmEffects_pu]
  dsimp only
  rw [State.endPermits_pu_deadline]

theorem State.warmStart_sck (s : State) :
    s.warmStart.sck = { s.sck with elapsed := 0, muster := false, returned := false, lastReset := .warm } := by
  unfold State.warmStart
  rw [State.deriveModes_sck, State.warmEffects_sck]

theorem State.warmStart_lk (s : State) : s.warmStart.lk = [] := by
  unfold State.warmStart
  rw [State.deriveModes_lk]
  simp only [State.warmEffects]

theorem State.warmStart_oe (s : State) :
    s.warmStart.oe = if s.oe.state = .idle then s.oe else { s.oe with state := .idle, result := some .reset } := by
  unfold State.warmStart
  rw [State.deriveModes_oe]
  simp only [State.warmEffects, State.inFlight, State.endPermits_oe]
  by_cases h : s.oe.state = .idle <;> simp [h]

theorem State.warmStart_nfu (s : State) :
    s.warmStart.nfu = { s.nfu with pending := setMember 0 Notice.restart.number true, status := 0, first := none } := by
  unfold State.warmStart
  rw [State.deriveModes_nfu]
  simp only [State.warmEffects, State.endPermits_nfu]

theorem State.rising_warmEffects (h : rising s.pu.lanes = true) : rising s.warmEffects.pu.lanes = true := by
  have hlanes := State.rising_endPermits h
  rw [State.warmEffects_pu]
  generalize s.endPermits = t at *
  exact hlanes

theorem State.lane_warmStart (h : rising s.pu.lanes = true) (n : Nat) :
    s.warmStart.lane n = { s.endPermits.lane n with
      effective := deriveMode s.pu.deadline.passed (s.endPermits.lane n).configured } := by
  have hclosing : s.warmEffects.closing = s.pu.deadline.passed := by
    unfold State.closing
    rw [State.warmEffects_sck, State.warmEffects_pu]
    dsimp only
    rw [State.endPermits_pu_deadline, Bool.or_false]
  refine (State.lane_deriveModes (State.rising_warmEffects h) n).trans ?_
  rw [hclosing, State.lane_warmEffects]

theorem State.seg_warmStart (h : rising s.sc = true) (g : Nat) : s.warmStart.seg g = (s.seg g).warm := by
  have hsc : s.warmStart.sc = mapD Segment.cold Segment.warm s.sc := (State.deriveModes_sc _).trans s.warmEffects_sc
  unfold State.seg
  rw [hsc]
  exact getD_mapD Segment.warm rfl h g

theorem State.pending_warmStart (s : State) (k : Nat) : s.warmStart.nfu.pending.getLsbD k = decide (k = 0) := by
  rw [State.warmStart_nfu]
  refine (getLsbD_setMember (0#18) (by decide) k).trans ?_
  rw [BitVec.getLsbD_zero, Bool.false_or]
  rfl

theorem State.rested_warmStart (h : rising s.pu.lanes = true) : s.warmStart.rested := by
  refine ⟨by rw [State.warmStart_sck], fun n => ?_, ?_, fun n hn => ?_, State.rising_deriveModes (State.rising_warmEffects h),
    fun n => ?_⟩
  · unfold State.link
    rw [State.warmStart_lk]
    rfl
  · rw [State.warmStart_oe]
    split
    · assumption
    · rfl
  · rw [State.lane_warmStart h]
    dsimp only
    rw [State.permit_endPermits hn]
  · rw [State.lane_warmStart h, State.warmStart_deadline]

/-- R157: all that a WARM reset writes before the MUSTER line is sampled. -/
theorem State.warmStart_frame (s : State) :
    s.warmStart = { s with
      pp := { port := .empty, pdo := [] }
      lk := s.warmStart.lk, pt := s.warmStart.pt, sc := s.warmStart.sc
      pu := { s.pu with lanes := s.warmStart.pu.lanes, evidence := [] }
      oe := if s.oe.state = .idle then s.oe else { s.oe with state := .idle, result := some .reset }
      nfu := { s.nfu with pending := s.warmStart.nfu.pending, status := 0, first := none }
      sck := { s.sck with elapsed := 0, muster := false, returned := false, lastReset := .warm } } := by
  apply State.eq_of_fields
  case sck => exact s.warmStart_sck
  case oe => exact s.warmStart_oe
  case nfu => rw [s.warmStart_nfu]
  case pu => apply PresenceUnit.eq_of_fields <;> simp [State.warmStart, State.warmEffects_pu]
  all_goals simp [State.warmStart, State.warmEffects]

/-! ### The whole reset -/

/-- R41: the deadline is reached when the reset ends. -/
def State.expires (s : State) : Bool :=
    s.pu.deadline.armed && !s.pu.deadline.passed && decide (s.pu.deadline.time ≤ s.sck.clock)

/-- R160, R41: what follows a state in which the MUSTER line has been sampled. -/
def State.deadlineSettled (s : State) : State := if s.deadlineReached then s.expireDeadline else s

theorem State.lane_deadlineSettled {s : State} (h : rising s.pu.lanes = true) (n : Nat) :
    s.deadlineSettled.lane n =
      if s.deadlineReached then { s.lane n with effective := deriveMode true (s.lane n).configured } else s.lane n := by
  unfold State.deadlineSettled
  split
  · exact State.lane_putDeadline (s := s) h { s.pu.deadline with passed := true } n
  · rfl

theorem State.pending_deadlineSettled (s : State) (k : Nat) :
    s.deadlineSettled.nfu.pending.getLsbD k = (s.nfu.pending.getLsbD k || (decide (k = 4) && s.deadlineReached)) := by
  unfold State.deadlineSettled
  by_cases h : s.deadlineReached = true
  · rw [if_pos h, h, Bool.and_true]
    exact State.pending_raise _ .deadlinePassed k
  · rw [if_neg h, Bool.eq_false_of_not_eq_true h, Bool.and_false, Bool.or_false]

theorem State.deadlineSettled_frame (s : State) :
    s.deadlineSettled = { s with
      pu := { s.pu with
        lanes := s.deadlineSettled.pu.lanes
        deadline := { s.pu.deadline with passed := s.pu.deadline.passed || s.deadlineReached } }
      nfu := { s.nfu with pending := s.deadlineSettled.nfu.pending } } := by
  unfold State.deadlineSettled
  by_cases h : s.deadlineReached = true
  · rw [if_pos h, h, Bool.or_true]
    rfl
  · rw [if_neg h, Bool.eq_false_of_not_eq_true h, Bool.or_false]

end warm

end Sys2Proof.Machine
end

section
/-! The WARM reset as a whole (R157, R160, R41). -/

namespace Sys2Proof.Machine

set_option Elab.async false

/-- R157, R160: a WARM reset up to the deadline. -/
def State.warmSampled (s : State) : State := s.warmStart.sampleMuster s.sck.muster

theorem State.warmReset_settled (s : State) : s.warmReset = s.warmSampled.deadlineSettled := by
  unfold State.warmSampled State.deadlineSettled
  rw [State.warmReset_eq]

theorem State.link_deadlineSettled (s : State) (n : Nat) : s.deadlineSettled.link n = s.link n := by
  rw [State.deadlineSettled_frame]
  rfl

theorem State.person?_deadlineSettled (s : State) (q : Nat) : s.deadlineSettled.person? q = s.person? q := by
  rw [State.deadlineSettled_frame]
  rfl

theorem State.seg_deadlineSettled (s : State) (g : Nat) : s.deadlineSettled.seg g = s.seg g := by
  rw [State.deadlineSettled_frame]
  rfl

section reset

variable {s : State}

theorem State.sampled_warm (h : rising s.pu.lanes = true) :
    s.warmStart.sampled s.warmSampled s.sck.musterLevel s.sck.muster := by
  have hsampled := State.sampled_sampleMuster (State.rested_warmStart h) s.sck.muster
  rw [State.warmStart_sck] at hsampled
  exact hsampled

/-- The state that a WARM reset leaves, as a sampled one with its deadline settled. -/
theorem State.deadlineReached_warm (h : rising s.pu.lanes = true) : s.warmSampled.deadlineReached = s.expires := by
  have hframe := (State.sampled_warm h).frame
  have hdeadline := s.warmStart_deadline
  have hsck := s.warmStart_sck
  generalize s.warmSampled = u at *
  generalize s.warmStart = w at *
  unfold State.deadlineReached
  rw [hframe]
  dsimp only
  rw [hdeadline, hsck]
  rfl

theorem State.link_warmReset (h : rising s.pu.lanes = true) (n : Nat) : s.warmReset.link n = Link.cold := by
  rw [State.warmReset_settled, State.link_deadlineSettled, (State.sampled_warm h).link]

theorem State.person?_warmReset (h : rising s.pu.lanes = true) (q : Nat) :
    s.warmReset.person? q = (s.person? q).map Person.clearPermits := by
  rw [State.warmReset_settled, State.person?_deadlineSettled, (State.sampled_warm h).person, State.person?_warmStart]

theorem State.lane_endPermits (s : State) (n : Nat) :
    s.endPermits.lane n =
      if n ∈ laneNumbers ∧ (s.lane n).permit.isSome = true then (s.lane n).ended Tallies.unpassed else s.lane n := by
  rw [State.endPermits_eq, (State.withdraw_foldl _ laneNumbers (by decide) s).1]
  refine if_congr (and_congr_right fun _ => ?_) rfl rfl
  cases (s.lane n).permit <;> simp

theorem State.lane_warmReset (h : rising s.pu.lanes = true) (n : Nat) :
    s.warmReset.lane n = { s.endPermits.lane n with
      effective := deriveMode (s.pu.deadline.passed || s.expires || s.sck.musterLevel) (s.endPermits.lane n).configured } := by
  have hsampled := State.sampled_warm h
  rw [State.warmReset_settled, State.lane_deadlineSettled hsampled.rising, State.deadlineReached_warm h, hsampled.lane,
    State.lane_warmStart h, State.warmStart_deadline]
  cases s.expires <;> simp

theorem State.seg_warmReset (hlanes : rising s.pu.lanes = true) (hsc : rising s.sc = true) (g : Nat) :
    s.warmReset.seg g =
      if g ≤ 3 ∧ (s.sck.musterLevel || s.sck.muster) = true then (s.seg g).warm.shifted s.sck.musterLevel
      else (s.seg g).warm := by
  rw [State.warmReset_settled, State.seg_deadlineSettled, (State.sampled_warm hlanes).seg, State.seg_warmStart hsc]

theorem State.pending_warmReset (h : rising s.pu.lanes = true) (k : Nat) :
    s.warmReset.nfu.pending.getLsbD k = (decide (k = 0) ||
      (decide (k = 16) && (s.sck.musterLevel || s.sck.muster)) || (decide (k = 4) && s.expires)) := by
  rw [State.warmReset_settled, State.pending_deadlineSettled, State.deadlineReached_warm h, (State.sampled_warm h).pending,
    State.pending_warmStart]

/-- R157, R160, R41: all that a WARM reset writes. -/
theorem State.warmReset_frame (h : rising s.pu.lanes = true) :
    s.warmReset = { s with
      pp := { port := .empty, pdo := [] }
      sck := { s.sck with elapsed := 0, muster := s.sck.musterLevel, returned := false, lastReset := .warm }
      lk := s.warmReset.lk, pt := s.warmReset.pt, sc := s.warmReset.sc
      pu := { s.pu with
        lanes := s.warmReset.pu.lanes, evidence := []
        deadline := { s.pu.deadline with passed := s.pu.deadline.passed || s.expires }
        snapshot := if s.sck.musterLevel = true ∧ s.sck.muster = false then some s.countsNow else s.pu.snapshot }
      oe := if s.oe.state = .idle then s.oe else { s.oe with state := .idle, result := some .reset }
      nfu := { s.nfu with pending := s.warmReset.nfu.pending, status := 0, first := none } } := by
  have hstart := s.warmStart_frame
  have hsampled := (State.sampled_warm h).frame
  have hsettled := s.warmSampled.deadlineSettled_frame
  rw [State.deadlineReached_warm h] at hsettled
  rw [State.warmReset_settled]
  generalize s.warmSampled.deadlineSettled = t at *
  generalize s.warmSampled = u at *
  generalize s.warmStart = w at *
  have hlk : t.lk = u.lk := by rw [hsettled]
  have hpt : t.pt = u.pt := by rw [hsettled]
  have hsc : t.sc = u.sc := by rw [hsettled]
  rw [hlk, hpt, hsc]
  refine hsettled.trans ?_
  rw [hsampled, hstart]
  rfl

end reset

end Sys2Proof.Machine
end

section
/-! The pins (R156, R157, R159). -/

namespace Sys2Proof.Machine

set_option Elab.async false

/-! ### The MUSTER line -/

theorem State.musterChange_of_due {s : State} {level : Bool} (hev : s.takesEvents = true)
    (hdue : s.musterDue level = true)
    (taken : State → State) : s.musterChange level taken = taken s := by
  have hsupm : s.sck.supm = true := (Bool.and_eq_true_iff.mp hev).1
  unfold State.musterChange
  rw [hsupm, hev, hdue]
  rfl

theorem State.musterChange_of_dark {s : State} (level : Bool) (h : s.sck.supm = false) (taken : State → State) :
    s.musterChange level taken = s := by
  unfold State.musterChange
  rw [h]
  rfl

/-- R159: the line's own move, where no change has been let through. -/
theorem State.musterChange_of_moved {s : State} {level : Bool} (hsupm : s.sck.supm = true)
    (h : s.takesEvents = false ∨ s.sck.musterLevel ≠ level ∨ s.sck.muster = level) (taken : State → State) :
    s.musterChange level taken = s.setMusterLine level := by
  have hdue : ¬(s.takesEvents && s.musterDue level) = true := by
    unfold State.musterDue
    rcases h with hev | hlevel | hmuster
    · simp [hev]
    · simp [hlevel]
    · simp [hmuster]
  unfold State.musterChange
  rw [hsupm, if_neg hdue]
  rfl

/-! ### SUPM -/

theorem State.seg_loseMain {s : State} (h : rising s.sc = true) (g : Nat) :
    s.loseMain.seg g = { s.seg g with outstanding := none } :=
  getD_mapD (fun c : Segment => { c with outstanding := none }) rfl h g

/-- R156, R157, R159: the state in which a reset begins. -/
def State.resetting (s : State) (level line : Bool) (hold : Nat) : State :=
  { s with sck := { s.sck with
      supm := true, resetLine := false, musterLevel := level, musterLine := line, musterHold := hold } }

theorem State.markedReset_eq (s : State) :
    s.markedReset = if (!s.sck.mark) = true then s.coldReset else s.warmReset := by
  unfold State.markedReset
  by_cases h : s.sck.mark = true
  · rw [if_pos h, if_neg (by simp [h])]
  · rw [if_neg h, if_pos (by simp [h])]

theorem State.regainMain_of_released {s : State} (level : Bool) (hline : s.sck.resetLine = false) :
    s.regainMain level = (s.resetting level level 0).markedReset := by
  unfold State.regainMain State.resetting
  rw [← hline, if_neg (by rw [hline]; decide)]

theorem State.releaseReset_of_powered {s : State} (hsupm : s.sck.supm = true) :
    s.releaseReset =
      if s.sck.returned then (s.resetting s.sck.musterLevel s.sck.musterLine s.sck.musterHold).markedReset
      else (s.resetting s.sck.musterLevel s.sck.musterLine s.sck.musterHold).warmReset := by
  unfold State.releaseReset State.resetting
  rw [← hsupm, if_neg (by rw [hsupm]; decide)]

/-- R156: the reset that a return of SUPM makes. -/
theorem exec_supmReturn {s : State} (level : Bool) (hsupm : s.sck.supm = false) (hline : s.sck.resetLine = false) :
    exec (.supmReturn level) s = .next (if (!s.sck.mark) = true then (s.resetting level level 0).coldReset
      else (s.resetting level level 0).warmReset) := by
  have hmark : (s.resetting level level 0).sck.mark = s.sck.mark := rfl
  show Host.Outcome.next (if s.sck.supm = true then s else s.regainMain level) = _
  rw [hsupm, if_neg Bool.false_ne_true, State.regainMain_of_released level hline, State.markedReset_eq, hmark]

/-- R157: the reset that a release of RESET makes. -/
theorem exec_resetRelease {s : State} (hline : s.sck.resetLine = true) (hsupm : s.sck.supm = true) :
    exec .resetRelease s = .next (if (s.sck.returned && !s.sck.mark) = true then
        (s.resetting s.sck.musterLevel s.sck.musterLine s.sck.musterHold).coldReset
      else (s.resetting s.sck.musterLevel s.sck.musterLine s.sck.musterHold).warmReset) := by
  have hmark : (s.resetting s.sck.musterLevel s.sck.musterLine s.sck.musterHold).sck.mark = s.sck.mark := rfl
  show Host.Outcome.next (if s.sck.resetLine = true then s.releaseReset else s) = _
  rw [if_pos hline, State.releaseReset_of_powered hsupm, State.markedReset_eq, hmark]
  cases s.sck.returned with
  | true => rfl
  | false => rfl

end Sys2Proof.Machine
end

section
/-! What each pin does (R156 to R160). -/

namespace Sys2Proof.Machine

set_option Elab.async false

theorem Lock.warm_eq (k : Lock) :
    k.warm = if k.ackGen = none then k else { k with lastContact := some 0, dozeAtContact := 0 } := by
  unfold Lock.warm
  cases k.ackGen <;> rfl

section reset

variable {s : State}

/-- R37, R27: a lane after a WARM reset. -/
theorem State.lane_warmReset_eq (h : rising s.pu.lanes = true) (n : Nat) {ends : Bool}
    (hends : (decide (n ∈ laneNumbers) && (s.lane n).permit.isSome) = ends) :
    s.warmReset.lane n = { s.lane n with
      effective := deriveMode (s.pu.deadline.passed || s.expires || s.sck.musterLevel) (s.lane n).configured
      permit := if ends then none else (s.lane n).permit
      tallies := if ends then { (s.lane n).tallies with scanNoPass := min 65535 ((s.lane n).tallies.scanNoPass + 1) }
        else (s.lane n).tallies } := by
  rw [State.lane_warmReset h, State.lane_endPermits, ← tallyUp_eq]
  cases ends with
  | true =>
    obtain ⟨hn, hsome⟩ := Bool.and_eq_true_iff.mp hends
    rw [if_pos ⟨of_decide_eq_true hn, hsome⟩]
    rfl
  | false =>
    rw [if_neg fun hn => Bool.eq_false_iff.mp hends (Bool.and_eq_true_iff.mpr ⟨decide_eq_true hn.1, hn.2⟩)]
    rfl

/-- R80, R85: a segment after a WARM reset that begins or ends the muster state, or not. -/
theorem State.seg_warmReset_cases (hlanes : rising s.pu.lanes = true) (hsc : rising s.sc = true) (g : Nat)
    {shifts : Bool}
    (hshifts : (decide (g ≤ 3) && (s.sck.musterLevel || s.sck.muster)) = shifts) :
    s.warmReset.seg g = if shifts then (s.seg g).warm.shifted s.sck.musterLevel else (s.seg g).warm := by
  rw [State.seg_warmReset hlanes hsc, ← hshifts]
  exact if_congr (by rw [Bool.and_eq_true, decide_eq_true_iff]) rfl rfl

theorem State.seg_warmReset_eq (hlanes : rising s.pu.lanes = true) (hsc : rising s.sc = true) (g : Nat) {shifts : Bool}
    (hshifts : (decide (g ≤ 3) && (s.sck.musterLevel || s.sck.muster)) = shifts) :
    s.warmReset.seg g = { s.seg g with
      roster := (s.warmReset.seg g).roster, cursor := 1, unreachable := 0, dozeCount := 0, outstanding := none
      lastPoll := none, measure := { start := 0, limit := none }
      wanted := if shifts then s.sck.musterLevel else (s.seg g).wanted
      due := if shifts then (if s.sck.musterLevel then .allRelease else .allRestore) else (s.seg g).due } := by
  rw [State.seg_warmReset_cases hlanes hsc g hshifts]
  cases shifts <;> rfl

/-- R80, R85: a lock after a WARM reset. -/
theorem State.lock?_warmReset (hlanes : rising s.pu.lanes = true) (hsc : rising s.sc = true) (g st : Nat)
    {shifts : Bool}
    (hshifts : (decide (g ≤ 3) && (s.sck.musterLevel || s.sck.muster)) = shifts) :
    s.warmReset.lock? g st = (s.lock? g st).map fun k =>
      if shifts then { k.warm with release := k.release.shifted s.sck.musterLevel } else k.warm := by
  have hwarm : find? (s.seg g).warm.roster st = (s.lock? g st).map Lock.warm := find?_mapRecords Lock.warm _ st
  have hrelease (k : Lock) : k.warm.release = k.release := by
    unfold Lock.warm
    split <;> rfl
  unfold State.lock?
  rw [State.seg_warmReset_cases hlanes hsc g hshifts]
  cases shifts with
  | true =>
    refine (find?_mapRecords (fun k : Lock => { k with release := k.release.shifted s.sck.musterLevel }) _ st).trans ?_
    rw [hwarm, Option.map_map]
    refine congrArg (fun f => Option.map f (s.lock? g st)) (funext fun k => ?_)
    rw [Function.comp_apply, hrelease]
    rfl
  | false => exact hwarm

end reset

/-- Settles O50, pin by pin. -/
theorem pinsAct : Obligations.PinsAct := by
  intro s woke raised segments closed derived
  have hsegments (t : State) (rel : Bool) (h : s.shiftedFrom t rel) : segments t rel := fun g =>
    ⟨(h.parts g).1, (h.parts g).2.1, (h.parts g).2.2, h.lock? g⟩
  refine ⟨fun hev hlevel hmuster hlanes => ?_, fun hev hlevel hmuster hlanes => ?_, fun level i hi => ⟨fun hsupm => ?_,
    fun hsupm hmoved => ?_⟩, fun hsupm => ?_, fun hsupm hsc => ?_, rfl, rfl, rfl, fun level hsupm => ?_,
    fun level hsupm hline => ?_, fun hline => ?_, fun hline hsupm => ?_, fun level cold line hold i hsc hlanes hi => ?_⟩
  · have hdue : s.musterDue true = true := by simp [State.musterDue, hlevel, hmuster]
    have hrun : exec .musterEntry s = .next (s.enterMuster false) :=
      congrArg Host.Outcome.next (State.musterChange_of_due hev hdue fun s => s.enterMuster false)
    have hframe := s.enterMuster_frame false
    have hshifted := s.shiftedFrom_enterMuster false
    have hpermits := s.permitsWithdrawn_enterMuster false
    generalize s.enterMuster false = t at *
    have hsnapshot : t.pu.snapshot = some s.countsNow := by rw [hframe]; rfl
    refine ⟨t, hrun, hsnapshot, hpermits, hshifted.link, hsegments t true hshifted, hshifted.pending, ?_⟩
    rw [hsnapshot]
    exact hframe
  · have hdue : s.musterDue false = true := by simp [State.musterDue, hlevel, hmuster]
    exact ⟨s.leaveMuster, congrArg Host.Outcome.next (State.musterChange_of_due hev hdue State.leaveMuster),
      State.lane_leaveMuster hlanes, s.shiftedFrom_leaveMuster.link, hsegments _ false s.shiftedFrom_leaveMuster,
      s.shiftedFrom_leaveMuster.pending, s.leaveMuster_frame⟩
  · rcases hi with ⟨rfl, rfl⟩ | ⟨rfl, rfl⟩
    · exact congrArg Host.Outcome.next (State.musterChange_of_dark true hsupm _)
    · exact congrArg Host.Outcome.next (State.musterChange_of_dark false hsupm _)
  · rcases hi with ⟨rfl, rfl⟩ | ⟨rfl, rfl⟩
    · exact congrArg Host.Outcome.next (State.musterChange_of_moved hsupm hmoved _)
    · exact congrArg Host.Outcome.next (State.musterChange_of_moved hsupm hmoved _)
  · exact congrArg Host.Outcome.next (if_neg (by rw [hsupm]; decide))
  · exact ⟨s.loseMain, congrArg Host.Outcome.next (if_pos hsupm), fun n => rfl, State.seg_loseMain hsc, rfl⟩
  · exact congrArg Host.Outcome.next (if_pos hsupm)
  · show Host.Outcome.next (if s.sck.supm = true then s else s.regainMain level) = _
    rw [hsupm, if_neg Bool.false_ne_true]
    exact congrArg Host.Outcome.next (if_pos hline)
  · exact congrArg Host.Outcome.next (if_neg (by rw [hline]; decide))
  · show Host.Outcome.next (if s.sck.resetLine = true then s.releaseReset else s) = _
    rw [if_pos hline]
    exact congrArg Host.Outcome.next (if_pos (by rw [hsupm]; rfl))
  · have hrun : exec i s = .next (if cold = true then (s.resetting level line hold).coldReset
        else (s.resetting level line hold).warmReset) := by
      rcases hi with ⟨rfl, hsupm, hline, rfl, rfl, rfl⟩ | ⟨rfl, hline, hsupm, rfl, rfl, rfl, rfl⟩
      · rw [exec_supmReturn _ hsupm hline]
      · rw [exec_resetRelease hline hsupm]
    have hreset : (s.resetting level line hold).sck.musterLevel = level := rfl
    cases cold with
    | true =>
      have hlink := (s.resetting level line hold).sampled_coldReset.link
      have hsck := (s.resetting level line hold).coldReset_sck
      have hlane := (s.resetting level line hold).lane_coldReset
      have hsnapshot := (s.resetting level line hold).snapshot_coldReset
      have hseg := (s.resetting level line hold).seg_coldReset
      have hpending := (s.resetting level line hold).pending_coldReset
      have hframe := (s.resetting level line hold).coldReset_frame
      rw [if_pos rfl] at hrun
      rw [hreset] at hsck hsnapshot
      simp only [hreset] at hseg hpending
      generalize (s.resetting level line hold).coldReset = t at *
      refine ⟨t, hrun, ?_, hlink, hsck, fun _ => ⟨hlane, hsnapshot, hseg, hpending, hframe⟩, nofun⟩
      unfold State.takesEvents
      rw [hsck]
      rfl
    | false =>
      have hlink := State.link_warmReset (s := s.resetting level line hold) hlanes
      have hperson := State.person?_warmReset (s := s.resetting level line hold) hlanes
      have hlane (n : Nat) := State.lane_warmReset_eq (s := s.resetting level line hold) hlanes n rfl
      have hseg (g : Nat) := State.seg_warmReset_eq (s := s.resetting level line hold) hlanes hsc g rfl
      have hlock (g st : Nat) := State.lock?_warmReset (s := s.resetting level line hold) hlanes hsc g st rfl
      have hpending := State.pending_warmReset (s := s.resetting level line hold) hlanes
      have hframe := State.warmReset_frame (s := s.resetting level line hold) hlanes
      rw [if_neg Bool.false_ne_true] at hrun
      generalize (s.resetting level line hold).warmReset = t at *
      have hsck : t.sck = _ := congrArg State.sck hframe
      refine ⟨t, hrun, ?_, hlink, hsck, nofun, fun _ => ⟨hperson, hlane, hseg, fun g st => ?_, hpending, ?_⟩⟩
      · unfold State.takesEvents
        rw [hsck]
        rfl
      · rw [hlock]
        refine congrArg (fun f => Option.map f (s.lock? g st)) (funext fun k => ?_)
        rw [Lock.warm_eq]
        rfl
      · refine hframe.trans ?_
        rw [hsck]
        rfl

end Sys2Proof.Machine
end

section
/-! A presentation at a door: the lock's record (R67), the decision (R47 to R51) and what it hands on (R48, R52, R53). -/

namespace Sys2Proof.Machine

set_option Elab.async false

/-! ### The lock's record -/

theorem State.seg_setLock (s : State) (g st h : Nat) (k : Lock) :
    (s.setLock g st k).seg h = if h = g then { s.seg g with roster := insert (s.seg g).roster st k } else s.seg h :=
  s.seg_setSeg g h _

theorem State.lock?_setLock (s : State) (g st x : Nat) (k : Lock) :
    (s.setLock g st k).lock? g x = if x = st then some k else s.lock? g x := by
  unfold State.lock?
  rw [State.seg_setLock, if_pos rfl, find?_insert]

/-- R67: a lock's record after a presentation. -/
def Lock.presented (k : Lock) (now doze : Nat) (bolt : Bool) : Lock :=
  { k with lastContact := some now, dozeAtContact := doze, status := { k.status with deadbolt := bolt }
           state := if k.state = .stale then .online else k.state }

theorem State.contactByCard_of_enrolled {s : State} {g st : Nat} {k : Lock} (hk : s.lock? g st = some k) (bolt : Bool) :
    s.contactByCard g st bolt = s.setLock g st (k.presented s.sck.elapsed (s.seg g).dozeCount bolt) :=
  State.modLock_of_some hk _

/-! ### The decision -/

theorem State.doorOutcome_of_absent {s : State} {serial : Serial} (h : s.card? serial = none) (kind : LockKind)
    (gen : Nat) (bolt : Bool) : s.doorOutcome kind serial gen bolt = .unknownCard := by
  unfold State.doorOutcome
  simp only [h]

/-- R49, R50: the two forms of the cabin table agree. -/
theorem State.cabinDecision_eq (s : State) (n gen : Nat) (bolt : Bool) (r : Person) :
    s.cabinDecision n gen bolt r =
      if r.cabin = some n then (if (s.cabin n).keyGen = gen then .granted else .grantedReissue)
      else if r.master = false then .notOccupant
      else if bolt = true ∧ s.sck.muster = false then .privacy
      else .granted := by
  unfold State.cabinDecision
  by_cases hcabin : r.cabin = some n
  · simp only [hcabin, if_true, eq_comm]
  · cases r.master <;> simp [hcabin]

/-- R47 to R51: the checks in their order give the outcome of the table. -/
theorem State.doorDecision_eq_doorOutcome (s : State) (kind : LockKind) (serial : Serial) (gen : Nat) (bolt : Bool) :
    s.doorDecision kind serial gen bolt = s.doorOutcome kind serial gen bolt := by
  unfold State.doorDecision State.cardChecks State.doorOutcome
  cases s.card? serial with
  | none => rfl
  | some e =>
    dsimp only
    by_cases hgen : e.generation = gen
    · rw [if_neg (not_not_intro hgen), if_neg (not_not_intro hgen)]
      cases e.state with
      | revoked day => rfl
      | active =>
        rw [if_neg (not_not_intro rfl)]
        cases s.person? e.person with
        | none => rfl
        | some r =>
          dsimp only
          by_cases haway : r.presence = .notEmbarked ∨ r.presence = .disembarked
          · rw [if_pos haway, if_pos haway]
          · rw [if_neg haway, if_neg haway]
            cases kind with
            | cabin n => exact s.cabinDecision_eq n gen bolt r
            | area a => rfl
    · rw [if_pos hgen, if_pos hgen]

/-! ### What is handed on -/

/-- The state with other segment controllers. -/
def State.withSegments (s : State) (sc : Table Segment) : State := { s with sc := sc }

theorem State.setLock_eq_withSegments (s : State) (g st : Nat) (k : Lock) :
    s.setLock g st k = s.withSegments (s.setLock g st k).sc := rfl

theorem State.signalFill_withSegments (s : State) (sc : Table Segment) :
    (s.withSegments sc).signalFill = s.signalFill.withSegments sc := by
  have hfill : (s.withSegments sc).fill = s.fill := rfl
  unfold State.signalFill
  rw [hfill]
  split <;> split <;> rfl

theorem State.append_withSegments (s : State) (sc : Table Segment) (time : Nat) (person : Option Nat) (day : Nat)
    (body : PostingBody) :
    (s.withSegments sc).append time person day body = (s.append time person day body).withSegments sc := by
  by_cases h : s.free < 1
  · rw [State.append_of_full h, State.append_of_full (s := s.withSegments sc) h]
  · rw [State.append_of_room h, State.append_of_room (s := s.withSegments sc) h]
    exact State.signalFill_withSegments (s.enqueue ⟨s.pq.next, time, person, day, body⟩) sc

theorem State.revokedUse_withSegments (s : State) (sc : Table Segment) (person : Nat) (serial : Serial) (src : Source) :
    (s.withSegments sc).revokedUse person serial src = (s.revokedUse person serial src).withSegments sc :=
  congrArg (·.raise .revokedUse) (s.append_withSegments sc s.sck.clock _ s.sck.openDay _)

/-- R48, R52: the three outcomes that hand something on. -/
theorem State.handOn_of_card {s : State} {serial : Serial} {e : Card} (h : s.card? serial = some e) (g st : Nat)
    (c : Code) :
    s.handOn g st serial c =
      if c = .revoked then s.revokedUse e.person serial (.door g st)
      else if c = .granted ∨ c = .grantedReissue then s.sendEvidence ⟨e.person, s.sck.clock, serial, .door g st, false⟩
      else s := by
  unfold State.handOn
  simp only [h]
  cases c <;> rfl

theorem State.handOn_of_absent {s : State} {serial : Serial} (h : s.card? serial = none) (g st : Nat) (c : Code) :
    s.handOn g st serial c = s := by
  unfold State.handOn
  simp only [h]

/-- What a decision hands on does not depend on the segment controllers. -/
theorem State.handOn_withSegments (s : State) (sc : Table Segment) (g st : Nat) (serial : Serial) (c : Code) :
    (s.withSegments sc).handOn g st serial c = (s.handOn g st serial c).withSegments sc := by
  cases h : s.card? serial with
  | none => rw [State.handOn_of_absent h, State.handOn_of_absent (s := s.withSegments sc) h]
  | some e =>
    rw [State.handOn_of_card h, State.handOn_of_card (s := s.withSegments sc) h, State.revokedUse_withSegments]
    split
    · rfl
    · split <;> rfl

/-- R52: the evidence of a decision. -/
def State.doorEvidence (s : State) (g st person : Nat) (serial : Serial) (c : Code) : List Evidence :=
  if c = .granted ∨ c = .grantedReissue then
    [{ person := person, time := s.sck.clock, serial := serial, source := .door g st, offline := false }]
  else []

/-- R48: the posting and the notice of a decision. -/
def State.doorRecorded (s : State) (g st person : Nat) (serial : Serial) (c : Code) : State :=
  if c = .revoked then s.revokedUse person serial (.door g st) else s

theorem State.doorRecorded_lk (s : State) (g st person : Nat) (serial : Serial) (c : Code) :
    (s.doorRecorded g st person serial c).lk = s.lk := by
  unfold State.doorRecorded
  split
  · exact State.revokedUse_lk ..
  · rfl

theorem State.doorRecorded_pu (s : State) (g st person : Nat) (serial : Serial) (c : Code) :
    (s.doorRecorded g st person serial c).pu = s.pu := by
  unfold State.doorRecorded
  split
  · exact State.revokedUse_pu ..
  · rfl

theorem State.withEvidence_append_nil {s t : State} (h : t.pu = s.pu) : t.withEvidence (s.pu.evidence ++ []) = t := by
  rw [List.append_nil, ← h]
  rfl

/-- R48, R52: what the decision of a presentation hands on, with the person of the card entry. -/
theorem State.handOn_doorOutcome (s : State) (g st : Nat) (kind : LockKind) (serial : Serial) (gen : Nat) (bolt : Bool) :
    let c := s.doorOutcome kind serial gen bolt
    let person := ((s.card? serial).map (·.person)).getD 0
    s.handOn g st serial c =
      (s.doorRecorded g st person serial c).withEvidence (s.pu.evidence ++ s.doorEvidence g st person serial c) := by
  intro c person
  cases h : s.card? serial with
  | none =>
    have hc : c = .unknownCard := State.doorOutcome_of_absent h kind gen bolt
    rw [State.handOn_of_absent h, hc]
    exact (State.withEvidence_append_nil rfl).symm
  | some e =>
    have hperson : person = e.person := by simp only [person, h, Option.map_some, Option.getD_some]
    rw [State.handOn_of_card h, hperson]
    unfold State.doorRecorded State.doorEvidence
    by_cases hrevoked : c = .revoked
    · rw [if_pos hrevoked, if_pos hrevoked, hrevoked]
      exact (State.withEvidence_append_nil (State.revokedUse_pu ..)).symm
    · rw [if_neg hrevoked, if_neg hrevoked]
      by_cases hgrant : c = .granted ∨ c = .grantedReissue
      · rw [if_pos hgrant, if_pos hgrant]
        rfl
      · rw [if_neg hgrant, if_neg hgrant]
        exact (State.withEvidence_append_nil rfl).symm

/-! ### The answer -/

theorem State.queueAnswer_frame (s : State) (n : Nat) (f : Frame) :
    s.queueAnswer n f = { s with lk := (s.queueAnswer n f).lk } := by
  unfold State.queueAnswer
  split <;> rfl

/-- R71: the answer waits, whatever the step has written beside the links. -/
theorem State.answerWaits_queueAnswer {s t : State} (hlk : t.lk = s.lk) (n : Nat) (f : Frame) (kind : Byte)
    (body : List Byte) :
    s.answerWaits (t.queueAnswer n { station := f.station, kind := kind, tag := f.tag, body := body }) n f kind body := by
  intro m
  have hlink (m : Nat) : t.link m = s.link m := by unfold State.link; rw [hlk]
  unfold State.queueAnswer
  by_cases hup : (s.link n).state = .up
  · rw [if_pos (by rw [hlink]; exact hup), State.modLink, State.link_setLink]
    simp only [hlink, hup, and_true]
  · rw [if_neg (by rw [hlink]; exact hup), hlink, if_neg fun h => hup h.2]

/-! ### The presentation -/

theorem State.present_of_absent {s : State} {g : Nat} {f : Frame} (h : s.lock? g f.station = none) (serial : Serial)
    (gen : Nat) (bolt : Bool) :
    s.present g f serial gen bolt = s.recordFault (frameFault .stationUnknown (segLink g) f) := by
  unfold State.present
  simp only [h]

/-- R48, R52, R67: the state that a presentation leaves beside its answer, the person of its card given. -/
def State.doorDecided (s : State) (g st person : Nat) (k : Lock) (serial : Serial) (bolt : Bool) (c : Code) : State :=
  ((s.doorRecorded g st person serial c).withEvidence
    (s.pu.evidence ++ s.doorEvidence g st person serial c)).withSegments
      (s.setLock g st (k.presented s.sck.elapsed (s.seg g).dozeCount bolt)).sc

/-- R46: the whole of a presentation from an enrolled station. -/
theorem State.present_of_enrolled {s : State} {g : Nat} {f : Frame} {k : Lock} (hk : s.lock? g f.station = some k)
    (serial : Serial) (gen : Nat) (bolt : Bool) :
    let c := s.doorOutcome k.kind serial gen bolt
    let person := ((s.card? serial).map (·.person)).getD 0
    s.present g f serial gen bolt =
      (s.doorDecided g f.station person k serial bolt c).queueAnswer (segLink g) (doorAnswer f c) := by
  intro c person
  have hdecision : s.doorDecision k.kind serial gen bolt = c := s.doorDecision_eq_doorOutcome ..
  have hdecided : (s.contactByCard g f.station bolt).handOn g f.station serial c =
      s.doorDecided g f.station person k serial bolt c := by
    rw [State.contactByCard_of_enrolled hk, State.doorDecided,
      ← s.handOn_doorOutcome g f.station k.kind serial gen bolt]
    exact s.handOn_withSegments ..
  unfold State.present
  simp only [hk, hdecision, hdecided]

section decided

variable (s : State) (g st person : Nat) (k : Lock) (serial : Serial) (bolt : Bool) (c : Code)

theorem State.doorDecided_lk : (s.doorDecided g st person k serial bolt c).lk = s.lk := s.doorRecorded_lk ..

theorem State.doorDecided_pu :
    (s.doorDecided g st person k serial bolt c).pu =
      { s.pu with evidence := s.pu.evidence ++ s.doorEvidence g st person serial c } :=
  congrArg (fun u : PresenceUnit => { u with evidence := s.pu.evidence ++ s.doorEvidence g st person serial c })
    (s.doorRecorded_pu ..)

theorem State.seg_doorDecided (h : Nat) :
    (s.doorDecided g st person k serial bolt c).seg h =
      if h = g then { s.seg g with
        roster := insert (s.seg g).roster st (k.presented s.sck.elapsed (s.seg g).dozeCount bolt) }
      else s.seg h :=
  s.seg_setLock ..

theorem State.lock?_doorDecided (x : Nat) :
    (s.doorDecided g st person k serial bolt c).lock? g x =
      if x = st then some (k.presented s.sck.elapsed (s.seg g).dozeCount bolt) else s.lock? g x :=
  s.lock?_setLock ..

end decided

theorem exec_presentation {g st gen : Nat} {tag : Byte} {serial : Serial} {bolt : Bool} {s0 s : State} {f : Frame}
    (hf : f = { station := st, kind := 0x10, tag := tag, body := serialBytes serial ++ be 2 gen ++ flagByte bolt })
    (h : s0.takeFrame (segLink g) f = some s) :
    exec (.presentation g st tag serial gen bolt) s0 = .next (s.present g f serial gen bolt) :=
  State.onFrame_of_takeFrame (i := .presentation g st tag serial gen bolt) (by rw [hf]; rfl) h fun _ f s1 =>
    s1.present g f serial gen bolt

/-- Settles O55, by whether the station is enrolled. -/
theorem doorsDecide : Obligations.DoorsDecide := by
  intro g st gen tag serial bolt s0 s f hf htake run
  have hrun : run = .next (s.present g f serial gen bolt) := exec_presentation hf htake
  obtain rfl : f.station = st := by rw [hf]
  have hkind : f.kind = 0x10 := by rw [hf]
  have htag : f.tag = tag := by rw [hf]
  refine ⟨fun habsent => ?_, fun k hk => ?_⟩
  · rw [hrun, State.present_of_absent habsent, frameFault, hkind, htag]
    rfl
  · intro c person seen
    rw [State.present_of_enrolled hk] at hrun
    have hwaits := State.answerWaits_queueAnswer (s.doorDecided_lk g f.station person k serial bolt c) (segLink g) f 0x11
      (be 1 c.number)
    refine ⟨_, hrun, hwaits, ?_⟩
    rw [State.queueAnswer_frame]
    have hseg := s.seg_doorDecided g f.station person k serial bolt c
    have hpu := s.doorDecided_pu g f.station person k serial bolt c
    have hlock := s.lock?_doorDecided g f.station person k serial bolt c
    refine ⟨(hlock f.station).trans (if_pos rfl), fun x hx => (hlock x).trans (if_neg hx), ?_,
      fun h hh => (hseg h).trans (if_neg hh), hpu, rfl⟩
    have hg := (hseg g).trans (if_pos rfl)
    exact hg.trans (congrArg (fun roster => { s.seg g with roster := roster }) (congrArg Segment.roster hg).symm)

end Sys2Proof.Machine
end

section
/-! What the push law reads (R65, R66, R68), and what leaves it as it is. -/

namespace Sys2Proof.Machine

set_option Elab.async false

/-- What the push law reads of a lock. -/
def Lock.pushView (k : Lock) : LockKind × Option Nat := (k.kind, k.ackGen)

/-- What the push law reads of a segment: the push list and the enrolled locks. -/
def Segment.pushView (c : Segment) : List Nat × (Nat → Option (LockKind × Option Nat)) :=
  (c.pushes, fun st => (find? c.roster st).map Lock.pushView)

/-- What the push law reads of the segments. -/
def pushView (sc : Table Segment) (g : Nat) : List Nat × (Nat → Option (LockKind × Option Nat)) :=
  (getD sc g Segment.cold).pushView

/-- What the push law reads of the cabins: the bound lock and the key generation. -/
def keyView (ct : Table Cabin) (c : Nat) : Option (Nat × Nat) × Nat :=
  ((getD ct c Cabin.cold).lock, (getD ct c Cabin.cold).keyGen)

theorem State.lock?_of_pushView {s t : State} (h : pushView t.sc = pushView s.sc) (g st : Nat) :
    (t.lock? g st).map Lock.pushView = (s.lock? g st).map Lock.pushView :=
  congrFun (congrArg Prod.snd (congrFun h g)) st

theorem State.lock?_kind_of_pushView {s t : State} (h : pushView t.sc = pushView s.sc) {g st : Nat} {k : Lock}
    (hk : t.lock? g st = some k) : ∃ l, s.lock? g st = some l ∧ l.kind = k.kind ∧ l.ackGen = k.ackGen := by
  have hview := State.lock?_of_pushView h g st
  rw [hk, eq_comm, Option.map_some, Option.map_eq_some_iff] at hview
  obtain ⟨l, hl, heq⟩ := hview
  exact ⟨l, hl, congrArg Prod.fst heq, congrArg Prod.snd heq⟩

/-- A step that leaves what the push law reads keeps the law. -/
theorem State.pushesHold_of_views {s t : State} (h : s.pushesHold) (hsc : pushView t.sc = pushView s.sc := by simp)
    (hct : keyView t.ct = keyView s.ct := by simp) : t.pushesHold := by
  obtain ⟨hnamed, hnodup, hlaw⟩ := h
  have hlock (c : Nat) : (t.cabin c).lock = (s.cabin c).lock := congrArg Prod.fst (congrFun hct c)
  have hgen (c : Nat) : (t.cabin c).keyGen = (s.cabin c).keyGen := congrArg Prod.snd (congrFun hct c)
  have hpushes (g : Nat) : (t.seg g).pushes = (s.seg g).pushes := congrArg Prod.fst (congrFun hsc g)
  refine ⟨fun c g st => ?_, fun g => hpushes g ▸ hnodup g, fun g st k c a hk hkind hack => ?_⟩
  · rw [hlock, hnamed]
    constructor
    · rintro ⟨k, hk, hkind⟩
      obtain ⟨l, hl, hlk, -⟩ := State.lock?_kind_of_pushView hsc.symm hk
      exact ⟨l, hl, hlk.trans hkind⟩
    · rintro ⟨k, hk, hkind⟩
      obtain ⟨l, hl, hlk, -⟩ := State.lock?_kind_of_pushView hsc hk
      exact ⟨l, hl, hlk.trans hkind⟩
  · obtain ⟨l, hl, hlk, hla⟩ := State.lock?_kind_of_pushView hsc hk
    rw [hgen, hpushes]
    exact hlaw g st l c a hl (hlk.trans hkind) (hla.trans hack)

/-! ### Segments -/

theorem pushView_setSeg {s : State} {g : Nat} {c : Segment} (h : c.pushView = (s.seg g).pushView) :
    pushView (s.setSeg g c).sc = pushView s.sc := by
  funext x
  refine (congrArg Segment.pushView (s.seg_setSeg g x c)).trans ?_
  split
  · subst_vars
    exact h
  · rfl

theorem pushView_modSeg {f : Segment → Segment} (s : State) (g : Nat)
    (h : ∀ c, (f c).pushView = c.pushView := by exact fun _ => rfl) : pushView (s.modSeg g f).sc = pushView s.sc :=
  pushView_setSeg (h _)

theorem pushView_setLock {s : State} {g st : Nat} {k l : Lock} (hk : s.lock? g st = some k) (h : l.pushView = k.pushView) :
    pushView (s.setLock g st l).sc = pushView s.sc := by
  refine pushView_setSeg (Prod.ext rfl (funext fun x => ?_))
  show (find? (insert (s.seg g).roster st l) x).map Lock.pushView = (s.lock? g x).map Lock.pushView
  rw [find?_insert]
  split
  · subst_vars
    rw [hk]
    exact congrArg some h
  · rfl

theorem pushView_modLock {f : Lock → Lock} (s : State) (g st : Nat)
    (h : ∀ k, (f k).pushView = k.pushView := by exact fun _ => rfl) : pushView (s.modLock g st f).sc = pushView s.sc := by
  unfold State.modLock
  split
  · rfl
  · exact pushView_setLock ‹_› (h _)

theorem pushView_foldl {α : Type} {f : State → α → State} (h : ∀ s a, pushView (f s a).sc = pushView s.sc) (l : List α)
    (s : State) : pushView (l.foldl f s).sc = pushView s.sc :=
  State.foldl_keeps (f := fun t => pushView t.sc) h l s

/-- A controller's settings and lists may change under a table of segments without the push law reading it. -/
theorem pushView_mapD {f : Segment → Segment} (hcold : f Segment.cold = Segment.cold)
    (h : ∀ c, (f c).pushView = c.pushView) {sc : Table Segment} (hsc : rising sc = true) :
    pushView (mapD Segment.cold f sc) = pushView sc := by
  funext g
  unfold pushView
  rw [getD_mapD f hcold hsc, h]

theorem Segment.pushView_mapRoster {f : Lock → Lock} (c : Segment)
    (h : ∀ k, (f k).pushView = k.pushView := by exact fun _ => rfl) :
    ({ c with roster := mapRecords f c.roster } : Segment).pushView = c.pushView := by
  refine Prod.ext rfl (funext fun st => ?_)
  show (find? (mapRecords f c.roster) st).map Lock.pushView = (find? c.roster st).map Lock.pushView
  rw [find?_mapRecords, Option.map_map]
  exact congrArg (fun g => (find? c.roster st).map g) (funext h)

/-! ### Links -/

@[simp] theorem pushView_restartMeasure (s : State) (g : Nat) : pushView (s.restartMeasure g).sc = pushView s.sc :=
  pushView_modSeg s g

@[simp] theorem pushView_wake (s : State) (g : Nat) : pushView (s.wake g).sc = pushView s.sc := by
  unfold State.wake
  split <;> simp

@[simp] theorem pushView_enterUp (s : State) (n : Nat) : pushView (s.enterUp n).sc = pushView s.sc := by
  unfold State.enterUp
  dsimp only
  split
  · rw [pushView_restartMeasure]
    exact (pushView_modSeg _ _).trans (by simp)
  · simp

@[simp] theorem pushView_stationArrives (s : State) (n : Nat) (kind : Byte) :
    pushView (s.stationArrives n kind).sc = pushView s.sc := by
  unfold State.stationArrives
  dsimp only
  split
  · simp
  · split <;> simp

theorem pushView_takeFrame {s t : State} {n : Nat} {f : Frame} (h : s.takeFrame n f = some t) :
    pushView t.sc = pushView s.sc ∧ t.ct = s.ct := by
  unfold State.takeFrame at h
  split at h
  · split at h
    · cases h
      simp
    · split at h
      · cases h
        simp
      · cases h
  · cases h

@[simp] theorem pushView_leaveService (s : State) (n : Nat) : pushView (s.leaveService n).sc = pushView s.sc := by
  unfold State.leaveService
  split
  · cases linkSeg? n with
    | none =>
      dsimp only
      split <;> simp
    | some g =>
      dsimp only
      split
      · rw [State.endPermits_sc]
        exact (pushView_modSeg _ g).trans (by simp)
      · exact (pushView_modSeg _ g).trans (by simp)
  · rfl

@[simp] theorem pushView_recoverLink (s : State) (n : Nat) : pushView (s.recoverLink n).sc = pushView s.sc := by
  unfold State.recoverLink
  split <;> simp

@[simp] theorem pushView_recordFault (s : State) (r : FaultRecord) : pushView (s.recordFault r).sc = pushView s.sc := by
  unfold State.recordFault
  dsimp only
  split <;> split <;> simp

@[simp] theorem pushView_retrain (s : State) (n : Nat) : pushView (s.retrain n).sc = pushView s.sc := by
  unfold State.retrain
  split <;> simp

@[simp] theorem pushView_endAttempt (s : State) (n : Nat) : pushView (s.endAttempt n).sc = pushView s.sc := by
  unfold State.endAttempt
  split <;> simp

@[simp] theorem pushView_goodArrival (s : State) (n : Nat) (f : Frame) :
    pushView (s.goodArrival n f).sc = pushView s.sc := by
  unfold State.goodArrival State.intakeFrame
  dsimp only
  split
  · simp
  · split <;> simp

@[simp] theorem pushView_trainingArrival (s : State) (n : Nat) (bs : List Byte) :
    pushView (s.trainingArrival n bs).sc = pushView s.sc := by
  unfold State.trainingArrival
  split
  · split <;> simp
  · rfl

@[simp] theorem pushView_frameArrives (s : State) (n : Nat) (bs : List Byte) :
    pushView (s.frameArrives n bs).sc = pushView s.sc := by
  unfold State.frameArrives
  split
  · simp
  · split <;> simp
  · split <;> simp
  · rfl

@[simp] theorem pushView_trainReplyArrives (s : State) (n hubKind : Nat) :
    pushView (s.trainReplyArrives n hubKind).sc = pushView s.sc := by
  unfold State.trainReplyArrives
  split
  · split <;> simp
  · simp
  · simp
  · rfl

@[simp] theorem pushView_disableLink (n : Nat) (s : State) : pushView (disableLink n s).1.sc = pushView s.sc := by
  unfold disableLink
  split
  · rfl
  · dsimp only
    split <;> simp

@[simp] theorem pushView_retrainLink (n : Nat) (s : State) : pushView (retrainLink n s).1.sc = pushView s.sc := by
  unfold retrainLink
  split
  · rfl
  · simp

@[simp] theorem pushView_retrainSegment (g : Nat) (s : State) : pushView (retrainSegment g s).1.sc = pushView s.sc := by
  unfold retrainSegment
  split
  · rfl
  · simp

/-! ### Locks -/

@[simp] theorem pushView_makeStale (s : State) (g st : Nat) : pushView (s.makeStale g st).sc = pushView s.sc :=
  pushView_modLock (f := fun k => { k with state := .stale }) s g st

@[simp] theorem pushView_deriveWindow (s : State) (g : Nat) : pushView (s.deriveWindow g).sc = pushView s.sc := by
  unfold State.deriveWindow State.settleStale
  refine (pushView_foldl (fun s st => ?_) _ _).trans (pushView_modSeg s g)
  split <;> simp

@[simp] theorem pushView_shift (rel : Bool) (s : State) (g : Nat) : pushView (s.shift rel g).sc = pushView s.sc := by
  unfold State.shift
  rw [pushView_wake]
  exact pushView_modSeg s g fun c => Segment.pushView_mapRoster (f := fun k => { k with
    release := k.release.shifted rel }) c

@[simp] theorem pushView_allRelease (g : Nat) (s : State) : pushView (allRelease g s).1.sc = pushView s.sc := by
  unfold allRelease
  split
  · rfl
  · exact pushView_foldl (pushView_shift true) _ s

@[simp] theorem pushView_allRestore (g : Nat) (s : State) : pushView (allRestore g s).1.sc = pushView s.sc := by
  unfold allRestore
  split
  · rfl
  · exact pushView_foldl (pushView_shift false) _ s

theorem find?_map_keyed {α : Type} (f : Nat × α → α) (t : Table α) (k : Nat) :
    find? (t.map fun e => (e.1, f e)) k = (find? t k).map fun a => f (k, a) := by
  induction t with
  | nil => rfl
  | cons e rest ih =>
    obtain ⟨j, a⟩ := e
    rw [List.map_cons]
    unfold find?
    by_cases h : j = k
    · subst h
      simp
    · simp only [h, if_false]
      exact ih

/-- R82: a segment as SET SEGMENT writes it, its window not yet derived. -/
def Segment.configured (doze spacing window : Nat) (list : List (Nat × Bool)) (c : Segment) : Segment :=
  { c with
    dozeTimer := doze, spacing := clamp 50 1000 spacing, windowAsked := clamp 5 120 window
    measure := if doze = 0 then { c.measure with limit := none } else c.measure
    roster := c.roster.map fun e => (e.1, { e.2 with excluded := (listedFlag list e.1).getD e.2.excluded }) }

/-- R82: the whole of a SET SEGMENT that is not refused, beside its answer. -/
def State.configureSegment (s : State) (g doze spacing window : Nat) (list : List (Nat × Bool)) : State :=
  let s1 := (s.modSeg g (Segment.configured doze spacing window list)).deriveWindow g
  if doze = 0 then s1.wake g else s1

theorem setSegment_eq (g doze spacing window : Nat) (list : List (Nat × Bool)) (s : State) :
    setSegment g doze spacing window list s =
      if 3 < g ∨ 5 < doze ∨ list.any (fun e => !stationOk e.1) then s.refuse .range
      else if list.any fun e => (s.lock? g e.1).isNone then s.refuse .notFound
      else
        let t := s.configureSegment g doze spacing window list
        (t, Reply.ok (be 4 (t.seg g).spacing ++ be 4 (t.seg g).window)) := rfl

theorem Segment.lock?_configured (doze spacing window : Nat) (list : List (Nat × Bool)) (c : Segment) (st : Nat) :
    find? (c.configured doze spacing window list).roster st =
      (find? c.roster st).map fun k => { k with excluded := (listedFlag list st).getD k.excluded } :=
  find?_map_keyed (fun e : Nat × Lock => { e.2 with excluded := (listedFlag list e.1).getD e.2.excluded }) c.roster st

theorem Segment.pushView_configured (doze spacing window : Nat) (list : List (Nat × Bool)) (c : Segment) :
    (c.configured doze spacing window list).pushView = c.pushView := by
  refine Prod.ext rfl (funext fun st => ?_)
  show (find? (c.configured doze spacing window list).roster st).map Lock.pushView = _
  rw [Segment.lock?_configured, Option.map_map]
  rfl

@[simp] theorem pushView_setSegment (g doze spacing window : Nat) (list : List (Nat × Bool)) (s : State) :
    pushView (setSegment g doze spacing window list s).1.sc = pushView s.sc := by
  have hwritten := pushView_modSeg s g (Segment.pushView_configured doze spacing window list)
  rw [setSegment_eq]
  split
  · rfl
  · split
    · rfl
    · dsimp only
      unfold State.configureSegment
      dsimp only
      split <;> simp [hwritten]

@[simp] theorem pushView_present (s : State) (g : Nat) (f : Frame) (serial : Serial) (gen : Nat) (bolt : Bool) :
    pushView (s.present g f serial gen bolt).sc = pushView s.sc := by
  unfold State.present State.contactByCard
  split
  · simp
  · simp only [State.queueAnswer_sc, State.handOn_sc]
    exact pushView_modLock s g f.station

/-! ### The transmit arbiter -/

@[simp] theorem pushView_sendStation (s : State) (g : Nat) (f : Frame) : pushView (s.sendStation g f).sc = pushView s.sc := by
  simp [State.sendStation]

@[simp] theorem pushView_sendDoorAnswer (s : State) (g : Nat) : pushView (s.sendDoorAnswer g).sc = pushView s.sc := by
  unfold State.sendDoorAnswer
  split <;> simp

@[simp] theorem pushView_sendBroadcast (s : State) (g : Nat) : pushView (s.sendBroadcast g).sc = pushView s.sc := by
  unfold State.sendBroadcast
  rw [pushView_sendStation]
  exact pushView_modSeg s.drawTag g

@[simp] theorem pushView_sendAsked (s : State) (g : Nat) (asked : Asked) (f : Frame) :
    pushView (s.sendAsked g asked f).sc = pushView s.sc :=
  pushView_modSeg (s.drawTag.sendFrame (segLink g) f) g

@[simp] theorem pushView_sendPush (s : State) (g : Nat) : pushView (s.sendPush g).sc = pushView s.sc := by
  unfold State.sendPush
  split <;> simp

@[simp] theorem pushView_sendFetch (s : State) (g : Nat) : pushView (s.sendFetch g).sc = pushView s.sc := by
  unfold State.sendFetch
  split <;> simp

@[simp] theorem pushView_sendPoll (s : State) (g : Nat) : pushView (s.sendPoll g).sc = pushView s.sc := by
  unfold State.sendPoll
  split
  · rfl
  · exact (pushView_modSeg _ g).trans (by simp)

@[simp] theorem pushView_resendFrame (s : State) (g : Nat) (o : Outstanding) :
    pushView (s.resendFrame g o).sc = pushView s.sc := by
  unfold State.resendFrame
  dsimp only
  split
  · exact (pushView_modSeg _ g).trans (by simp)
  · rw [pushView_restartMeasure]
    exact (pushView_modSeg _ g).trans (by simp)

@[simp] theorem pushView_sendHeldBack (s : State) (g : Nat) : pushView (s.sendHeldBack g).sc = pushView s.sc := by
  unfold State.sendHeldBack
  split <;> simp

@[simp] theorem pushView_timeOut (s : State) (g : Nat) (o : Outstanding) : pushView (s.timeOut g o).sc = pushView s.sc := by
  have hended : pushView (s.modSeg g fun c => { c with outstanding := none }).sc = pushView s.sc :=
    pushView_modSeg s g
  unfold State.timeOut
  dsimp only
  split
  · exact hended
  · split
    · rw [pushView_recordFault, hended]
    · rename_i k hk
      have hlost := pushView_setLock (l := { k with state := .unreachable }) hk rfl
      rw [pushView_recordFault, hended] at hlost
      split
      · rw [pushView_recordFault, hended]
      · split
        · exact (pushView_modSeg _ g).trans hlost
        · rw [pushView_recoverLink]
          exact (pushView_modSeg _ g).trans hlost

@[simp] theorem pushView_endWait (s : State) (g : Nat) : pushView (s.endWait g).sc = pushView s.sc := by
  unfold State.endWait
  split
  · rfl
  · split
    · split
      · simp
      · exact pushView_modSeg s g
    · simp

@[simp] theorem pushView_endMeasure (s : State) (g : Nat) : pushView (s.endMeasure g).sc = pushView s.sc := by
  have hspent : pushView (s.measureSpent g).sc = pushView s.sc := pushView_modSeg s g
  by_cases h : s.quiet g = true
  · rw [State.endMeasure_of_quiet h]
    simpa using hspent
  · rw [State.endMeasure_of_busy h, hspent]

@[simp] theorem pushView_takeLogReply (s : State) (g st : Nat) (r : LogReport) :
    pushView (s.takeLogReply g st r).sc = pushView s.sc := by
  have hentry : pushView (if r.present then s.logEntry g st r.serial r.time r.granted else s).sc = pushView s.sc := by
    split <;> simp
  unfold State.takeLogReply
  dsimp only
  split
  · exact (pushView_modSeg _ g).trans ((pushView_modLock _ g st).trans hentry)
  · exact (pushView_modLock _ g st).trans hentry

/-! ### The purser port, the venues and the clock -/

@[simp] theorem pushView_transaction (s : State) (sel : Byte) (rest : List Byte) :
    pushView (s.transaction sel rest).sc = pushView s.sc := by
  unfold State.transaction State.writeCommand
  split
  · split
    · simp
    · split <;> simp
  · simp

theorem pushView_cardAsk (f : Frame) (serial : Serial) (hold : Bool) (s : State) :
    (∀ r, s.cardAsk f serial hold = .declined r → pushView r.state.sc = pushView s.sc) ∧
      ∀ s1 v p r, s.cardAsk f serial hold = .passed s1 v p r → pushView s1.sc = pushView s.sc :=
  State.cardAsk_keeps (fun t => pushView t.sc) f serial hold s (by simp) (by simp) (by simp)

@[simp] theorem pushView_openTab (f : Frame) (serial : Serial) (s : State) :
    pushView (openTab f serial s).state.sc = pushView s.sc := by
  obtain ⟨hdeclined, hpassed⟩ := pushView_cardAsk f serial true s
  unfold openTab
  split
  · exact hdeclined _ ‹_›
  · have hs := hpassed _ _ _ _ ‹_›
    split
    · exact hs
    · split
      · exact hs
      · simpa using hs

@[simp] theorem pushView_quickSale (f : Frame) (serial : Serial) (c p q tip : Nat) (s : State) :
    pushView (quickSale f serial c p q tip s).state.sc = pushView s.sc := by
  obtain ⟨hdeclined, hpassed⟩ := pushView_cardAsk f serial true s
  unfold quickSale
  split
  · exact hdeclined _ ‹_›
  · have hs := hpassed _ _ _ _ ‹_›
    split
    · exact hs
    · dsimp only
      split
      · exact hs
      · split
        · exact hs
        · simpa using hs

@[simp] theorem pushView_queryBalance (f : Frame) (serial : Serial) (s : State) :
    pushView (queryBalance f serial s).state.sc = pushView s.sc := by
  obtain ⟨hdeclined, hpassed⟩ := pushView_cardAsk f serial false s
  unfold queryBalance
  split
  · exact hdeclined _ ‹_›
  · exact hpassed _ _ _ _ ‹_›

theorem pushView_countDoze (s : State) (g : Nat) : pushView (s.countDoze g).sc = pushView s.sc := by
  unfold State.countDoze
  split
  · exact pushView_modSeg s g
  · rfl

theorem State.countDoze_ct (s : State) (g : Nat) : (s.countDoze g).ct = s.ct := by
  unfold State.countDoze
  split
  · exact State.modSeg_ct ..
  · rfl

theorem pushView_tick (s : State) : pushView s.tick.sc = pushView s.sc ∧ s.tick.ct = s.ct := by
  unfold State.tick
  dsimp only
  split
  · exact ⟨pushView_foldl pushView_countDoze segmentNumbers _,
      State.foldl_keeps (f := State.ct) State.countDoze_ct segmentNumbers _⟩
  · exact ⟨rfl, rfl⟩

/-! ### The MUSTER line and the resets -/

@[simp] theorem pushView_enterMuster (s : State) (keep : Bool) : pushView (s.enterMuster keep).sc = pushView s.sc := by
  have hshift (t : State) : pushView (segmentNumbers.foldl State.releaseSegment t).sc = pushView t.sc :=
    pushView_foldl (pushView_shift true) _ t
  unfold State.enterMuster
  dsimp only
  split <;> split <;> simp [hshift]

@[simp] theorem pushView_leaveMuster (s : State) : pushView s.leaveMuster.sc = pushView s.sc :=
  pushView_foldl (pushView_shift false) segmentNumbers
    (({ s with sck := { s.sck with muster := false } } : State).raise .muster).deriveModes

@[simp] theorem pushView_sampleMuster (s : State) (was : Bool) : pushView (s.sampleMuster was).sc = pushView s.sc := by
  unfold State.sampleMuster
  split
  · simp
  · split <;> simp

theorem pushView_warmEffects {s : State} (h : rising s.sc = true) : pushView s.warmEffects.sc = pushView s.sc := by
  rw [State.warmEffects_sc]
  have hlock (k : Lock) : k.warm.pushView = k.pushView := by
    unfold Lock.warm
    split <;> rfl
  have hwarm (c : Segment) : c.warm.pushView = c.pushView := Segment.pushView_mapRoster c hlock
  exact pushView_mapD rfl hwarm h

end Sys2Proof.Machine
end

section
/-! What a reply writes of its lock, its cabin and its segment's lists (R66, R69, R70, R76, R77). -/

namespace Sys2Proof.Machine

set_option Elab.async false

theorem LockKind.cabin?_eq_some {kind : LockKind} {c : Nat} : kind.cabin? = some c ↔ kind = .cabin c := by
  cases kind <;> simp [LockKind.cabin?]

theorem LockKind.cabin?_eq_none {kind : LockKind} (h : kind.cabin? = none) (c : Nat) : kind ≠ .cabin c := by
  rintro rfl
  cases h

/-! ### The floor (R16, R69) -/

/-- R69 step 1: the cabin of a CABIN lock raised to a reported floor. -/
def State.floored (s : State) (kind : LockKind) (floor : Nat) : State :=
  match kind.cabin? with
  | none => s
  | some c => s.raiseGen c floor

theorem State.floored_area {kind : LockKind} (h : kind.cabin? = none) (s : State) (floor : Nat) :
    s.floored kind floor = s := by
  unfold State.floored
  rw [h]

theorem State.floored_cabin {kind : LockKind} {c : Nat} (h : kind.cabin? = some c) (s : State) (floor : Nat) :
    s.floored kind floor = s.raiseGen c floor := by
  unfold State.floored
  rw [h]

theorem State.floored_frame (s : State) (kind : LockKind) (floor : Nat) :
    s.floored kind floor = { s with ct := (s.floored kind floor).ct, pt := (s.floored kind floor).pt } := by
  unfold State.floored
  split
  · rfl
  · apply State.eq_of_fields <;> simp

theorem State.raiseGen_of_lt {s : State} {c floor : Nat} (h : (s.cabin c).keyGen < floor) :
    s.raiseGen c floor =
      (s.setCabin c { s.cabin c with keyGen := floor }).markBelow (s.cabin c).occupants floor := if_pos h

theorem State.raiseGen_of_le {s : State} {c floor : Nat} (h : floor ≤ (s.cabin c).keyGen) : s.raiseGen c floor = s :=
  if_neg (Nat.not_lt.mpr h)

theorem State.cabin_raiseGen (s : State) (c floor d : Nat) :
    (s.raiseGen c floor).cabin d =
      if d = c then { s.cabin c with keyGen := max (s.cabin c).keyGen floor } else s.cabin d := by
  by_cases h : (s.cabin c).keyGen < floor
  · have hct := State.markBelow_ct (s.setCabin c { s.cabin c with keyGen := floor }) (s.cabin c).occupants floor
    rw [State.raiseGen_of_lt h, Nat.max_eq_right h.le]
    exact (congrArg (fun ct => getD ct d Cabin.cold) hct).trans (s.cabin_setCabin c d _)
  · rw [State.raiseGen_of_le (Nat.not_lt.mp h), Nat.max_eq_left (Nat.not_lt.mp h)]
    split
    · subst_vars
      rfl
    · rfl

theorem State.cabin_floored (s : State) (kind : LockKind) (floor d : Nat) :
    (s.floored kind floor).cabin d =
      if kind.cabin? = some d then { s.cabin d with keyGen := max (s.cabin d).keyGen floor } else s.cabin d := by
  unfold State.floored
  cases kind.cabin? with
  | none => rfl
  | some c =>
    refine (s.cabin_raiseGen c floor d).trans ?_
    by_cases hd : d = c
    · rw [if_pos hd, if_pos (congrArg some hd.symm), hd]
    · rw [if_neg hd, if_neg fun h => hd (Option.some.inj h).symm]

theorem State.person?_raiseGen (s : State) (c floor q : Nat) :
    (s.raiseGen c floor).person? q = (s.person? q).map fun r =>
      r.marked (decide ((s.cabin c).keyGen < floor) && decide (q ∈ (s.cabin c).occupants) &&
        (s.activeGen? r).any fun a => a < floor) := by
  by_cases h : (s.cabin c).keyGen < floor
  · rw [State.raiseGen_of_lt h, State.person?_markBelow]
    simp only [h, decide_true, Bool.true_and]
    rfl
  · rw [State.raiseGen_of_le (Nat.not_lt.mp h)]
    simp [h, Person.marked_false]

theorem State.person?_floored (s : State) (kind : LockKind) (floor q : Nat) :
    (s.floored kind floor).person? q = (s.person? q).map fun r => { r with
      reissueDue := r.reissueDue || kind.cabin?.any fun c => decide ((s.cabin c).keyGen < floor) &&
        decide (q ∈ (s.cabin c).occupants) && (s.activeGen? r).any fun a => a < floor } := by
  unfold State.floored
  cases kind.cabin? with
  | none => simp
  | some c => exact s.person?_raiseGen c floor q

/-! ### The lock's record and the lists -/

/-- In `t` a lock's record, the push list and the fetch list of its segment are written; no other record, list or
segment differs. -/
def State.lockWritten (s t : State) (g st : Nat) (l : Lock) (pushes fetches : List Nat) : Prop :=
  t.lock? g st = some l ∧ (∀ x, x ≠ st → t.lock? g x = s.lock? g x) ∧ (∀ h, h ≠ g → t.seg h = s.seg h) ∧
    t.seg g = { s.seg g with roster := (t.seg g).roster, pushes := pushes, fetches := fetches }

section lockWritten

variable {s t u : State} {g st : Nat} {k l : Lock} {pushes fetches : List Nat}

theorem State.lockWritten_self (hk : s.lock? g st = some k) :
    s.lockWritten s g st k (s.seg g).pushes (s.seg g).fetches :=
  ⟨hk, fun _ _ => rfl, fun _ _ => rfl, rfl⟩

theorem State.lockWritten.of_sc (h : s.lockWritten t g st l pushes fetches) (hsc : u.sc = t.sc) :
    s.lockWritten u g st l pushes fetches := by
  unfold State.lockWritten State.lock? State.seg at *
  rw [hsc]
  exact h

theorem State.lockWritten.modLock (h : s.lockWritten t g st l pushes fetches) (f : Lock → Lock) :
    s.lockWritten (t.modLock g st f) g st (f l) pushes fetches := by
  obtain ⟨hl, hothers, hsegs, hseg⟩ := h
  rw [State.modLock_of_some hl]
  have hwritten := t.seg_setLock g st g (f l)
  rw [if_pos rfl] at hwritten
  refine ⟨(t.lock?_setLock g st st _).trans (if_pos rfl), fun x hx => ?_, fun h hh => ?_, ?_⟩
  · exact ((t.lock?_setLock g st x _).trans (if_neg hx)).trans (hothers x hx)
  · exact ((t.seg_setLock g st h _).trans (if_neg hh)).trans (hsegs h hh)
  · rw [hwritten]
    exact congrArg (fun c : Segment => { c with roster := insert (t.seg g).roster st (f l) }) hseg

theorem State.lockWritten.modLists (h : s.lockWritten t g st l pushes fetches) (p q : List Nat → List Nat) :
    s.lockWritten (t.modSeg g fun c => { c with pushes := p c.pushes, fetches := q c.fetches }) g st l (p pushes)
      (q fetches) := by
  obtain ⟨hl, hothers, hsegs, hseg⟩ := h
  have hwritten := t.seg_modSeg g g fun c => { c with pushes := p c.pushes, fetches := q c.fetches }
  rw [if_pos rfl] at hwritten
  have hroster (x : Nat) : (t.modSeg g fun c => { c with pushes := p c.pushes, fetches := q c.fetches }).lock? g x =
      t.lock? g x := by
    unfold State.lock?
    rw [hwritten]
  refine ⟨(hroster st).trans hl, fun x hx => (hroster x).trans (hothers x hx), fun h hh => ?_, ?_⟩
  · exact ((t.seg_modSeg g h _).trans (if_neg hh)).trans (hsegs h hh)
  · rw [hwritten]
    exact congrArg (fun c : Segment => { c with pushes := p c.pushes, fetches := q c.fetches }) hseg

theorem State.lockWritten.modPushes (h : s.lockWritten t g st l pushes fetches) (p : List Nat → List Nat) :
    s.lockWritten (t.modSeg g fun c => { c with pushes := p c.pushes }) g st l (p pushes) fetches :=
  h.modLists p id

theorem State.lockWritten.modFetches (h : s.lockWritten t g st l pushes fetches) (q : List Nat → List Nat) :
    s.lockWritten (t.modSeg g fun c => { c with fetches := q c.fetches }) g st l pushes (q fetches) :=
  h.modLists id q

end lockWritten

/-! ### The replies -/

/-- R69, R70: the push list after a rule for the generation of a CABIN lock's cabin, raised to the floor it reports. -/
def State.pushesAfter (s : State) (g : Nat) (kind : LockKind) (floor : Nat) (rule : List Nat → Nat → List Nat) : List Nat :=
  match kind.cabin? with
  | none => (s.seg g).pushes
  | some c => rule (s.seg g).pushes (max (s.cabin c).keyGen floor)

theorem State.pushesAfter_area {s : State} {kind : LockKind} (h : kind.cabin? = none) (g floor : Nat)
    (rule : List Nat → Nat → List Nat) : s.pushesAfter g kind floor rule = (s.seg g).pushes := by
  unfold State.pushesAfter
  rw [h]

theorem State.pushesAfter_cabin {s : State} {kind : LockKind} {c : Nat} (h : kind.cabin? = some c) (g floor : Nat)
    (rule : List Nat → Nat → List Nat) :
    s.pushesAfter g kind floor rule = rule (s.seg g).pushes (max (s.cabin c).keyGen floor) := by
  unfold State.pushesAfter
  rw [h]

/-- R70: the push list after an acknowledgement, at the generation the cabin then has. -/
def ackedPushes (st floor : Nat) (pushes : List Nat) (gen : Nat) : List Nat :=
  if floor < gen then pushes.filter (· ≠ st) ++ [st] else pushes.filter (· ≠ st)

theorem State.keyGen_modLock_raiseGen (s : State) (c floor g st : Nat) (f : Lock → Lock) :
    (((s.raiseGen c floor).modLock g st f).cabin c).keyGen = max (s.cabin c).keyGen floor := by
  have hcabin : ((s.raiseGen c floor).modLock g st f).cabin c = (s.raiseGen c floor).cabin c := by
    unfold State.cabin
    rw [State.modLock_ct]
  rw [hcabin, State.cabin_raiseGen, if_pos rfl]

/-- R69: what the lock and the lists read after the floor of a poll reply. -/
theorem State.lockWritten_takeFloor {s : State} {g st : Nat} {k : Lock} (hk : s.lock? g st = some k) (floor : Nat) :
    s.lockWritten (s.takeFloor g st k.kind floor) g st { k with ackGen := some floor }
      (s.pushesAfter g k.kind floor fun pushes gen => reconcile pushes st floor gen) (s.seg g).fetches := by
  unfold State.takeFloor State.pushesAfter
  cases hc : k.kind.cabin? with
  | none => exact (State.lockWritten_self hk).modLock _
  | some c =>
    dsimp only
    rw [State.keyGen_modLock_raiseGen]
    have hraised := (State.lockWritten_self hk).of_sc (State.raiseGen_sc s c floor)
    exact (hraised.modLock fun k => { k with ackGen := some floor }).modPushes fun pushes =>
      reconcile pushes st floor (max (s.cabin c).keyGen floor)

/-- What a rule that raises the cabin's generation writes beside the segments. -/
theorem State.takeFloor_tables (s : State) (g st : Nat) (kind : LockKind) (floor : Nat) :
    (s.takeFloor g st kind floor).ct = (s.floored kind floor).ct ∧
      (s.takeFloor g st kind floor).pt = (s.floored kind floor).pt := by
  unfold State.takeFloor
  cases hc : kind.cabin? with
  | none => rw [State.floored_area hc]; exact ⟨State.modLock_ct .., State.modLock_pt ..⟩
  | some c => rw [State.floored_cabin hc]; exact ⟨State.modLock_ct .., State.modLock_pt ..⟩

/-- R76: what a poll reply writes of the lock's record. -/
def Lock.polled (k : Lock) (now doze : Nat) (wanted : Bool) (r : PollReport) : Lock :=
  { k.contact now doze with
    state := .online, ackGen := some r.floor, status := r.status, release := settleRelease wanted r.released
    logCount := r.logCount }

theorem State.lockWritten_takePollReply {s : State} {g st : Nat} {k : Lock} (hk : s.lock? g st = some k)
    (r : PollReport) :
    s.lockWritten (s.takePollReply g st k r) g st (k.polled s.sck.elapsed (s.seg g).dozeCount (s.seg g).wanted r)
      (s.pushesAfter g k.kind r.floor fun pushes gen => reconcile pushes st r.floor gen)
      (settleFetch (s.seg g).fetches st r.logCount) := by
  have hfloor := State.lockWritten_takeFloor hk r.floor
  unfold State.takePollReply
  dsimp only
  split
  · exact ((hfloor.of_sc (State.raise_sc _ .lockAlert)).modLock _).modFetches fun fetches =>
      settleFetch fetches st r.logCount
  · exact (hfloor.modLock _).modFetches fun fetches => settleFetch fetches st r.logCount

/-- R76: a poll reply writes the cabin and its occupants as the floor does, raises LOCK_ALERT on a flag newly set, and
writes its segment. -/
theorem State.takePollReply_frame (s : State) (g st : Nat) (k : Lock) (r : PollReport) :
    s.takePollReply g st k r = { s with
      sc := (s.takePollReply g st k r).sc
      ct := (s.floored k.kind r.floor).ct
      pt := (s.floored k.kind r.floor).pt
      nfu := if r.status.battery && !k.status.battery || r.status.tamper && !k.status.tamper then
        (s.raise .lockAlert).nfu else s.nfu } := by
  obtain ⟨hct, hpt⟩ := s.takeFloor_tables g st k.kind r.floor
  unfold State.takePollReply
  dsimp only
  split
  · apply State.eq_of_fields
    case nfu => simp [State.raise]
    all_goals simp [hct, hpt]
  · apply State.eq_of_fields <;> simp [hct, hpt]

/-- R70: what an acknowledgement writes of the lock's record. -/
def Lock.acked (k : Lock) (now doze floor : Nat) : Lock := { k.contact now doze with ackGen := some floor }

theorem State.lockWritten_takePushAck {s : State} {g st : Nat} {k : Lock} (hk : s.lock? g st = some k) (floor : Nat) :
    s.lockWritten (s.takePushAck g st k floor) g st (k.acked s.sck.elapsed (s.seg g).dozeCount floor)
      (s.pushesAfter g k.kind floor (ackedPushes st floor)) (s.seg g).fetches := by
  unfold State.takePushAck State.pushesAfter
  cases hc : k.kind.cabin? with
  | none => exact (State.lockWritten_self hk).modLock _
  | some c =>
    dsimp only
    rw [State.keyGen_modLock_raiseGen]
    have hraised := (State.lockWritten_self hk).of_sc (State.raiseGen_sc s c floor)
    exact (hraised.modLock fun l => l.acked s.sck.elapsed (s.seg g).dozeCount floor).modPushes fun pushes =>
      ackedPushes st floor pushes (max (s.cabin c).keyGen floor)

theorem State.takePushAck_frame (s : State) (g st : Nat) (k : Lock) (floor : Nat) :
    s.takePushAck g st k floor = { s with
      sc := (s.takePushAck g st k floor).sc
      ct := (s.floored k.kind floor).ct
      pt := (s.floored k.kind floor).pt } := by
  unfold State.takePushAck
  dsimp only
  cases hc : k.kind.cabin? with
  | none => rw [State.floored_area hc]; apply State.eq_of_fields <;> simp
  | some c => rw [State.floored_cabin hc]; apply State.eq_of_fields <;> simp

end Sys2Proof.Machine
end

section
/-! The push law under the operations that write what it reads (R65, R66, R68 to R70). -/

namespace Sys2Proof.Machine

set_option Elab.async false

/-! ### Cabins -/

theorem keyView_setCabin {s : State} {c : Nat} {r : Cabin} (hlock : r.lock = (s.cabin c).lock)
    (hgen : r.keyGen = (s.cabin c).keyGen) : keyView (s.setCabin c r).ct = keyView s.ct := by
  funext d
  have hcabin := s.cabin_setCabin c d r
  refine Prod.ext ((congrArg Cabin.lock hcabin).trans ?_) ((congrArg Cabin.keyGen hcabin).trans ?_)
  · split
    · subst_vars
      exact hlock
    · rfl
  · split
    · subst_vars
      exact hgen
    · rfl

theorem keyView_leaveCabin (s : State) (p : Nat) : keyView (s.leaveCabin p).ct = keyView s.ct := by
  unfold State.leaveCabin
  split
  · rfl
  · split
    · rfl
    · exact keyView_setCabin rfl rfl

theorem keyView_joinCabin (s : State) (c p : Nat) : keyView (s.joinCabin c p).ct = keyView s.ct :=
  keyView_setCabin rfl rfl

theorem keyView_voyageClear {s : State} (h : rising s.ct = true) : keyView s.voyageClear.ct = keyView s.ct := by
  have hcleared (c : Nat) : getD s.voyageClear.ct c Cabin.cold = { s.cabin c with occupants := [] } :=
    getD_mapD (fun r : Cabin => { r with occupants := [] }) rfl h c
  funext c
  unfold keyView
  rw [hcleared]
  rfl

/-! ### A lock handed over (R14) -/

theorem Segment.mem_pushed (c : Segment) (st x : Nat) : x ∈ (c.pushed st).pushes ↔ x ∈ c.pushes ∨ x = st := by
  unfold Segment.pushed
  by_cases h : st ∈ c.pushes
  · rw [if_pos (List.contains_iff_mem.mpr h)]
    exact ⟨Or.inl, fun hx => hx.elim id fun hx => hx ▸ h⟩
  · rw [if_neg fun hc => h (List.contains_iff_mem.mp hc)]
    simp

theorem Segment.nodup_pushed {c : Segment} (h : c.pushes.Nodup) (st : Nat) : (c.pushed st).pushes.Nodup := by
  unfold Segment.pushed
  by_cases hc : st ∈ c.pushes
  · rw [if_pos (List.contains_iff_mem.mpr hc)]
    exact h
  · rw [if_neg fun h => hc (List.contains_iff_mem.mp h)]
    exact List.nodup_append.mpr ⟨h, List.nodup_singleton st, fun x hx y hy => by
      rw [List.mem_singleton.mp hy]
      exact fun heq => hc (heq ▸ hx)⟩

theorem State.handPush_view (s : State) (g st h : Nat) :
    ((s.handPush g st).seg h).roster = (s.seg h).roster ∧
      ((s.handPush g st).seg h).pushes = if h = g then ((s.seg g).pushed st).pushes else (s.seg h).pushes := by
  rw [State.seg_handPush]
  by_cases hg : h = g
  · rw [if_pos hg, if_pos hg, hg]
    split <;> exact ⟨rfl, rfl⟩
  · rw [if_neg hg, if_neg hg]
    exact ⟨rfl, rfl⟩

theorem State.lock?_handPushIf (s : State) (lock : Option (Nat × Nat)) (h x : Nat) :
    (s.handPushIf lock).lock? h x = s.lock? h x := by
  cases lock with
  | none => rfl
  | some l => exact congrArg (fun roster => find? roster x) (s.handPush_view l.1 l.2 h).1

theorem State.mem_pushes_handPushIf (s : State) (lock : Option (Nat × Nat)) (h x : Nat) :
    x ∈ ((s.handPushIf lock).seg h).pushes ↔ x ∈ (s.seg h).pushes ∨ lock = some (h, x) := by
  cases lock with
  | none => simp [State.handPushIf]
  | some l =>
    obtain ⟨g, st⟩ := l
    rw [show ((s.handPushIf (some (g, st))).seg h).pushes = _ from (s.handPush_view g st h).2]
    by_cases hg : h = g
    · rw [if_pos hg, Segment.mem_pushed, hg]
      simp [eq_comm]
    · simp [hg, Ne.symm hg]

theorem State.nodup_pushes_handPushIf {s : State} (hs : ∀ g, (s.seg g).pushes.Nodup) (lock : Option (Nat × Nat))
    (h : Nat) : ((s.handPushIf lock).seg h).pushes.Nodup := by
  cases lock with
  | none => exact hs h
  | some l =>
    rw [show ((s.handPushIf (some l)).seg h).pushes = _ from (s.handPush_view l.1 l.2 h).2]
    split
    · exact Segment.nodup_pushed (hs _) _
    · exact hs h

namespace State.pushesHold

variable {s t : State}

theorem frame (h : s.pushesHold) (hsc : t.sc = s.sc := by simp) (hct : t.ct = s.ct := by simp) : t.pushesHold :=
  State.pushesHold_of_views h (congrArg pushView hsc) (congrArg keyView hct)

/-! ### Rekeys -/

theorem markBelow (h : s.pushesHold) (l : List Nat) (gen : Nat) : (s.markBelow l gen).pushesHold := h.frame

/-- R68: a cabin's generation raised, its lock put on the push list. -/
theorem regenerated (h : s.pushesHold) {c : Nat} (hlock? : ∀ g st, t.lock? g st = s.lock? g st)
    (hcabin : ∀ d, t.cabin d = if d = c then { s.cabin c with keyGen := (s.cabin c).keyGen + 1 } else s.cabin d)
    (hnodup : ∀ g, (t.seg g).pushes.Nodup)
    (hpushes : ∀ g x, x ∈ (t.seg g).pushes ↔ x ∈ (s.seg g).pushes ∨ (s.cabin c).lock = some (g, x)) : t.pushesHold := by
  obtain ⟨hnamed, -, hlaw⟩ := h
  have hlock (d : Nat) : (t.cabin d).lock = (s.cabin d).lock := by
    rw [hcabin]
    split
    · subst_vars
      rfl
    · rfl
  refine ⟨fun d g st => ?_, hnodup, fun g st k d a hk hkind hack => ?_⟩
  · rw [hlock, hnamed, hlock?]
  · rw [hlock?] at hk
    obtain ⟨hle, hmem⟩ := hlaw g st k d a hk hkind hack
    rw [hpushes, hcabin]
    by_cases hd : d = c
    · have hbound := (hnamed c g st).mpr ⟨k, hk, hd ▸ hkind⟩
      rw [if_pos hd]
      rw [hd] at hle
      exact ⟨hle.trans (Nat.le_succ _), fun _ => Nat.lt_succ_of_le hle, fun _ => Or.inr hbound⟩
    · rw [if_neg hd]
      refine ⟨hle, Iff.trans (or_iff_left fun hother => ?_) hmem⟩
      obtain ⟨k', hk', hkind'⟩ := (hnamed c g st).mp hother
      cases hk.symm.trans hk'
      cases hkind.symm.trans hkind'
      exact hd rfl

/-- R14, R68: a rekey raises the cabin's generation by 1, up to its top, and puts its lock on the push list. -/
theorem rekey (h : s.pushesHold) (c : Nat) : (s.rekey c).pushesHold := by
  by_cases hlt : (s.cabin c).keyGen < 65535
  · let s1 := s.setCabin c { s.cabin c with keyGen := (s.cabin c).keyGen + 1 }
    have hcabin (d : Nat) : (s1.handPushIf (s.cabin c).lock).cabin d = s1.cabin d :=
      congrArg (fun ct => getD ct d Cabin.cold) (s1.handPushIf_ct _)
    rw [State.rekey_of_lt hlt]
    exact markBelow (h.regenerated (s1.lock?_handPushIf _) (fun d => (hcabin d).trans (s.cabin_setCabin c d _))
      (State.nodup_pushes_handPushIf (s := s1) h.2.1 _) (s1.mem_pushes_handPushIf _)) _ _
  · rw [State.rekey_of_top hlt]
    exact h.markBelow _ _

theorem rekeyIf (h : s.pushesHold) (c : Option Nat) : (s.rekeyIf c).pushesHold := by
  cases c with
  | none => exact h
  | some n => exact h.rekey n

theorem leaveCabin (h : s.pushesHold) (p : Nat) : (s.leaveCabin p).pushesHold :=
  State.pushesHold_of_views h (by simp) (keyView_leaveCabin s p)

theorem removeAndRevoke (h : s.pushesHold) (p : Nat) : (s.removeAndRevoke p).pushesHold := by
  have hleft : ((s.leaveCabin p).revokeCardOf p).pushesHold := (h.leaveCabin p).frame
  unfold State.removeAndRevoke
  split
  · exact h
  · exact hleft.rekeyIf _

theorem amendPerson (h : s.pushesHold) (p : Nat) (a : Amendment) : (amendPerson p a s).1.pushesHold := by
  have hamended (r : Person) : (s.setPerson p r).pushesHold := h.frame
  have hout (r : Person) (old : Option Nat) : ((s.setPerson p r).moveOut p old).pushesHold := by
    unfold State.moveOut
    split
    · exact ((hamended r).leaveCabin p).rekey _
    · exact hamended r
  unfold Machine.amendPerson
  split
  · exact h
  · split
    · exact h
    · dsimp only
      split_ifs
      · exact h
      · exact h
      · exact h
      · dsimp only
        split
        · exact State.pushesHold_of_views (hout _ _) (by simp)
            ((congrArg keyView (State.modPerson_ct _ p _)).trans (keyView_joinCabin _ _ p))
        · exact hout _ _
      · exact hamended _

theorem issueCard (h : s.pushesHold) (p : Nat) (serial : Serial) : (issueCard p serial s).1.pushesHold := by
  have hissued {t : State} (ht : t.pushesHold) (serial : Serial) (e : Card) (f : Person → Person) :
      (((if Config.cardEntries ≤ t.ci.entries.length then t.evictOldest else t).setCard serial e).modPerson p
        f).pushesHold := by
    refine ht.frame ?_ ?_
    · rw [State.modPerson_sc, State.setCard_sc]
      split <;> simp
    · rw [State.modPerson_ct, State.setCard_ct]
      split <;> simp
  have hrevoked : (s.revokeCardOf p).pushesHold := h.frame
  unfold Machine.issueCard
  split
  · exact h
  · split
    · exact h
    · split_ifs
      · exact h
      · exact h
      · exact h
      · exact hissued (hrevoked.rekeyIf _) _ _ _
      · exact hissued h _ _ _

theorem revokeCard (h : s.pushesHold) (serial : Serial) : (revokeCard serial s).1.pushesHold := by
  have hrevoked : (s.revokeEntry serial).pushesHold := h.frame
  unfold Machine.revokeCard
  split
  · exact h
  · split
    · exact h
    · exact hrevoked.rekeyIf _

theorem rekeyCabin (h : s.pushesHold) (c : Nat) : (rekeyCabin c s).1.pushesHold := by
  unfold Machine.rekeyCabin
  dsimp only
  split_ifs
  · exact h
  · exact h
  · exact h
  · exact h.rekey c

theorem releasePerson (h : s.pushesHold) (p : Nat) (w : Bool) : (releasePerson p w s).1.pushesHold := by
  have hremoved := h.removeAndRevoke p
  unfold Machine.releasePerson
  split
  · exact h
  · split
    · exact h
    · split_ifs
      all_goals try exact h
      · exact hremoved.frame
      · exact hremoved.frame

theorem setPresence (h : s.pushesHold) (p : Nat) (new : Presence) : (setPresence p new s).1.pushesHold := by
  have hmoved : (s.movePresence p new).pushesHold := h.frame
  unfold Machine.setPresence
  split
  · exact h
  · split
    · exact h
    · dsimp only
      split_ifs
      · exact h
      · exact h
      · exact h
      · exact hmoved.removeAndRevoke p
      · exact hmoved

theorem cabinsStep (h : s.pushesHold) : s.cabinsStep.pushesHold := by
  unfold State.cabinsStep
  split
  · exact h.frame
  · dsimp only
    split_ifs
    · exact h.frame
    · exact h.frame
    · exact (h.rekey s.oe.cursor).frame

theorem disembarkStep (h : s.pushesHold) : s.disembarkStep.pushesHold := by
  unfold State.disembarkStep
  split
  · exact h.frame
  · split
    · exact h.frame
    · split_ifs
      · exact h.frame
      · exact h.frame
      · exact h.frame
      · exact h.frame
      · unfold State.disembark
        exact (h.removeAndRevoke s.oe.cursor).frame

theorem setCabin (h : s.pushesHold) (c : Nat) (inUse : Bool) (label : Nat) :
    (Machine.setCabin c inUse label s).1.pushesHold := by
  unfold Machine.setCabin
  dsimp only
  split_ifs
  · exact h
  · exact h
  · exact h
  · exact State.pushesHold_of_views h (by simp) (keyView_setCabin rfl rfl)

theorem admitPerson (h : s.pushesHold) (a : Admission) : (admitPerson a s).1.pushesHold := by
  have hadmitted : (s.setPerson a.person (admitted a s.sck.openDay)).pushesHold := h.frame
  unfold Machine.admitPerson
  split_ifs
  · exact h
  · exact h
  · exact h
  · exact h
  · dsimp only
    split
    · exact State.pushesHold_of_views hadmitted (by simp) ((congrArg keyView (State.setCounts_ct _ _)).trans
        (keyView_joinCabin _ _ _))
    · exact hadmitted.frame

end State.pushesHold
end Sys2Proof.Machine
end

section
/-! The push law under replies, enrolments and withdrawals (R65, R66, R69, R70). -/

namespace Sys2Proof.Machine

set_option Elab.async false

/-! ### The rules of the push list (R69, R70) -/

theorem mem_ackedPushes (st floor : Nat) (pushes : List Nat) (gen x : Nat) :
    x ∈ ackedPushes st floor pushes gen ↔ if x = st then floor < gen else x ∈ pushes := by
  unfold ackedPushes
  by_cases hlt : floor < gen <;> by_cases hx : x = st <;> simp [hlt, hx]

theorem nodup_ackedPushes {pushes : List Nat} (h : pushes.Nodup) (st floor gen : Nat) :
    (ackedPushes st floor pushes gen).Nodup := by
  unfold ackedPushes
  split
  · refine List.nodup_append.mpr ⟨h.filter _, List.nodup_singleton st, fun x hx y hy => ?_⟩
    rw [List.mem_singleton.mp hy]
    exact of_decide_eq_true (List.mem_filter.mp hx).2
  · exact h.filter _

/-- R69 step 3: at or above a lock's floor, only the lock's own entry is written. -/
theorem mem_reconcile {st floor gen : Nat} (h : floor ≤ gen) (pushes : List Nat) (x : Nat) :
    x ∈ reconcile pushes st floor gen ↔ if x = st then floor < gen else x ∈ pushes := by
  unfold reconcile
  by_cases hlt : floor < gen
  · by_cases hmem : st ∈ pushes
    · by_cases hx : x = st <;> simp [hlt, hmem, hx]
    · by_cases hx : x = st <;> simp [hlt, hmem, hx]
  · by_cases hx : x = st <;> simp [Nat.le_antisymm h (Nat.not_lt.mp hlt), hx]

theorem nodup_reconcile {pushes : List Nat} (h : pushes.Nodup) (st floor gen : Nat) :
    (reconcile pushes st floor gen).Nodup := by
  unfold reconcile
  split
  · exact Segment.nodup_pushed (c := { Segment.cold with pushes := pushes }) h st
  · split
    · exact h.filter _
    · exact h

/-- A rule of the push list keeps the law's reading of the list: the lock has an entry while it is below the generation,
and no other entry differs. -/
def keepsPushes (st floor : Nat) (rule : List Nat → Nat → List Nat) : Prop :=
  ∀ pushes gen, floor ≤ gen → pushes.Nodup →
    (rule pushes gen).Nodup ∧ ∀ x, x ∈ rule pushes gen ↔ if x = st then floor < gen else x ∈ pushes

theorem keepsPushes_ackedPushes (st floor : Nat) : keepsPushes st floor (ackedPushes st floor) :=
  fun pushes gen _ h => ⟨nodup_ackedPushes h st floor gen, mem_ackedPushes st floor pushes gen⟩

theorem keepsPushes_reconcile (st floor : Nat) :
    keepsPushes st floor fun pushes gen => reconcile pushes st floor gen :=
  fun pushes gen hle h => ⟨nodup_reconcile h st floor gen, mem_reconcile hle pushes⟩

/-! ### The bound lock (R65, R66) -/

theorem State.cabin_bindLock (s : State) (kind : LockKind) (l : Option (Nat × Nat)) (d : Nat) :
    (s.bindLock kind l).cabin d = if kind = .cabin d then { s.cabin d with lock := l } else s.cabin d := by
  unfold State.bindLock
  cases kind with
  | area a => simp [LockKind.cabin?]
  | cabin c =>
    refine (s.cabin_setCabin c d _).trans ?_
    by_cases hd : d = c
    · rw [if_pos hd, if_pos (congrArg LockKind.cabin hd.symm), hd]
    · rw [if_neg hd, if_neg fun h => hd (LockKind.cabin.inj h).symm]

/-- R65: an enrolment's writes, the window not yet derived. -/
def State.enrol (s : State) (g st : Nat) (kind : LockKind) : State :=
  (s.setLock g st (Machine.enrolled kind (s.seg g).wanted)).bindLock kind (some (g, st))

/-- R66: a withdrawal's writes, the window not yet derived. -/
def State.unenrol (s : State) (g st : Nat) (kind : LockKind) : State :=
  (s.modSeg g fun c => c.withdraw st).bindLock kind none

theorem State.seg_enrol (s : State) (g st h : Nat) (kind : LockKind) :
    (s.enrol g st kind).seg h =
      if h = g then { s.seg g with roster := insert (s.seg g).roster st (Machine.enrolled kind (s.seg g).wanted) }
      else s.seg h :=
  (congrArg (fun sc => getD sc h Segment.cold) (State.bindLock_sc _ kind _)).trans (s.seg_setLock g st h _)

theorem State.seg_unenrol (s : State) (g st h : Nat) (kind : LockKind) :
    (s.unenrol g st kind).seg h = if h = g then (s.seg g).withdraw st else s.seg h :=
  (congrArg (fun sc => getD sc h Segment.cold) (State.bindLock_sc _ kind _)).trans (s.seg_modSeg g h _)

theorem State.cabin_enrol (s : State) (g st d : Nat) (kind : LockKind) :
    (s.enrol g st kind).cabin d = if kind = .cabin d then { s.cabin d with lock := some (g, st) } else s.cabin d :=
  State.cabin_bindLock _ kind _ d

theorem State.cabin_unenrol (s : State) (g st d : Nat) (kind : LockKind) :
    (s.unenrol g st kind).cabin d = if kind = .cabin d then { s.cabin d with lock := none } else s.cabin d :=
  State.cabin_bindLock _ kind _ d

theorem State.lock?_enrol (s : State) (g st h x : Nat) (kind : LockKind) :
    (s.enrol g st kind).lock? h x =
      if h = g ∧ x = st then some (Machine.enrolled kind (s.seg g).wanted) else s.lock? h x := by
  unfold State.lock?
  rw [State.seg_enrol]
  by_cases hg : h = g
  · rw [if_pos hg, find?_insert, hg]
    exact if_congr (by simp) rfl rfl
  · rw [if_neg hg, if_neg fun hh => hg hh.1]

theorem State.lock?_unenrol (s : State) (g st h x : Nat) (kind : LockKind) :
    (s.unenrol g st kind).lock? h x = if h = g ∧ x = st then none else s.lock? h x := by
  unfold State.lock?
  rw [State.seg_unenrol]
  by_cases hg : h = g
  · rw [if_pos hg, Segment.withdraw, find?_erase, hg]
    exact if_congr (by simp) rfl rfl
  · rw [if_neg hg, if_neg fun hh => hg hh.1]

namespace State.pushesHold

variable {s t : State}

/-- R65: a cabin's lock is the one lock that names the cabin. -/
theorem unique (h : s.pushesHold) {g st g' st' c : Nat} {k k' : Lock} (hk : s.lock? g st = some k)
    (hkind : k.kind = .cabin c) (hk' : s.lock? g' st' = some k') (hkind' : k'.kind = .cabin c) : g' = g ∧ st' = st := by
  have hlock := (h.1 c g st).mpr ⟨k, hk, hkind⟩
  have hlock' := (h.1 c g' st').mpr ⟨k', hk', hkind'⟩
  cases hlock.symm.trans hlock'
  exact ⟨rfl, rfl⟩

/-! ### Acknowledgements -/

/-- R69, R70: the push list after a rule for a lock's floor. -/
theorem pushesAfter (h : s.pushesHold) {g st floor : Nat} {rule : List Nat → Nat → List Nat}
    (hrule : keepsPushes st floor rule) (kind : LockKind) :
    (s.pushesAfter g kind floor rule).Nodup ∧
      (∀ x, x ≠ st → (x ∈ s.pushesAfter g kind floor rule ↔ x ∈ (s.seg g).pushes)) ∧
      ∀ c, kind = .cabin c → (st ∈ s.pushesAfter g kind floor rule ↔ floor < (s.cabin c).keyGen) := by
  cases hc : kind.cabin? with
  | none =>
    rw [State.pushesAfter_area hc]
    exact ⟨h.2.1 g, fun _ _ => Iff.rfl, fun c hkind => absurd hkind (LockKind.cabin?_eq_none hc c)⟩
  | some c =>
    rw [State.pushesAfter_cabin hc]
    obtain ⟨hnodup, hmem⟩ := hrule (s.seg g).pushes (max (s.cabin c).keyGen floor) (le_max_right _ _) (h.2.1 g)
    refine ⟨hnodup, fun x hx => (hmem x).trans (by rw [if_neg hx]), fun d hkind => (hmem st).trans ?_⟩
    cases (LockKind.cabin?_eq_some.mp hc).symm.trans hkind
    rw [if_pos rfl, lt_max_iff]
    exact or_iff_left (lt_irrefl floor)

/-- R69, R70: a lock's floor recorded, its cabin raised to it, and its entry on the push list kept by the rule. -/
theorem acknowledged (h : s.pushesHold) {g st floor : Nat} {k l : Lock} {fetches : List Nat}
    {rule : List Nat → Nat → List Nat} (hrule : keepsPushes st floor rule) (hk : s.lock? g st = some k)
    (hwritten : s.lockWritten t g st l (s.pushesAfter g k.kind floor rule) fetches) (hkind : l.kind = k.kind)
    (hack : l.ackGen = some floor) (hct : t.ct = (s.floored k.kind floor).ct) : t.pushesHold := by
  obtain ⟨hl, hothers, hsegs, hseg⟩ := hwritten
  obtain ⟨hnodup, hmem, hst⟩ := h.pushesAfter hrule (g := g) k.kind
  have hpushes : (t.seg g).pushes = s.pushesAfter g k.kind floor rule := congrArg Segment.pushes hseg
  have hcabin (d : Nat) : t.cabin d = _ :=
    (congrArg (fun ct => getD ct d Cabin.cold) hct).trans (s.cabin_floored k.kind floor d)
  have hlock (d : Nat) : (t.cabin d).lock = (s.cabin d).lock := by
    rw [hcabin]
    split <;> rfl
  have hlock? (g' x : Nat) (hx : ¬(g' = g ∧ x = st)) : t.lock? g' x = s.lock? g' x := by
    by_cases hg : g' = g
    · subst hg
      exact hothers x fun hst => hx ⟨rfl, hst⟩
    · exact congrArg (fun c : Segment => find? c.roster x) (hsegs g' hg)
  refine ⟨fun d g' x => ?_, fun g' => ?_, fun g' x k' d a hk' hkind' hack' => ?_⟩
  · rw [hlock, h.1]
    by_cases hx : g' = g ∧ x = st
    · obtain ⟨rfl, rfl⟩ := hx
      rw [hk, hl]
      simp [hkind]
    · rw [hlock? g' x hx]
  · by_cases hg : g' = g
    · rw [hg, hpushes]
      exact hnodup
    · rw [hsegs g' hg]
      exact h.2.1 g'
  · by_cases hx : g' = g ∧ x = st
    · obtain ⟨rfl, rfl⟩ := hx
      cases hl.symm.trans hk'
      cases hack.symm.trans hack'
      have hcab := hkind.symm.trans hkind'
      rw [hpushes, hst d hcab, hcabin, if_pos (LockKind.cabin?_eq_some.mpr hcab), lt_max_iff]
      exact ⟨le_max_right _ _, (or_iff_left (lt_irrefl floor)).symm⟩
    · rw [hlock? g' x hx] at hk'
      have hother : ¬k.kind.cabin? = some d := fun hcab =>
        hx (h.unique hk (LockKind.cabin?_eq_some.mp hcab) hk' hkind')
      rw [hcabin, if_neg hother]
      refine ⟨(h.2.2 g' x k' d a hk' hkind' hack').1, Iff.trans ?_ (h.2.2 g' x k' d a hk' hkind' hack').2⟩
      by_cases hg : g' = g
      · rw [hg, hpushes]
        exact hmem x fun hxst => hx ⟨hg, hxst⟩
      · rw [hsegs g' hg]

theorem takePushAck (h : s.pushesHold) {g st : Nat} {k : Lock} (hk : s.lock? g st = some k) (floor : Nat) :
    (s.takePushAck g st k floor).pushesHold :=
  h.acknowledged (keepsPushes_ackedPushes st floor) hk (State.lockWritten_takePushAck hk floor) rfl rfl
    (by rw [State.takePushAck_frame])

theorem takePollReply (h : s.pushesHold) {g st : Nat} {k : Lock} (hk : s.lock? g st = some k) (r : PollReport) :
    (s.takePollReply g st k r).pushesHold :=
  h.acknowledged (keepsPushes_reconcile st r.floor) hk (State.lockWritten_takePollReply hk r) rfl rfl
    (by rw [State.takePollReply_frame])

/-! ### Enrolment and withdrawal -/

theorem enrol (h : s.pushesHold) {g st : Nat} {kind : LockKind} (hfree : s.lock? g st = none)
    (hcab : ∀ c, kind = .cabin c → (s.cabin c).lock = none) : (s.enrol g st kind).pushesHold := by
  have hpushes (g' : Nat) : ((s.enrol g st kind).seg g').pushes = (s.seg g').pushes := by
    rw [State.seg_enrol]
    split
    · subst_vars
      rfl
    · rfl
  have hunnamed (c : Nat) : (s.cabin c).lock ≠ some (g, st) := fun hlock => by
    obtain ⟨k, hk, -⟩ := (h.1 c g st).mp hlock
    cases hfree.symm.trans hk
  have hlock (c : Nat) : ((s.enrol g st kind).cabin c).lock =
      if kind = .cabin c then some (g, st) else (s.cabin c).lock := by
    rw [State.cabin_enrol]
    split <;> rfl
  refine ⟨fun c g' x => ?_, fun g' => hpushes g' ▸ h.2.1 g', fun g' x k c a hk hkind hack => ?_⟩
  · rw [hlock, State.lock?_enrol]
    by_cases hx : g' = g ∧ x = st
    · rw [if_pos hx]
      obtain ⟨rfl, rfl⟩ := hx
      by_cases hc : kind = .cabin c
      · rw [if_pos hc]
        exact ⟨fun _ => ⟨_, rfl, hc⟩, fun _ => rfl⟩
      · rw [if_neg hc]
        refine ⟨fun hlock => absurd hlock (hunnamed c), ?_⟩
        rintro ⟨k, hk, hkind⟩
        cases hk
        exact absurd hkind hc
    · rw [if_neg hx, ← h.1]
      by_cases hc : kind = .cabin c
      · rw [if_pos hc, hcab c hc]
        refine iff_of_false (fun heq => ?_) nofun
        cases heq
        exact hx ⟨rfl, rfl⟩
      · rw [if_neg hc]
  · rw [State.lock?_enrol] at hk
    by_cases hx : g' = g ∧ x = st
    · rw [if_pos hx] at hk
      cases hk
      cases hack
    · rw [if_neg hx] at hk
      have hgen : ((s.enrol g st kind).cabin c).keyGen = (s.cabin c).keyGen := by
        rw [State.cabin_enrol]
        split <;> rfl
      rw [hgen, hpushes]
      exact h.2.2 g' x k c a hk hkind hack

theorem unenrol (h : s.pushesHold) {g st : Nat} {k : Lock} (hk : s.lock? g st = some k) :
    (s.unenrol g st k.kind).pushesHold := by
  have hpushes (g' : Nat) : ((s.unenrol g st k.kind).seg g').pushes =
      if g' = g then (s.seg g').pushes.filter (· ≠ st) else (s.seg g').pushes := by
    rw [State.seg_unenrol]
    split
    · subst_vars
      rfl
    · rfl
  have hlock (c : Nat) : ((s.unenrol g st k.kind).cabin c).lock =
      if k.kind = .cabin c then none else (s.cabin c).lock := by
    rw [State.cabin_unenrol]
    split <;> rfl
  refine ⟨fun c g' x => ?_, fun g' => ?_, fun g' x k' c a hk' hkind' hack' => ?_⟩
  · rw [hlock, State.lock?_unenrol]
    by_cases hx : g' = g ∧ x = st
    · rw [if_pos hx]
      obtain ⟨rfl, rfl⟩ := hx
      refine iff_of_false (fun hlock => ?_) (by simp)
      by_cases hc : k.kind = .cabin c
      · rw [if_pos hc] at hlock
        cases hlock
      · rw [if_neg hc, h.1] at hlock
        obtain ⟨k', hk', hkind'⟩ := hlock
        cases hk.symm.trans hk'
        exact hc hkind'
    · rw [if_neg hx, ← h.1]
      by_cases hc : k.kind = .cabin c
      · rw [if_pos hc, (h.1 c g st).mpr ⟨k, hk, hc⟩]
        refine iff_of_false nofun fun heq => ?_
        cases heq
        exact hx ⟨rfl, rfl⟩
      · rw [if_neg hc]
  · rw [hpushes]
    split
    · exact (h.2.1 g').filter _
    · exact h.2.1 g'
  · rw [State.lock?_unenrol] at hk'
    by_cases hx : g' = g ∧ x = st
    · rw [if_pos hx] at hk'
      cases hk'
    · rw [if_neg hx] at hk'
      have hgen : ((s.unenrol g st k.kind).cabin c).keyGen = (s.cabin c).keyGen := by
        rw [State.cabin_unenrol]
        split <;> rfl
      have hmem : x ∈ ((s.unenrol g st k.kind).seg g').pushes ↔ x ∈ (s.seg g').pushes := by
        rw [hpushes]
        split
        · rename_i hg
          simp [show x ≠ st from fun hst => hx ⟨hg, hst⟩]
        · rfl
      rw [hgen, hmem]
      exact h.2.2 g' x k' c a hk' hkind' hack'

theorem deriveWindow (h : s.pushesHold) (g : Nat) : (s.deriveWindow g).pushesHold :=
  State.pushesHold_of_views h

theorem enrolLock (h : s.pushesHold) (g st : Nat) (kind : LockKind) : (enrolLock g st kind s).1.pushesHold := by
  unfold Machine.enrolLock
  split_ifs with _ hfree _ hbound
  · exact h
  · exact h
  · exact h
  · exact h
  · refine deriveWindow (h.enrol (by simpa using hfree) fun c hc => ?_) g
    subst hc
    simpa [LockKind.cabin?] using hbound

theorem withdrawLock (h : s.pushesHold) (g st : Nat) : (withdrawLock g st s).1.pushesHold := by
  unfold Machine.withdrawLock
  split
  · exact h
  · split
    · exact h
    · exact deriveWindow (h.unenrol ‹_›) g

/-! ### Resets -/

/-- R85, R23: with no segment and no cabin written nothing is enrolled, bound or listed. -/
theorem of_empty (hsc : t.sc = []) (hct : t.ct = []) : t.pushesHold := by
  have hseg (g : Nat) : t.seg g = Segment.cold := congrArg (fun sc => getD sc g Segment.cold) hsc
  have hcabin (c : Nat) : t.cabin c = Cabin.cold := congrArg (fun ct => getD ct c Cabin.cold) hct
  have hlock? (g st : Nat) : t.lock? g st = none := congrArg (fun c : Segment => find? c.roster st) (hseg g)
  refine ⟨fun c g st => ?_, fun g => ?_, fun g st k c a hk _ _ => ?_⟩
  · rw [hcabin, hlock?]
    exact iff_of_false nofun (by simp)
  · rw [hseg]
    exact List.nodup_nil
  · cases (hlock? g st).symm.trans hk

theorem sampleMuster (h : s.pushesHold) (was : Bool) : (s.sampleMuster was).pushesHold := by
  have hentered : (s.enterMuster was).pushesHold := State.pushesHold_of_views h
  have hleft : s.leaveMuster.pushesHold := State.pushesHold_of_views h
  unfold State.sampleMuster
  split
  · exact hentered
  · split
    · exact hleft
    · exact h

theorem expireReached (h : s.pushesHold) : (if s.deadlineReached then s.expireDeadline else s).pushesHold := by
  split
  · exact h.frame
  · exact h

theorem coldReset (s : State) : s.coldReset.pushesHold := sampleMuster (of_empty rfl rfl) false

theorem warmReset (h : s.pushesHold) (hsc : rising s.sc = true) : s.warmReset.pushesHold := by
  have hct : s.warmEffects.ct = s.ct := by simp [State.warmEffects]
  have hwarm : s.warmEffects.pushesHold :=
    State.pushesHold_of_views h (pushView_warmEffects hsc) (congrArg keyView hct)
  have hderived : s.warmEffects.deriveModes.pushesHold := hwarm.frame
  exact (hderived.sampleMuster s.sck.muster).expireReached

theorem markedReset (h : s.pushesHold) (hsc : rising s.sc = true) : s.markedReset.pushesHold := by
  unfold State.markedReset
  split
  · exact h.warmReset hsc
  · exact coldReset s

theorem loseMain (h : s.pushesHold) (hsc : rising s.sc = true) : s.loseMain.pushesHold :=
  State.pushesHold_of_views h
    (pushView_mapD (f := fun c => { c with outstanding := none }) rfl (fun _ => rfl) hsc) rfl

theorem regainMain (h : s.pushesHold) (hsc : rising s.sc = true) (level : Bool) : (s.regainMain level).pushesHold := by
  unfold State.regainMain
  dsimp only
  split
  · exact h.frame
  · exact markedReset h.frame hsc

theorem releaseReset (h : s.pushesHold) (hsc : rising s.sc = true) : s.releaseReset.pushesHold := by
  unfold State.releaseReset
  dsimp only
  split
  · exact h.frame
  · split
    · exact markedReset h.frame hsc
    · exact warmReset h.frame hsc

theorem clearAll (h : s.pushesHold) (hct : rising s.ct = true) : (clearAll s).1.pushesHold := by
  unfold Machine.clearAll
  split_ifs
  · exact h
  · exact h
  · exact h
  · exact State.pushesHold_of_views h rfl (keyView_voyageClear hct)

end State.pushesHold

end Sys2Proof.Machine
end

section
/-! Every step keeps the push law (R65, R66, R68). -/

namespace Sys2Proof.Machine

set_option Elab.async false

namespace State.pushesHold

variable {s t : State}

theorem onCommand {i : Instr} {tag : Tag} {owner : State → State × Reply} (howner : (owner s).1.pushesHold)
    (h : s.pushesHold) (ht : s.onCommand i tag owner = .next t) : t.pushesHold := by
  unfold State.onCommand at ht
  split at ht
  · cases ht
    exact howner.frame
  · cases ht
    exact h

theorem onEvent {due : Bool} {effect : State → State} (heffect : (effect s).pushesHold) (h : s.pushesHold)
    (ht : s.onEvent due effect = .next t) : t.pushesHold := by
  unfold State.onEvent at ht
  split at ht
  · cases ht
    exact heffect
  · cases ht
    exact h

theorem onFrame {i : Instr} {owner : Nat → Frame → State → State}
    (howner : ∀ n f s, s.pushesHold → (owner n f s).pushesHold) (h : s.pushesHold)
    (ht : s.onFrame i owner = .next t) : t.pushesHold := by
  unfold State.onFrame at ht
  split at ht
  · cases ht
    exact h
  · split at ht
    · cases ht
      exact h
    · rename_i s1 htake
      cases ht
      obtain ⟨hsc, hct⟩ := pushView_takeFrame htake
      exact howner _ _ _ (State.pushesHold_of_views h hsc (congrArg keyView hct))

theorem onRead (h : s.pushesHold) (n : Nat) (ht : s.onRead n = .next t) : t.pushesHold := by
  unfold State.onRead at ht
  split at ht <;> cases ht
  · exact h.frame
  · exact h

theorem commandWrite (h : s.pushesHold) (bs : List Byte) (ht : execCommandWrite bs s = .next t) : t.pushesHold := by
  unfold execCommandWrite at ht
  split at ht
  · cases ht
    exact h
  · split at ht
    · exact h.onRead _ ht
    · exact onEvent (effect := fun s => s.transaction _ _) (State.pushesHold_of_views h) h ht

theorem onReply (h : s.pushesHold) (g : Nat) (asked : Asked) (f : Frame) {take : State → State}
    (htake : ∀ s, s.pushesHold → (take s).pushesHold) : (s.onReply g asked f take).pushesHold := by
  have hended : (s.modSeg g fun c => { c with outstanding := none, unreachable := 0 }).pushesHold :=
    State.pushesHold_of_views h (pushView_modSeg s g)
  unfold State.onReply
  split
  · exact State.pushesHold_of_views h
  · dsimp only
    split
    · exact hended
    · exact htake _ hended

/-- A reply of an enrolled lock that ends its frame and goes on to its own rule. -/
theorem onLockReply (h : s.pushesHold) (g st : Nat) (asked : Asked) (f : Frame) {take : State → Lock → State}
    (htake : ∀ s k, s.pushesHold → s.lock? g st = some k → (take s k).pushesHold) :
    (s.onReply g asked f fun s => s.withLock g st fun k => take s k).pushesHold := by
  refine h.onReply g asked f fun s hs => ?_
  unfold State.withLock
  split
  · exact htake s _ hs ‹_›
  · exact hs

theorem onVenue (h : s.pushesHold) (f : Frame) (ref : Option TabRef) (category : Option Nat) {serve : State → Served}
    (hserve : (serve s).state.pushesHold) : (s.onVenue f ref category serve).pushesHold := by
  unfold State.onVenue
  split
  · exact State.pushesHold_of_views h
  · refine frame (s := (serve s).state) hserve ?_ ?_
    · rw [State.queueAnswer_sc]
      split
      · split <;> simp
      · rfl
    · rw [State.queueAnswer_ct]
      split
      · split <;> simp
      · rfl

theorem musterChange (h : s.pushesHold) (level : Bool) {taken : State → State} (htaken : (taken s).pushesHold) :
    (s.musterChange level taken).pushesHold := by
  unfold State.musterChange
  split
  · exact h
  · split
    · exact htaken
    · exact h.frame

/-- Every command and event keeps the push law. -/
theorem exec (h : s.pushesHold) (hsc : rising s.sc = true) (hct : rising s.ct = true) (i : Instr)
    (ht : exec i s = .next t) : t.pushesHold := by
  have command {i : Instr} {tag : Tag} {owner : State → State × Reply} (howner : (owner s).1.pushesHold)
      (ht : s.onCommand i tag owner = .next t) : t.pushesHold := onCommand howner h ht
  have event {due : Bool} {effect : State → State} (heffect : (effect s).pushesHold)
      (ht : s.onEvent due effect = .next t) : t.pushesHold := onEvent heffect h ht
  have pin {u : State} (hu : u.pushesHold) (ht : .next u = (.next t : Host.Outcome State Fault Refusal)) :
      t.pushesHold := by
    cases ht
    exact hu
  have pinIf {b : Bool} {u v : State} (hu : u.pushesHold) (hv : v.pushesHold)
      (ht : .next (if b then u else v) = (.next t : Host.Outcome State Fault Refusal)) : t.pushesHold := by
    cases b <;> cases ht
    · exact hv
    · exact hu
  have viewed {u : State} (hsc : pushView u.sc = pushView s.sc := by simp) (hct : u.ct = s.ct := by simp) :
      u.pushesHold := State.pushesHold_of_views h hsc (congrArg keyView hct)
  cases i <;> dsimp only [Machine.exec] at ht
  case admitPerson tag a => exact command (h.admitPerson a) ht
  case amendPerson tag p a => exact command (h.amendPerson p a) ht
  case releasePerson tag p w => exact command (h.releasePerson p w) ht
  case issueCard tag p serial => exact command (h.issueCard p serial) ht
  case revokeCard tag serial => exact command (h.revokeCard serial) ht
  case setCabin tag c u l => exact command (h.setCabin c u l) ht
  case rekeyCabin tag c => exact command (h.rekeyCabin c) ht
  case postPayment tag p a => exact command viewed ht
  case readPerson tag p => exact command viewed ht
  case readCard tag serial => exact command viewed ht
  case readCabin tag c => exact command viewed ht
  case setLane tag n point m => exact command viewed ht
  case setPermitWindow tag n => exact command viewed ht
  case setPresence tag p st => exact command (h.setPresence p st) ht
  case armDeadline tag time => exact command viewed ht
  case disarmDeadline tag => exact command viewed ht
  case readCounts tag => exact command viewed ht
  case enrolLock tag g st k => exact command (h.enrolLock g st k) ht
  case withdrawLock tag g st => exact command (h.withdrawLock g st) ht
  case setSegment tag g d sp w l => exact command viewed ht
  case retrainSegment tag g => exact command viewed ht
  case readSegment tag g f n => exact command viewed ht
  case allRelease tag g => exact command viewed ht
  case allRestore tag g => exact command viewed ht
  case bindTerminal tag m v => exact command viewed ht
  case setHold tag v b => exact command viewed ht
  case forceClose tag n => exact command viewed ht
  case setRestriction tag c v b => exact command viewed ht
  case setRefusalReporting tag v r n => exact command viewed ht
  case readTab tag n => exact command viewed ht
  case readTerminal tag m => exact command viewed ht
  case setVenue tag v row => exact command viewed ht
  case setClass tag c r k => exact command viewed ht
  case setTaxState tag x => exact command viewed ht
  case setCap tag c w => exact command viewed ht
  case readVenueSettings tag => exact command viewed ht
  case takePosting tag => exact command viewed ht
  case readQueueStatus tag => exact command viewed ht
  case startOperation tag k f l => exact command viewed ht
  case abortOperation tag => exact command viewed ht
  case readOperation tag => exact command viewed ht
  case setClock tag time => exact command viewed ht
  case clearAll tag => exact command (h.clearAll hct) ht
  case readClock tag => exact command viewed ht
  case enableLink tag n => exact command viewed ht
  case disableLink tag n => exact command viewed ht
  case retrainLink tag n => exact command viewed ht
  case readLink tag n => exact command viewed ht
  case readNotices tag => exact command viewed ht
  case clearNotices tag k => exact command viewed ht
  case setEnables tag k => exact command viewed ht
  case readFaults tag => exact command viewed ht
  case clearFaults tag k => exact command viewed ht
  case setMasks tag m v => exact command viewed ht
  case commandWrite bs => exact h.commandWrite bs ht
  case answerRead n => exact h.onRead n ht
  case linkFrameArrival n bs => exact event viewed ht
  case trainReply n k => exact event viewed ht
  case presentation g st tag serial gen bolt =>
    exact onFrame (fun _ f _ hs => State.pushesHold_of_views hs) h ht
  case pushAck g st tag floor =>
    exact onFrame (fun _ f _ hs => hs.onLockReply g st _ f fun _ _ hs hk => hs.takePushAck hk floor) h ht
  case pollReply g st tag r =>
    exact onFrame (fun _ f _ hs => hs.onLockReply g st _ f fun _ _ hs hk => hs.takePollReply hk r) h ht
  case logReply g st tag r =>
    exact onFrame (fun _ f _ hs => hs.onLockReply g st _ f fun _ _ hs _ => State.pushesHold_of_views hs) h ht
  case openTab st tag serial =>
    exact onFrame (fun _ f _ hs => hs.onVenue f _ _ (State.pushesHold_of_views hs)) h ht
  case addLine st tag ref c p q =>
    exact onFrame (fun _ f _ hs => hs.onVenue f _ _ (State.pushesHold_of_views hs)) h ht
  case voidLast st tag ref =>
    exact onFrame (fun _ f _ hs => hs.onVenue f _ _ (State.pushesHold_of_views hs)) h ht
  case closeTab st tag ref tip =>
    exact onFrame (fun _ f _ hs => hs.onVenue f _ _ (State.pushesHold_of_views hs)) h ht
  case quickSale st tag serial c p q tip =>
    exact onFrame (fun _ f _ hs => hs.onVenue f _ _ (State.pushesHold_of_views hs)) h ht
  case queryBalance st tag serial =>
    exact onFrame (fun _ f _ hs => hs.onVenue f _ _ (State.pushesHold_of_views hs)) h ht
  case scan n tag serial => exact onFrame (fun _ _ _ hs => State.pushesHold_of_views hs) h ht
  case passage n tag d => exact onFrame (fun _ _ _ hs => State.pushesHold_of_views hs) h ht
  case evidence => exact event viewed ht
  case permitExpiry n => exact event viewed ht
  case deadlineExpiry => exact event viewed ht
  case doorAnswer g => exact event viewed ht
  case broadcast g => exact event viewed ht
  case push g => exact event viewed ht
  case logFetch g => exact event viewed ht
  case poll g => exact event viewed ht
  case venueAnswer => exact event viewed ht
  case laneAnswer => exact event viewed ht
  case replyWaitExpiry g => exact event viewed ht
  case contactDeadline g st => exact event viewed ht
  case doze g => exact event viewed ht
  case train n => exact event viewed ht
  case trainingAttemptEnd n => exact event viewed ht
  case keepaliveSend n => exact event viewed ht
  case hubSilent n => exact event (viewed (pushView_recordFault s (bareFault .hubSilent n))) ht
  case musterEntry => exact pin (h.musterChange true viewed) ht
  case musterExit => exact pin (h.musterChange false viewed) ht
  case supmLoss => exact pinIf (h.loseMain hsc) h ht
  case supmReturn level => exact pinIf h (h.regainMain hsc level) ht
  case supbLoss => exact pin viewed ht
  case resetAssert => exact pin viewed ht
  case resetRelease => exact pinIf (h.releaseReset hsc) h ht
  case dayClosePersonsStep => exact event viewed ht
  case dayCloseCardsStep => exact event viewed ht
  case cabinRekeyStep => exact event h.cabinsStep ht
  case finalDisembarkStep => exact event h.disembarkStep ht
  case resend g => exact event viewed ht
  case supbReturn => exact pin viewed ht

end State.pushesHold

theorem State.rising_of_tablesCanonical {s : State} (h : s.tablesCanonical = true) :
    rising s.sc = true ∧ rising s.ct = true := by
  simp only [State.tablesCanonical, Bool.and_eq_true] at h
  exact ⟨rising_of_canonical (by tauto), rising_of_canonical (c := Cabin.cold) (by tauto)⟩

/-- Settles O15: commands, events and the millisecond each keep the law. -/
theorem stepKeepsPushes : Obligations.StepKeepsPushes := by
  intro s t htables h ht
  obtain ⟨hsc, hct⟩ := State.rising_of_tablesCanonical htables
  unfold step at ht
  split at ht
  · rename_i rest _
    have hrest : State.pushesHold { s with pending := rest } := h.frame
    exact hrest.exec hsc hct _ ht
  · unfold State.idle at ht
    split at ht
    · cases ht
      exact h.frame
    · split at ht
      · exact h.exec hsc hct _ ht
      · cases ht
        obtain ⟨hview, hcabins⟩ := pushView_tick s
        exact State.pushesHold_of_views h hview (congrArg keyView hcabins)

end Sys2Proof.Machine
end

section
/-! PUSH ACK, POLL REPLY and LOG REPLY (R66, R69, R70, R72, R74, R76, R77, R81). -/

namespace Sys2Proof.Machine

set_option Elab.async false

/-! ### The outstanding frame (R72) -/

/-- R72: an outstanding frame that a reply of this kind, station and tag answers. -/
def Outstanding.answeredBy (o : Outstanding) (asked : Asked) (st : Nat) (tag : Byte) : Prop :=
  o.asked = asked ∧ o.frame.station = st ∧ o.frame.tag = tag

/-- R72, R74: the outstanding frame ended by a good reply. -/
def State.replied (s : State) (g : Nat) : State := s.modSeg g fun c => { c with outstanding := none, unreachable := 0 }

theorem State.onReply_of_unexpected {s : State} {g : Nat} {asked : Asked} {f : Frame}
    (h : ∀ o, (s.seg g).outstanding = some o → ¬o.answeredBy asked f.station f.tag) (take : State → State) :
    s.onReply g asked f take = s.recordFault (frameFault .replyUnexpected (segLink g) f) := by
  have hnone : s.accepted? g asked f = none := by
    unfold State.accepted?
    split
    · exact if_neg (h _ ‹_›)
    · rfl
  unfold State.onReply
  rw [hnone]

theorem State.onReply_of_answer {s : State} {g : Nat} {asked : Asked} {f : Frame} {o : Outstanding}
    (ho : (s.seg g).outstanding = some o) (h : o.answeredBy asked f.station f.tag) (take : State → State) :
    s.onReply g asked f take = if o.withdrawn then s.replied g else take (s.replied g) := by
  have hsome : s.accepted? g asked f = some o := by
    unfold State.accepted?
    rw [ho]
    exact if_pos h
  unfold State.onReply
  rw [hsome]
  rfl

theorem State.seg_replied (s : State) (g h : Nat) :
    (s.replied g).seg h = if h = g then { s.seg g with outstanding := none, unreachable := 0 } else s.seg h :=
  s.seg_modSeg g h _

theorem State.lock?_replied (s : State) (g h x : Nat) : (s.replied g).lock? h x = s.lock? h x := by
  unfold State.lock?
  rw [State.seg_replied]
  split
  · subst_vars
    rfl
  · rfl

/-- R66: a reply for a station withdrawn meanwhile ends the frame alone. -/
theorem State.onReply_of_withdrawn {s : State} {g st : Nat} {asked : Asked} {f : Frame} {o : Outstanding}
    (ho : (s.seg g).outstanding = some o) (h : o.answeredBy asked f.station f.tag)
    (hgone : o.withdrawn = true ∨ s.lock? g st = none) (take : State → Lock → State) :
    (s.onReply g asked f fun t => t.withLock g st (take t)) = s.replied g := by
  rw [State.onReply_of_answer ho h]
  split
  · rfl
  · rename_i hkept
    unfold State.withLock
    rw [State.lock?_replied, hgone.resolve_left hkept]

/-- R72: a reply of an enrolled lock goes on to its own rule. -/
theorem State.onReply_of_enrolled {s : State} {g st : Nat} {asked : Asked} {f : Frame} {o : Outstanding} {k : Lock}
    (ho : (s.seg g).outstanding = some o) (h : o.answeredBy asked f.station f.tag) (hkept : o.withdrawn = false)
    (hk : s.lock? g st = some k) (take : State → Lock → State) :
    (s.onReply g asked f fun t => t.withLock g st (take t)) = take (s.replied g) k := by
  rw [State.onReply_of_answer ho h, hkept]
  unfold State.withLock
  rw [State.lock?_replied, hk]
  rfl

/-- R74: what a reply's rule leaves, read beside the frame that it ended. -/
theorem State.lockWritten.of_replied {s t : State} {g st : Nat} {l : Lock} {pushes fetches : List Nat}
    (h : (s.replied g).lockWritten t g st l pushes fetches) :
    t.lock? g st = some l ∧ (∀ x, x ≠ st → t.lock? g x = s.lock? g x) ∧ (∀ h, h ≠ g → t.seg h = s.seg h) ∧
      t.seg g = { s.seg g with
        roster := (t.seg g).roster, pushes := pushes, fetches := fetches, outstanding := none, unreachable := 0 } := by
  obtain ⟨hl, hothers, hsegs, hseg⟩ := h
  refine ⟨hl, fun x hx => (hothers x hx).trans (s.lock?_replied g g x), fun h hh => ?_, ?_⟩
  · rw [hsegs h hh, State.seg_replied, if_neg hh]
  · rw [State.seg_replied, if_pos rfl] at hseg
    exact hseg

/-! ### The lists as the rules lay them down -/

theorem State.pushesAfter_acked (s : State) (g st floor : Nat) (kind : LockKind) :
    s.pushesAfter g kind floor (ackedPushes st floor) =
      if kind.cabin? = none then (s.seg g).pushes
      else if floor < (kind.cabin?.map fun c => (s.cabin c).keyGen).getD 0 then
        (s.seg g).pushes.filter (· ≠ st) ++ [st]
      else (s.seg g).pushes.filter (· ≠ st) := by
  cases hc : kind.cabin? with
  | none => rw [State.pushesAfter_area hc, if_pos rfl]
  | some c =>
    rw [State.pushesAfter_cabin hc, if_neg nofun]
    exact if_congr (lt_max_iff.trans (or_iff_left (lt_irrefl floor))) rfl rfl

theorem reconcile_max (pushes : List Nat) (st floor gen : Nat) :
    reconcile pushes st floor (max gen floor) =
      if gen ≤ floor then pushes.filter (· ≠ st) else if st ∈ pushes then pushes else pushes ++ [st] := by
  unfold reconcile
  by_cases h : gen ≤ floor
  · simp [h]
  · simp [h]

theorem State.pushesAfter_reconciled (s : State) (g st floor : Nat) (kind : LockKind) :
    (s.pushesAfter g kind floor fun pushes gen => reconcile pushes st floor gen) =
      if kind.cabin? = none then (s.seg g).pushes
      else if (kind.cabin?.map fun c => (s.cabin c).keyGen).getD 0 ≤ floor then (s.seg g).pushes.filter (· ≠ st)
      else if st ∈ (s.seg g).pushes then (s.seg g).pushes else (s.seg g).pushes ++ [st] := by
  cases hc : kind.cabin? with
  | none => rw [State.pushesAfter_area hc, if_pos rfl]
  | some c =>
    rw [State.pushesAfter_cabin hc, if_neg nofun, reconcile_max]
    rfl

theorem settleFetch_eq (fetches : List Nat) (st count : Nat) :
    settleFetch fetches st count =
      if count = 0 then fetches.filter (· ≠ st) else if st ∈ fetches then fetches else fetches ++ [st] := by
  simp [settleFetch]

theorem settleRelease_eq (wanted reported : Bool) :
    settleRelease wanted reported =
      if wanted then (if reported then .released else .releasePending)
      else if reported then .restorePending else .normal := by
  cases wanted <;> cases reported <;> rfl

/-- The rules read the push list and the cabins as they stood before the frame was ended. -/
theorem State.pushesAfter_replied (s : State) (g floor : Nat) (kind : LockKind) (rule : List Nat → Nat → List Nat) :
    (s.replied g).pushesAfter g kind floor rule = s.pushesAfter g kind floor rule := by
  unfold State.pushesAfter
  rw [State.seg_replied, if_pos rfl]
  rfl

/-! ### Log entries (R55 to R59, R77) -/

/-- R57, R58: what an exposed log entry records. -/
def State.exposed (s : State) (g st : Nat) (r : LogReport) : State :=
  (s.append r.time ((s.card? r.serial).map (·.person)) s.sck.openDay
    (.access .exposure (.door g st) r.serial true)).raise .exposure

/-- R55: the card of a log entry is ACTIVE. -/
def State.loggedActive (s : State) (r : LogReport) : Bool := (s.card? r.serial).any fun e => e.state = .active

/-- R56: the evidence of a log entry. -/
def State.logEvidence (s : State) (g st : Nat) (r : LogReport) : List Evidence :=
  if r.present && r.granted && s.loggedActive r then
    [{ person := ((s.card? r.serial).map (·.person)).getD 0, time := r.time, serial := r.serial, source := .door g st
       offline := true }]
  else []

/-- R58: the state after a log entry, but for its evidence. -/
def State.logShown (s : State) (g st : Nat) (r : LogReport) : State :=
  if r.present && r.granted && !s.loggedActive r then s.exposed g st r else s

/-- R55 to R59: what a log reply hands to AU. -/
theorem State.logEntry_eq (s : State) (g st : Nat) (r : LogReport) :
    (if r.present then s.logEntry g st r.serial r.time r.granted else s) =
      (s.logShown g st r).withEvidence (s.pu.evidence ++ s.logEvidence g st r) := by
  have hkept : s.withEvidence (s.pu.evidence ++ []) = s := State.withEvidence_append_nil rfl
  have hexposed : (s.exposed g st r).withEvidence (s.pu.evidence ++ []) = s.exposed g st r :=
    State.withEvidence_append_nil (by simp [State.exposed])
  unfold State.logShown State.logEvidence
  cases hpresent : r.present with
  | false => exact hkept.symm
  | true =>
    unfold State.logEntry
    cases hgranted : r.granted with
    | false => exact hkept.symm
    | true =>
      unfold State.loggedActive
      cases hcard : s.card? r.serial with
      | none =>
        refine Eq.trans ?_ hexposed.symm
        unfold State.exposed
        rw [hcard]
        rfl
      | some e =>
        cases hstate : e.state with
        | active => simp [hstate]; rfl
        | revoked day =>
          refine Eq.trans ?_ (Eq.trans hexposed.symm ?_)
          · unfold State.exposed
            simp [hcard, hstate]
          · simp [hstate]

theorem State.exposed_withSegments (s : State) (sc : Table Segment) (g st : Nat) (r : LogReport) :
    (s.withSegments sc).exposed g st r = (s.exposed g st r).withSegments sc :=
  congrArg (·.raise .exposure) (s.append_withSegments sc _ _ _ _)

theorem State.logShown_withSegments (s : State) (sc : Table Segment) (g st : Nat) (r : LogReport) :
    (s.withSegments sc).logShown g st r = (s.logShown g st r).withSegments sc := by
  unfold State.logShown
  rw [State.exposed_withSegments]
  exact (apply_ite (fun t : State => t.withSegments sc) ..).symm

theorem State.logShown_kept (s : State) (g st : Nat) (r : LogReport) :
    (s.logShown g st r).pu = s.pu ∧ (s.logShown g st r).sc = s.sc := by
  unfold State.logShown
  split
  · simp [State.exposed]
  · exact ⟨rfl, rfl⟩

/-! ### The accepted log reply (R77) -/

/-- R77: what a log reply writes of the lock's record. -/
def Lock.logged (k : Lock) (now doze remaining : Nat) : Lock := { k.contact now doze with logCount := remaining }

theorem State.lockWritten_takeLogReply {s : State} {g st : Nat} {k : Lock} (hk : s.lock? g st = some k)
    (r : LogReport) :
    s.lockWritten (s.takeLogReply g st r) g st (k.logged s.sck.elapsed (s.seg g).dozeCount r.remaining)
      (s.seg g).pushes (if r.remaining = 0 then (s.seg g).fetches.filter (· ≠ st) else (s.seg g).fetches) := by
  have hsc : (if r.present then s.logEntry g st r.serial r.time r.granted else s).sc = s.sc := by
    rw [State.logEntry_eq]
    exact (s.logShown_kept g st r).2
  have hlock := ((State.lockWritten_self hk).of_sc hsc).modLock fun l =>
    l.logged s.sck.elapsed (s.seg g).dozeCount r.remaining
  unfold State.takeLogReply
  dsimp only
  split
  · exact hlock.modFetches fun fetches => fetches.filter (· ≠ st)
  · exact hlock

/-- R55 to R59, R77: a log reply hands on its entry and writes its segment. -/
theorem State.takeLogReply_frame (s : State) (g st : Nat) (r : LogReport) :
    s.takeLogReply g st r =
      ((s.logShown g st r).withEvidence (s.pu.evidence ++ s.logEvidence g st r)).withSegments
        (s.takeLogReply g st r).sc := by
  unfold State.takeLogReply
  rw [State.logEntry_eq]
  dsimp only
  split
  · apply State.eq_of_fields <;> simp [State.withSegments]
  · apply State.eq_of_fields <;> simp [State.withSegments]

/-! ### The steps -/

theorem exec_pushAck {s0 s : State} {g st floor : Nat} {tag : Byte} {f : Frame}
    (hi : (Instr.pushAck g st tag floor).stationFrame = some (segLink g, f)) (h : s0.takeFrame (segLink g) f = some s) :
    f.station = st ∧ f.tag = tag ∧ exec (.pushAck g st tag floor) s0 =
      .next (s.onReply g .push f fun t => t.withLock g st fun k => t.takePushAck g st k floor) := by
  cases hi
  exact ⟨rfl, rfl, State.onFrame_of_takeFrame (i := .pushAck g st tag floor) rfl h fun _ f t => t.onReply g .push f fun u => u.withLock g st fun k => u.takePushAck g st k floor⟩

theorem exec_pollReply {s0 s : State} {g st : Nat} {tag : Byte} {r : PollReport} {f : Frame}
    (hi : (Instr.pollReply g st tag r).stationFrame = some (segLink g, f)) (h : s0.takeFrame (segLink g) f = some s) :
    f.station = st ∧ f.tag = tag ∧ exec (.pollReply g st tag r) s0 =
      .next (s.onReply g .poll f fun t => t.withLock g st fun k => t.takePollReply g st k r) := by
  cases hi
  exact ⟨rfl, rfl, State.onFrame_of_takeFrame (i := .pollReply g st tag r) rfl h fun _ f t => t.onReply g .poll f fun u => u.withLock g st fun k => u.takePollReply g st k r⟩

theorem exec_logReply {s0 s : State} {g st : Nat} {tag : Byte} {r : LogReport} {f : Frame}
    (hi : (Instr.logReply g st tag r).stationFrame = some (segLink g, f)) (h : s0.takeFrame (segLink g) f = some s) :
    f.station = st ∧ f.tag = tag ∧ exec (.logReply g st tag r) s0 =
      .next (s.onReply g .logFetch f fun t => t.withLock g st fun _ => t.takeLogReply g st r) := by
  cases hi
  exact ⟨rfl, rfl, State.onFrame_of_takeFrame (i := .logReply g st tag r) rfl h fun _ f t => t.onReply g .logFetch f fun u => u.withLock g st fun _ => u.takeLogReply g st r⟩

/-- R66, R69, R70, R72, R76, R77: a reply goes to the rule of its kind, with the lock's record. -/
theorem exec_reply {s0 s : State} {g st : Nat} {tag : Byte} {i : Instr} {asked : Asked} {f : Frame}
    (hreply : asked = .push ∧ (∃ floor, i = .pushAck g st tag floor) ∨ asked = .poll ∧ (∃ r, i = .pollReply g st tag r) ∨
      asked = .logFetch ∧ ∃ r, i = .logReply g st tag r)
    (hi : i.stationFrame = some (segLink g, f)) (h : s0.takeFrame (segLink g) f = some s) :
    f.station = st ∧ f.tag = tag ∧ ∃ take : State → Lock → State,
      exec i s0 = .next (s.onReply g asked f fun t => t.withLock g st (take t)) ∧
        (∀ floor, i = .pushAck g st tag floor → take = fun t k => t.takePushAck g st k floor) ∧
        (∀ r, i = .pollReply g st tag r → take = fun t k => t.takePollReply g st k r) ∧
        ∀ r, i = .logReply g st tag r → take = fun t _ => t.takeLogReply g st r := by
  rcases hreply with ⟨rfl, floor, rfl⟩ | ⟨rfl, r, rfl⟩ | ⟨rfl, r, rfl⟩
  · obtain ⟨hst, htag, hrun⟩ := exec_pushAck hi h
    exact ⟨hst, htag, _, hrun, by rintro _ ⟨⟩; rfl, nofun, nofun⟩
  · obtain ⟨hst, htag, hrun⟩ := exec_pollReply hi h
    exact ⟨hst, htag, _, hrun, nofun, by rintro _ ⟨⟩; rfl, nofun⟩
  · obtain ⟨hst, htag, hrun⟩ := exec_logReply hi h
    exact ⟨hst, htag, _, hrun, nofun, nofun, by rintro _ ⟨⟩; rfl⟩

section

variable {s : State} {g st : Nat} {k : Lock}

/-- R16, R69 step 1: a state with the cabins and the persons of a raise to the floor. -/
theorem State.floored_reads {t : State} {kind : LockKind} {floor : Nat}
    (hct : t.ct = ((s.replied g).floored kind floor).ct) (hpt : t.pt = ((s.replied g).floored kind floor).pt) :
    (∀ c, t.cabin c = if kind.cabin? = some c then { s.cabin c with keyGen := max (s.cabin c).keyGen floor }
      else s.cabin c) ∧
      ∀ q, t.person? q = (s.person? q).map fun r => { r with
        reissueDue := r.reissueDue || kind.cabin?.any fun c => decide ((s.cabin c).keyGen < floor) &&
          decide (q ∈ (s.cabin c).occupants) && (s.activeGen? r).any fun a => a < floor } := by
  constructor
  · intro c
    exact (congrArg (fun ct => getD ct c Cabin.cold) hct).trans ((s.replied g).cabin_floored kind floor c)
  · intro q
    exact (congrArg (fun pt => find? pt q) hpt).trans ((s.replied g).person?_floored kind floor q)

/-- R72: the record that a reply's rule works on, as the segment's counters stood. -/
theorem State.replied_counters (s : State) (g : Nat) :
    ((s.replied g).seg g).dozeCount = (s.seg g).dozeCount ∧ ((s.replied g).seg g).wanted = (s.seg g).wanted ∧
      ((s.replied g).seg g).pushes = (s.seg g).pushes ∧ ((s.replied g).seg g).fetches = (s.seg g).fetches := by
  rw [State.seg_replied, if_pos rfl]
  exact ⟨rfl, rfl, rfl, rfl⟩

theorem State.lock?_replied_of (hk : s.lock? g st = some k) : (s.replied g).lock? g st = some k :=
  (s.lock?_replied g g st).trans hk

end

/-- Settles O56: each reply's rule is read off the state in which its frame has ended (R72, R74). -/
theorem lockRepliesSettle : Obligations.LockRepliesSettle := by
  intro g st tag i asked f s0 s hreply hi hframe
  obtain ⟨rfl, rfl, take, hrun, hpush, hpoll, hlog⟩ := exec_reply hreply hi hframe
  refine ⟨fun hnone => ?_, fun o ho hanswers => ⟨fun hgone => ?_, fun k hkept hk => ?_⟩⟩
  · exact hrun.trans (congrArg _ (State.onReply_of_unexpected hnone _))
  · exact hrun.trans (congrArg _ (State.onReply_of_withdrawn ho hanswers hgone take))
  · have hrun := hrun.trans (congrArg _ (State.onReply_of_enrolled ho hanswers hkept hk take))
    obtain ⟨hdoze, hwanted, hpushes, hfetches⟩ := s.replied_counters g
    have hk' := State.lock?_replied_of hk
    refine ⟨fun floor hfloor => ?_, fun r hr => ?_, fun r hr => ?_⟩
    · obtain rfl := hpush floor hfloor
      have hwritten := State.lockWritten_takePushAck hk' floor
      have hall := (s.replied g).takePushAck_frame g f.station k floor
      rw [hdoze, hfetches, State.pushesAfter_replied, State.pushesAfter_acked] at hwritten
      have hct := congrArg State.ct hall
      have hpt := congrArg State.pt hall
      refine ⟨_, hrun, State.floored_reads hct hpt, hwritten.of_replied, ?_⟩
      rw [hct, hpt]
      exact hall
    · obtain rfl := hpoll r hr
      have hwritten := State.lockWritten_takePollReply hk' r
      have hall := (s.replied g).takePollReply_frame g f.station k r
      rw [hdoze, hwanted, hfetches, State.pushesAfter_replied, State.pushesAfter_reconciled, settleFetch_eq] at hwritten
      unfold Lock.polled at hwritten
      rw [settleRelease_eq] at hwritten
      have hct := congrArg State.ct hall
      have hpt := congrArg State.pt hall
      refine ⟨_, hrun, State.floored_reads hct hpt, hwritten.of_replied, ?_⟩
      rw [hct, hpt]
      exact hall
    · obtain rfl := hlog r hr
      have hwritten := State.lockWritten_takeLogReply hk' r
      have hall := (s.replied g).takeLogReply_frame g f.station r
      have hshown : (s.replied g).logShown g f.station r = (s.logShown g f.station r).withSegments (s.replied g).sc :=
        s.logShown_withSegments _ g f.station r
      rw [hdoze, hpushes, hfetches] at hwritten
      rw [hshown] at hall
      have hpu := congrArg State.pu hall
      refine ⟨_, hrun, hwritten.of_replied, ?_, ?_⟩
      · exact hpu.trans (congrArg (fun u : PresenceUnit => { u with
          evidence := s.pu.evidence ++ s.logEvidence g f.station r }) (s.logShown_kept g f.station r).1)
      · rw [hpu]
        exact hall

end Sys2Proof.Machine
end

section
/-! ALL RELEASE and ALL RESTORE (R79, R80). -/

namespace Sys2Proof.Machine

set_option Elab.async false

theorem namedSegments_eq_none {g : Nat} (h3 : 3 < g) (hall : g ≠ 255) : namedSegments g = none := by
  unfold namedSegments
  rw [if_neg (Nat.not_le.mpr h3), if_neg hall]

theorem namedSegments_eq_some {g : Nat} {gs : List Nat} (h : g ≤ 3 ∧ gs = [g] ∨ g = 255 ∧ gs = [0, 1, 2, 3]) :
    namedSegments g = some gs := by
  unfold namedSegments
  rcases h with ⟨h3, rfl⟩ | ⟨rfl, rfl⟩
  · exact if_pos h3
  · rfl

/-- R80: both commands go through the segments they name, or are refused. -/
theorem exec_shift {s : State} {tag : Tag} {g : Nat} {rel : Bool} {i : Instr} (hacc : s.accepts i = true)
    (hi : i = .allRelease tag g ∧ rel = true ∨ i = .allRestore tag g ∧ rel = false) :
    (namedSegments g = none → exec i s = .next (s.answered tag .range [])) ∧
      ∀ gs, namedSegments g = some gs → exec i s = .next
        ((gs.foldl (State.shift rel) s).answered tag .ok (releaseBody (gs.foldl (State.shift rel) s) gs)) := by
  rcases hi with ⟨rfl, rfl⟩ | ⟨rfl, rfl⟩
  · have hrun := State.onCommand_of_accepts hacc tag (allRelease g)
    refine ⟨fun h => hrun.trans ?_, fun gs h => hrun.trans ?_⟩ <;> (unfold allRelease; rw [h]; rfl)
  · have hrun := State.onCommand_of_accepts hacc tag (allRestore g)
    refine ⟨fun h => hrun.trans ?_, fun gs h => hrun.trans ?_⟩ <;> (unfold allRestore; rw [h]; rfl)

theorem ReleaseState.shifted_eq (rel : Bool) (r : ReleaseState) :
    r.shifted rel = if rel then (if r = .normal ∨ r = .restorePending then .releasePending else r)
      else if r = .released ∨ r = .releasePending then .restorePending else r := by
  cases rel <;> cases r <;> rfl

/-- R80: the segments with one number each. -/
theorem nodup_of_namedSegments {g : Nat} {gs : List Nat} (h : namedSegments g = some gs) : gs.Nodup := by
  unfold namedSegments at h
  split at h
  · cases h
    exact List.nodup_singleton g
  · split at h
    · cases h
      decide
    · cases h

section

variable (s : State) (rel : Bool) {gs : List Nat} (hgs : gs.Nodup)
include hgs

/-- R79: LINK_CHANGE is raised where a named segment is in DOZE, and nothing else is. -/
theorem State.nfu_shift_foldl :
    (gs.foldl (State.shift rel) s).nfu =
      if gs.any fun g => (s.link (segLink g)).state = .doze then (s.raise .linkChange).nfu else s.nfu := by
  have hpending := (State.shift_foldl rel gs hgs s).2.2
  have hframe : (gs.foldl (State.shift rel) s).nfu =
      { s.nfu with pending := (gs.foldl (State.shift rel) s).nfu.pending } :=
    congrArg State.nfu (State.segmentsOnly_foldl rel gs s)
  split
  · rename_i hany
    refine hframe.trans (congrArg (fun p => { s.nfu with pending := p }) (BitVec.eq_of_getLsbD_eq fun k _ => ?_))
    rw [hpending, hany, Bool.and_true]
    exact (s.pending_raise .linkChange k).symm
  · rename_i hnone
    refine hframe.trans (congrArg (fun p => { s.nfu with pending := p }) (BitVec.eq_of_getLsbD_eq fun k _ => ?_))
    rw [hpending, Bool.eq_false_iff.mpr hnone, Bool.and_false, Bool.or_false]

/-- R80: the answer carries the wanted state that the command sets. -/
theorem State.releaseBody_shift_foldl :
    releaseBody (gs.foldl (State.shift rel) s) gs = gs.flatMap fun g =>
      be 1 ((gs.foldl (State.shift rel) s).link (segLink g)).state.code ++ flagByte rel := by
  have hwanted (g : Nat) (hg : g ∈ gs) : ((gs.foldl (State.shift rel) s).seg g).wanted = rel := by
    rw [(State.shift_foldl rel gs hgs s).2.1 g, if_pos hg, State.segShifted_eq]
  unfold releaseBody
  refine List.flatMap_congr fun g hg => ?_
  rw [hwanted g hg]
  cases rel <;> rfl

end

theorem State.answered_of_segmentsOnly {s u : State} (h : s.segmentsOnly u) (tag : Tag) (c : Code) (body : List Byte) :
    u.answered tag c body = { s with
      sc := u.sc, lk := u.lk, nfu := u.nfu, pp := { s.pp with port := .answered tag c body } } := by
  unfold State.segmentsOnly at h
  rw [h]
  rfl

/-- R79, R80: a segment that is shifted, as the record writes it. -/
theorem State.segShifted_written (s : State) (rel : Bool) (g : Nat) :
    s.segShifted rel g = { s.seg g with
      wanted := rel, due := if rel then .allRelease else .allRestore
      roster := (s.seg g).roster.map fun e => (e.1, { e.2 with
        release := if rel then
            (if e.2.release = .normal ∨ e.2.release = .restorePending then .releasePending else e.2.release)
          else if e.2.release = .released ∨ e.2.release = .releasePending then .restorePending else e.2.release })
      measure := if (s.link (segLink g)).state = .doze then
          { start := s.sck.elapsed, limit := dozeMs (s.seg g).dozeTimer }
        else (s.seg g).measure } := by
  simp only [← ReleaseState.shifted_eq]
  unfold State.segShifted
  split <;> rfl

/-- Settles O35, through what a run over distinct segments leaves. -/
theorem releaseAndRestore : Obligations.ReleaseAndRestore := by
  intro tag g rel i s hacc hi
  obtain ⟨hrange, hrun⟩ := exec_shift hacc hi
  refine ⟨fun h3 hall => hrange (namedSegments_eq_none h3 hall), fun gs hnamed => ?_⟩
  have hgs := namedSegments_eq_some hnamed
  have hnodup := nodup_of_namedSegments hgs
  obtain ⟨hlink, hseg, -⟩ := State.shift_foldl rel gs hnodup s
  have hwakes (n : Nat) : ((∃ g ∈ gs, n = segLink g) ∧ (s.link n).state = .doze) ↔
      2 ≤ n ∧ (gs.contains (n - 2) && decide ((s.link (segLink (n - 2))).state = .doze)) = true := by
    rw [Bool.and_eq_true, List.contains_iff_mem, decide_eq_true_iff]
    unfold segLink
    constructor
    · rintro ⟨⟨h, hmem, rfl⟩, hdoze⟩
      have hback : 2 + h - 2 = h := by omega
      rw [hback]
      exact ⟨Nat.le_add_right .., hmem, hdoze⟩
    · rintro ⟨hn, hmem, hdoze⟩
      have hback : 2 + (n - 2) = n := by omega
      rw [hback] at hdoze
      exact ⟨⟨_, hmem, hback.symm⟩, hdoze⟩
  have hnamed (h : Nat) (hmem : h ∈ gs) : (gs.contains h && decide ((s.link (segLink h)).state = .doze)) =
      decide ((s.link (segLink h)).state = .doze) := by
    rw [List.contains_iff_mem.mpr hmem, Bool.true_and]
  refine ⟨_, hrun gs hgs, fun h => (hseg h).trans ?_, fun n => (hlink n).trans (if_congr (hwakes n) rfl rfl), ?_, ?_, ?_⟩
  · split
    · rename_i hmem
      simp only [State.segShifted_written, hnamed h hmem, decide_eq_true_eq]
    · rfl
  · refine (s.nfu_shift_foldl rel hnodup).trans (if_congr ?_ rfl rfl)
    rw [List.any_eq_true, List.any_eq_true]
    exact exists_congr fun h => and_congr_right fun hmem => by rw [hnamed h hmem]
  · exact congrArg (Port.answered tag .ok) (s.releaseBody_shift_foldl rel hnodup)
  · exact State.answered_of_segmentsOnly (State.segmentsOnly_foldl rel gs s) tag .ok _

end Sys2Proof.Machine
end

section
/-! ENABLE, DISABLE and RETRAIN LINK and RETRAIN SEGMENT (R37, R83, R164, R169, R170). -/

namespace Sys2Proof.Machine

set_option Elab.async false

/-! ### Leaving service (R37, R83, R169) -/

theorem linkSeg?_eq_some {n g : Nat} : linkSeg? n = some g → n = segLink g := by
  unfold linkSeg? segLink
  split
  · rintro ⟨⟩
    omega
  · exact nofun

theorem State.permitsWithdrawn_none (s : State) : s.permitsWithdrawn s fun _ => false := by
  simp [State.permitsWithdrawn]

/-- R83, log 22: the segment of a link that leaves service. -/
def Segment.unserved (c : Segment) : Segment :=
  { c with outstanding := none, measure := { c.measure with limit := none } }

/-- R83, R169: the queues of a link that leaves service, and its segment's frame and measure. -/
def State.unqueued (s : State) (n : Nat) : State :=
  match linkSeg? n with
  | some g => (s.modLink n fun l => { l with intake := [], answers := [] }).modSeg g Segment.unserved
  | none => s.modLink n fun l => { l with intake := [], answers := [] }

theorem State.leaveService_of_idle {s : State} {n : Nat} (h : (s.link n).inService = false) : s.leaveService n = s := by
  unfold State.leaveService
  rw [h]
  rfl

theorem State.leaveService_of_serving {s : State} {n : Nat} (h : (s.link n).inService = true) :
    s.leaveService n = if n = glLink then (s.unqueued n).endPermits else s.unqueued n := by
  unfold State.leaveService State.unqueued
  rw [if_pos h]
  rfl

theorem State.link_unqueued (s : State) (n m : Nat) :
    (s.unqueued n).link m = if m = n then { s.link n with intake := [], answers := [] } else s.link m := by
  unfold State.unqueued
  split
  · exact s.link_setLink n m _
  · exact s.link_setLink n m _

theorem State.seg_unqueued {n : Nat} (hn : n ≤ 5) (s : State) (g : Nat) :
    (s.unqueued n).seg g = if n = segLink g then (s.seg g).unserved else s.seg g := by
  unfold State.unqueued
  split
  · rename_i h hseg
    refine (State.seg_modSeg _ h g Segment.unserved).trans ?_
    have hn := linkSeg?_eq_some hseg
    unfold segLink at hn ⊢
    by_cases hg : g = h
    · subst hg
      rw [if_pos rfl, if_pos hn]
      rfl
    · rw [if_neg hg, if_neg (by omega)]
      rfl
  · rename_i hnone
    unfold linkSeg? at hnone
    rw [if_neg]
    · rfl
    · unfold segLink
      rintro rfl
      simp at hnone
      omega

theorem State.unqueued_frame (s : State) (n : Nat) :
    s.unqueued n = { s with lk := (s.unqueued n).lk, sc := (s.unqueued n).sc } := by
  unfold State.unqueued
  split <;> rfl

theorem State.unqueued_pu_pt (s : State) (n : Nat) : (s.unqueued n).pu = s.pu ∧ (s.unqueued n).pt = s.pt := by
  rw [State.unqueued_frame]
  exact ⟨rfl, rfl⟩

/-- R37: leaving service withdraws permits on GL alone. -/
theorem State.leaveService_of_serving_reads {s : State} {n : Nat} (h : (s.link n).inService = true) :
    (s.leaveService n).lk = (s.unqueued n).lk ∧ (s.leaveService n).sc = (s.unqueued n).sc ∧
      s.permitsWithdrawn (s.leaveService n) fun _ => decide (n = 1) := by
  obtain ⟨hpu, hpt⟩ := s.unqueued_pu_pt n
  rw [State.leaveService_of_serving h]
  split
  · rename_i hgl
    refine ⟨State.endPermits_lk _, State.endPermits_sc _, ?_⟩
    rw [decide_eq_true (show n = 1 from hgl), State.endPermits_eq]
    exact State.permitsWithdrawn_of_eq (congrArg _ hpu.symm) hpt.symm rfl rfl (State.permitsWithdrawn_foldl _ _)
  · rename_i hgl
    refine ⟨rfl, rfl, ?_⟩
    rw [decide_eq_false (show ¬n = 1 from hgl)]
    exact State.permitsWithdrawn_of_eq rfl rfl (congrArg _ hpu) hpt s.permitsWithdrawn_none

theorem State.link_leaveService (s : State) (n m : Nat) :
    (s.leaveService n).link m = if m = n then { s.link n with
      intake := if (s.link n).inService then [] else (s.link n).intake
      answers := if (s.link n).inService then [] else (s.link n).answers } else s.link m := by
  cases h : (s.link n).inService with
  | false =>
    rw [State.leaveService_of_idle h]
    split
    · subst_vars
      rfl
    · rfl
  | true =>
    have hlk := (State.leaveService_of_serving_reads h).1
    exact (congrArg (fun lk => getD lk m Link.cold) hlk).trans (s.link_unqueued n m)

theorem State.serviceEnded_leaveService {n : Nat} (hn : n ≤ 5) (s : State) : s.serviceEnded (s.leaveService n) n := by
  unfold State.serviceEnded
  cases h : (s.link n).inService with
  | false =>
    rw [State.leaveService_of_idle h]
    exact ⟨fun g => (if_neg fun hserves => nomatch hserves.1).symm, s.permitsWithdrawn_none⟩
  | true =>
    obtain ⟨-, hsc, hpermits⟩ := State.leaveService_of_serving_reads h
    refine ⟨fun g => ?_, hpermits⟩
    exact ((congrArg (fun sc => getD sc g Segment.cold) hsc).trans (State.seg_unqueued hn s g)).trans
      (if_congr (by simp) rfl rfl)

theorem State.leaveService_frame (s : State) (n : Nat) :
    s.leaveService n = { s with
      lk := (s.leaveService n).lk, sc := (s.leaveService n).sc, pt := (s.leaveService n).pt
      pu := { s.pu with lanes := (s.leaveService n).pu.lanes } } := by
  apply State.eq_of_fields
  case pu => apply PresenceUnit.eq_of_fields <;> simp
  all_goals simp

/-! ### The change of state (R164) -/

/-- R164: a link as entered in a state. -/
def Link.changed (l : Link) (new : LinkState) (now : Nat) : Link :=
  { l with
    state := new, history := (l.state :: l.history).take 3, attempt := if new = .training then 1 else 0
    attemptStart := if new = .training then now else l.attemptStart, trains := 0 }

/-- R164: no notice is raised at DOWN and TRAINING. -/
theorem State.changeLink_of_quiet {new : LinkState} (h : new = .training ∨ new = .down) (s : State) (n : Nat) :
    s.changeLink n new = s.setLink n ((s.link n).changed new s.sck.elapsed) := by
  rcases h with rfl | rfl <;> rfl

theorem State.serviceEnded_of_eq {s t u : State} {n : Nat} (h : s.serviceEnded t n) (hsc : u.sc = t.sc)
    (hlanes : u.pu.lanes = t.pu.lanes) (hpt : u.pt = t.pt) : s.serviceEnded u n := by
  obtain ⟨hseg, hpermits⟩ := h
  refine ⟨fun g => ?_, State.permitsWithdrawn_of_eq rfl rfl hlanes hpt hpermits⟩
  exact (congrArg (fun sc => getD sc g Segment.cold) hsc).trans (hseg g)

/-- R164, R169: a link taken to DOWN or TRAINING, out of service where it was in service. -/
def State.withdrawnTo (s : State) (n : Nat) (new : LinkState) : State := (s.leaveService n).changeLink n new

section

variable {new : LinkState} (hnew : new = .training ∨ new = .down) (s : State) {n : Nat}
include hnew

theorem State.withdrawnTo_frame : s.withdrawnTo n new = { s with
    lk := (s.withdrawnTo n new).lk, sc := (s.withdrawnTo n new).sc, pt := (s.withdrawnTo n new).pt
    pu := { s.pu with lanes := (s.withdrawnTo n new).pu.lanes } } := by
  unfold State.withdrawnTo
  rw [State.changeLink_of_quiet hnew]
  exact congrArg (State.setLink · n _) (s.leaveService_frame n)

theorem State.link_withdrawnTo (m : Nat) :
    (s.withdrawnTo n new).link m = if m = n then { s.link n with
      state := new, history := ((s.link n).state :: (s.link n).history).take 3, trains := 0
      attempt := if new = .training then 1 else 0
      attemptStart := if new = .training then s.sck.elapsed else (s.link n).attemptStart
      intake := if (s.link n).inService then [] else (s.link n).intake
      answers := if (s.link n).inService then [] else (s.link n).answers } else s.link m := by
  unfold State.withdrawnTo
  rw [State.changeLink_of_quiet hnew, State.link_setLink, State.leaveService_sck, State.link_leaveService, if_pos rfl,
    State.link_leaveService]
  split <;> rfl

theorem State.serviceEnded_withdrawnTo (hn : n ≤ 5) : s.serviceEnded (s.withdrawnTo n new) n := by
  unfold State.withdrawnTo
  rw [State.changeLink_of_quiet hnew]
  exact State.serviceEnded_of_eq (State.serviceEnded_leaveService hn s) rfl rfl rfl

end

/-! ### The commands (R83, R170) -/

section

variable {s : State} {tag : Tag} {n : Nat} {i : Instr}

theorem exec_linkCommand_out_of_range (hacc : s.accepts i = true)
    (h : 5 < n ∧ (i = .enableLink tag n ∨ i = .disableLink tag n ∨ i = .retrainLink tag n) ∨
      3 < n ∧ i = .retrainSegment tag n) : exec i s = .next (s.answered tag .range []) := by
  rcases h with ⟨hn, hi⟩ | ⟨hn, rfl⟩
  · have hrange : (!linkOk n) = true := by simp [linkOk, hn]
    rcases hi with rfl | rfl | rfl
    · exact (State.onCommand_of_accepts hacc tag (enableLink n)).trans (by rw [enableLink, if_pos hrange]; rfl)
    · exact (State.onCommand_of_accepts hacc tag (disableLink n)).trans (by rw [disableLink, if_pos hrange]; rfl)
    · exact (State.onCommand_of_accepts hacc tag (retrainLink n)).trans (by rw [retrainLink, if_pos hrange]; rfl)
  · exact (State.onCommand_of_accepts hacc tag (retrainSegment n)).trans (by rw [retrainSegment, if_pos hn]; rfl)

/-- R170: the answer of a link command, over the state it leaves. -/
def State.linkAnswered (s t : State) (tag : Tag) (n : Nat) : State := t.answered tag .ok (be 1 (s.link n).state.code)

variable (hn : n ≤ 5) (hacc : s.accepts i = true)
include hn hacc

theorem exec_enableLink (hi : i = .enableLink tag n) :
    exec i s = .next (s.linkAnswered (if (s.link n).state = .down then s.changeLink n .training else s) tag n) := by
  subst hi
  refine (State.onCommand_of_accepts hacc tag (enableLink n)).trans ?_
  unfold enableLink
  rw [linkOk_of_le hn]
  rfl

theorem exec_disableLink (hi : i = .disableLink tag n) :
    exec i s = .next (s.linkAnswered (if (s.link n).state = .down then s else s.withdrawnTo n .down) tag n) := by
  subst hi
  refine (State.onCommand_of_accepts hacc tag (disableLink n)).trans ?_
  unfold disableLink
  rw [linkOk_of_le hn]
  rfl

/-- R83: RETRAIN SEGMENT is RETRAIN LINK of the segment's link. -/
theorem exec_retrain (hi : i = .retrainLink tag n ∨ 2 ≤ n ∧ i = .retrainSegment tag (n - 2)) :
    exec i s = .next (s.linkAnswered (s.retrain n) tag n) := by
  rcases hi with rfl | ⟨h2, rfl⟩
  · refine (State.onCommand_of_accepts hacc tag (retrainLink n)).trans ?_
    unfold retrainLink
    rw [linkOk_of_le hn]
    rfl
  · refine (State.onCommand_of_accepts hacc tag (retrainSegment (n - 2))).trans ?_
    have hlink : segLink (n - 2) = n := by
      unfold segLink
      omega
    unfold retrainSegment
    rw [if_neg (by omega), hlink]
    rfl

/-- R170: the commands that change the link's state take it out of service on the way. -/
theorem exec_linkChange {new : LinkState}
    (h : i = .enableLink tag n ∧ (s.link n).state = .down ∧ new = .training ∨
      i = .disableLink tag n ∧ (s.link n).state ≠ .down ∧ new = .down ∨
      (i = .retrainLink tag n ∨ 2 ≤ n ∧ i = .retrainSegment tag (n - 2)) ∧ (s.link n).state ≠ .training ∧
        new = .training) :
    (new = .training ∨ new = .down) ∧ exec i s = .next (s.linkAnswered (s.withdrawnTo n new) tag n) := by
  rcases h with ⟨hi, hdown, rfl⟩ | ⟨hi, hup, rfl⟩ | ⟨hi, htraining, rfl⟩
  · have hidle : (s.link n).inService = false := by simp [Link.inService, hdown]
    refine ⟨.inl rfl, (exec_enableLink hn hacc hi).trans ?_⟩
    unfold State.withdrawnTo
    rw [if_pos hdown, State.leaveService_of_idle hidle]
  · exact ⟨.inr rfl, (exec_disableLink hn hacc hi).trans (by rw [if_neg hup])⟩
  · refine ⟨.inl rfl, (exec_retrain hn hacc hi).trans ?_⟩
    unfold State.retrain
    rw [if_neg htraining]
    rfl

end

/-- Settles O36: a change takes the link out of service and enters the state; RETRAIN in TRAINING starts the attempts
again alone. -/
theorem linkCommands : Obligations.LinkCommands := by
  refine ⟨fun tag n i s hacc h => exec_linkCommand_out_of_range hacc h, fun tag n i s hn hacc => ?_⟩
  refine ⟨fun new h => ?_, fun hi htraining => ?_, fun h => ?_⟩
  · obtain ⟨hnew, hrun⟩ := exec_linkChange hn hacc h
    refine ⟨_, hrun, (s.link_withdrawnTo hnew n).trans (if_pos rfl),
      fun m hm => (s.link_withdrawnTo hnew m).trans (if_neg hm),
      State.serviceEnded_of_eq (s.serviceEnded_withdrawnTo hnew hn) rfl rfl rfl, ?_⟩
    exact congrArg (s.linkAnswered · tag n) (s.withdrawnTo_frame hnew)
  · have hretrain : s.retrain n = s.restartTraining n := by
      unfold State.retrain
      exact if_pos htraining
    refine ⟨_, exec_retrain hn hacc hi, ?_, fun m hm => ?_, ?_⟩ <;> rw [hretrain]
    · exact (s.link_setLink n n _).trans (if_pos rfl)
    · exact (s.link_setLink n m _).trans (if_neg hm)
    · rfl
  · rcases h with ⟨hi, hup⟩ | ⟨hi, hdown⟩
    · exact (exec_enableLink hn hacc hi).trans (by rw [if_neg hup]; rfl)
    · exact (exec_disableLink hn hacc hi).trans (by rw [if_pos hdown]; rfl)

end Sys2Proof.Machine
end

section
/-! What the transmit arbiter sends, one rule per sending (R53, R70, R71, R73, R75, R77, R79, R80, R90). -/

namespace Sys2Proof.Machine

set_option Elab.async false

/-! ### A frame goes out -/

/-- In `t` a frame has gone out on a link, and these answers wait there; no other link differs. -/
def State.frameSent (s t : State) (n : Nat) (f : Frame) (answers : List Frame) : Prop :=
  ∀ m, t.link m =
    if m = n then { s.link n with sent := f.bytes, lastSend := s.sck.elapsed, answers := answers } else s.link m

/-- In `t` a frame has gone out on a segment's link, the segment reads `c` and so many tags are drawn. -/
def State.stationSent (s t : State) (g : Nat) (f : Frame) (answers : List Frame) (c : Segment) (drawn : Nat) : Prop :=
  s.frameSent t (segLink g) f answers ∧ (∀ h, t.seg h = if h = g then c else s.seg h) ∧
    t = { s with lk := t.lk, sc := t.sc, tagCount := s.tagCount + drawn }

section stationSent

variable {s t : State} {g : Nat} {f : Frame} {answers : List Frame} {c : Segment} {drawn : Nat}

theorem State.frameSent_sendFrame (s : State) (n : Nat) (f : Frame) :
    s.frameSent (s.sendFrame n f) n f (s.link n).answers := fun m => s.link_setLink n m _

theorem State.seg_self (s : State) (g h : Nat) : s.seg h = if h = g then s.seg g else s.seg h := by
  split
  · subst_vars
    rfl
  · rfl

theorem State.stationSent_sendFrame (s : State) (g : Nat) (f : Frame) :
    s.stationSent (s.sendFrame (segLink g) f) g f (s.link (segLink g)).answers (s.seg g) 0 :=
  ⟨s.frameSent_sendFrame _ f, s.seg_self g, rfl⟩

theorem State.stationSent_drawTag (s : State) (g : Nat) (f : Frame) :
    s.stationSent (s.drawTag.sendFrame (segLink g) f) g f (s.link (segLink g)).answers (s.seg g) 1 :=
  ⟨s.frameSent_sendFrame _ f, s.seg_self g, rfl⟩

theorem State.stationSent.modSeg (h : s.stationSent t g f answers c drawn) (change : Segment → Segment) :
    s.stationSent (t.modSeg g change) g f answers (change c) drawn := by
  obtain ⟨hlink, hseg, hframe⟩ := h
  have hself : t.seg g = c := (hseg g).trans (if_pos rfl)
  refine ⟨hlink, fun x => ?_, congrArg (State.setSeg · g (change (t.seg g))) hframe⟩
  rw [State.seg_modSeg, hself]
  split
  · rfl
  · rename_i hx
    exact (hseg x).trans (if_neg hx)

/-- R79: a station frame starts the doze measure again. -/
theorem State.stationSent.restartMeasure (h : s.stationSent t g f answers c drawn) :
    s.stationSent (t.restartMeasure g) g f answers
      { c with measure := { start := s.sck.elapsed, limit := dozeMs c.dozeTimer } } drawn := by
  have hsck : t.sck = s.sck := by
    obtain ⟨-, -, hframe⟩ := h
    rw [hframe]
  unfold State.restartMeasure
  rw [hsck]
  exact h.modSeg fun c => { c with measure := { start := s.sck.elapsed, limit := dozeMs c.dozeTimer } }

end stationSent

/-! ### The turns of the arbiter (R71) -/

theorem Segment.oldestServable_of_first {c : Segment} {list before after : List Nat} {st : Nat}
    (hlist : list = before ++ st :: after) (hbefore : ∀ x ∈ before, c.servable x = false) (hst : c.servable st = true) :
    c.oldestServable list = some st := by
  have hskipped : before.find? c.servable = none := List.find?_eq_none.mpr fun x hx => by simp [hbefore x hx]
  unfold Segment.oldestServable
  rw [hlist, List.find?_append, hskipped, Option.none_or, List.find?_cons_of_pos hst]

theorem Segment.oldestServable_of_none {c : Segment} {list : List Nat} (h : ∀ x ∈ list, c.servable x = false) :
    c.oldestServable list = none := List.find?_eq_none.mpr fun x hx => by simp [h x hx]

section turns

variable {s : State} {g : Nat}

theorem State.answerReady_of_waiting {n : Nat} {f : Frame} {rest : List Frame} (hup : (s.link n).state = .up)
    (hwaiting : (s.link n).answers = f :: rest) : s.answerReady n = true := by
  simp [State.answerReady, hup, hwaiting]

variable (hup : (s.link (segLink g)).state = .up)
include hup

theorem State.pastBroadcast_iff :
    s.pastBroadcast g = true ↔ (s.link (segLink g)).answers = [] ∧ (s.seg g).due = .none := by
  simp [State.pastBroadcast, State.segUp, hup]

variable (hnone : (s.link (segLink g)).answers = [])
include hnone

theorem State.broadcastReady_of_due (hdue : (s.seg g).due ≠ .none) : s.broadcastReady g = true := by
  simp [State.broadcastReady, State.segUp, hup, hnone, hdue]

variable (hdue : (s.seg g).due = .none)
include hdue

theorem State.resendReady_of_held {o : Outstanding} (ho : (s.seg g).outstanding = some o) (hheld : o.waitEnd = none) :
    s.resendReady g = true := by
  simp [State.resendReady, (State.pastBroadcast_iff hup).mpr ⟨hnone, hdue⟩, ho, hheld]

variable (hfree : (s.seg g).outstanding = none)
include hfree

theorem State.pushTurn_of_free : s.pushTurn g = true := by
  simp [State.pushTurn, (State.pastBroadcast_iff hup).mpr ⟨hnone, hdue⟩, hfree]

theorem State.pushReady_of_oldest {st : Nat} (hst : (s.seg g).oldestServable (s.seg g).pushes = some st) :
    s.pushReady g = true := by
  simp [State.pushReady, State.pushTurn_of_free hup hnone hdue hfree, hst]

variable (hpushes : (s.seg g).oldestServable (s.seg g).pushes = none)
include hpushes

theorem State.fetchTurn_of_unpushed : s.fetchTurn g = true := by
  simp [State.fetchTurn, State.pushTurn_of_free hup hnone hdue hfree, hpushes]

theorem State.fetchReady_of_oldest {st : Nat} (hst : (s.seg g).oldestServable (s.seg g).fetches = some st) :
    s.fetchReady g = true := by
  simp [State.fetchReady, State.fetchTurn_of_unpushed hup hnone hdue hfree hpushes, hst]

theorem State.pollReady_of_spaced (hfetches : (s.seg g).oldestServable (s.seg g).fetches = none)
    (hspaced : ∀ t, (s.seg g).lastPoll = some t → t + (s.seg g).spacing ≤ s.sck.elapsed) {st : Nat}
    (hst : (s.seg g).sweepStation? = some st) : s.pollReady g = true := by
  have hpassed : ((s.seg g).lastPoll.all fun t => decide (t + (s.seg g).spacing ≤ s.sck.elapsed)) = true := by
    cases hlast : (s.seg g).lastPoll with
    | none => rfl
    | some t => exact decide_eq_true (hspaced t hlast)
  simp [State.pollReady, State.pollTurn, State.fetchTurn_of_unpushed hup hnone hdue hfree hpushes, hfetches, hst, hpassed]

end turns

/-! ### The sweep (R75) -/

/-- In a rising list the search ends at the least entry that is looked for. -/
theorem find?_eq_some_of_least {l : List Nat} {p : Nat → Bool} {a : Nat} (hl : l.Pairwise (· < ·)) (ha : a ∈ l)
    (hp : p a = true) (hleast : ∀ x ∈ l, p x = true → a ≤ x) : l.find? p = some a := by
  obtain ⟨x, hx⟩ := Option.isSome_iff_exists.mp (List.find?_isSome.mpr ⟨a, ha, hp⟩)
  obtain ⟨hpx, before, after, rfl, hbefore⟩ := List.find?_eq_some_iff_append.mp hx
  have hax : a ≤ x := hleast x (List.mem_append_right _ List.mem_cons_self) hpx
  have hnot : a ∉ before := fun hmem => by simpa [hp] using hbefore a hmem
  have hafter := (List.pairwise_cons.mp (List.pairwise_append.mp hl).2.1).1 a
  rw [hx, (List.mem_cons.mp ((List.mem_append.mp ha).resolve_left hnot)).resolve_right fun hmem =>
    absurd (hafter hmem) (Nat.not_lt.mpr hax)]

theorem head?_eq_find? (l : List Nat) : l.head? = l.find? fun _ => true := by
  cases l <;> rfl

/-- R75: the station that the sweep polls: the least eligible one from the cursor on, or the least of all where none
is. -/
theorem Segment.sweepStation?_eq_some {c : Segment} {st : Nat} {k : Lock} (hroster : rising c.roster = true)
    (hmem : (st, k) ∈ c.roster) (heligible : k.eligible = true)
    (hnext : c.cursor ≤ st ∧ (∀ e ∈ c.roster, e.2.eligible = true → c.cursor ≤ e.1 → st ≤ e.1) ∨
      st < c.cursor ∧ ∀ e ∈ c.roster, e.2.eligible = true → e.1 < c.cursor ∧ st ≤ e.1) :
    c.sweepStation? = some st := by
  have hrises : ((c.roster.filter fun e => e.2.eligible).map (·.1)).Pairwise (· < ·) :=
    List.pairwise_map.mpr (((rising_iff _).mp hroster).filter _)
  have hlisted : st ∈ (c.roster.filter fun e => e.2.eligible).map (·.1) :=
    List.mem_map.mpr ⟨(st, k), List.mem_filter.mpr ⟨hmem, heligible⟩, rfl⟩
  have heach {p : Nat → Prop} (h : ∀ e ∈ c.roster, e.2.eligible = true → p e.1) :
      ∀ x ∈ (c.roster.filter fun e => e.2.eligible).map (·.1), p x := by
    intro x hx
    obtain ⟨e, he, rfl⟩ := List.mem_map.mp hx
    obtain ⟨heroster, hok⟩ := List.mem_filter.mp he
    exact h e heroster hok
  unfold Segment.sweepStation?
  dsimp only
  rcases hnext with ⟨hcursor, hleast⟩ | ⟨-, hwraps⟩
  · rw [find?_eq_some_of_least hrises hlisted (decide_eq_true hcursor) fun x hx hle =>
      heach (p := fun y => c.cursor ≤ y → st ≤ y) hleast x hx (of_decide_eq_true hle)]
  · have hpast : ((c.roster.filter fun e => e.2.eligible).map (·.1)).find? (fun st => decide (c.cursor ≤ st)) = none :=
      List.find?_eq_none.mpr fun x hx => by
        have hlt := heach (p := (· < c.cursor)) (fun e he hok => (hwraps e he hok).1) x hx
        simpa using hlt
    rw [hpast, head?_eq_find?]
    exact find?_eq_some_of_least hrises hlisted rfl fun x hx _ => heach (fun e he hok => (hwraps e he hok).2) x hx

/-! ### The sendings -/

section sendings

variable {s : State} {g : Nat}

/-- R53, R90: the oldest answer goes out on its link. -/
theorem State.frameSent_sendAnswer {n : Nat} {f : Frame} {rest : List Frame} (h : (s.link n).answers = f :: rest) :
    s.frameSent (s.sendAnswer n) n f rest ∧ s.sendAnswer n = { s with lk := (s.sendAnswer n).lk } := by
  unfold State.sendAnswer
  rw [h]
  refine ⟨fun m => ?_, rfl⟩
  refine ((State.link_setLink _ n m _).trans ?_)
  unfold State.modLink
  simp only [State.link_setLink, if_pos]
  split <;> rfl

/-- R53, R79: on a segment an answer starts the doze measure again. -/
theorem State.stationSent_sendDoorAnswer {f : Frame} {rest : List Frame}
    (h : (s.link (segLink g)).answers = f :: rest) :
    s.stationSent (s.sendDoorAnswer g) g f rest
      { s.seg g with measure := { start := s.sck.elapsed, limit := dozeMs (s.seg g).dozeTimer } } 0 := by
  obtain ⟨hsent, hframe⟩ := State.frameSent_sendAnswer h
  have hstation : s.stationSent (s.sendAnswer (segLink g)) g f rest (s.seg g) 0 := by
    refine ⟨hsent, fun x => ?_, ?_⟩
    · rw [hframe]
      exact s.seg_self g x
    · rw [State.sendAnswer_sc]
      exact hframe
  have hdoor : s.sendDoorAnswer g = (s.sendAnswer (segLink g)).restartMeasure g := by
    unfold State.sendDoorAnswer State.sendAnswer
    rw [h]
    rfl
  rw [hdoor]
  exact hstation.restartMeasure

/-- R80: the due broadcast goes out. -/
theorem State.stationSent_sendBroadcast (hdue : (s.seg g).due ≠ .none) :
    s.stationSent (s.sendBroadcast g) g
      { station := 0, kind := 0x18, tag := s.nextTag, body := [if (s.seg g).due = .allRelease then 0 else 1] }
      (s.link (segLink g)).answers
      { s.seg g with due := .none
                     measure := { start := s.sck.elapsed, limit := dozeMs (s.seg g).dozeTimer } } 1 := by
  have hsend : s.sendBroadcast g = (s.drawTag.modSeg g fun c => { c with due := .none }).sendStation g
      { station := 0, kind := 0x18, tag := s.nextTag, body := [if (s.seg g).due = .allRelease then 0 else 1] } := by
    unfold State.sendBroadcast
    cases h : (s.seg g).due with
    | none => exact absurd h hdue
    | allRelease => rfl
    | allRestore => rfl
  rw [hsend]
  exact ((s.stationSent_drawTag g _).modSeg fun c => { c with due := .none }).restartMeasure

/-- R73: a frame sent for the so manyth time, and its wait. -/
def Outstanding.asking (asked : Asked) (f : Frame) (sendings now : Nat) : Outstanding :=
  { asked := asked, frame := f, sendings := sendings, waitEnd := some (now + 40), withdrawn := false }

/-- R71, R73: the first sending of a frame that expects a reply. -/
theorem State.stationSent_sendAsked (s : State) (g : Nat) (asked : Asked) (f : Frame) :
    s.stationSent (s.sendAsked g asked f) g f (s.link (segLink g)).answers
      { s.seg g with outstanding := some (.asking asked f 1 s.sck.elapsed) } 1 :=
  (s.stationSent_drawTag g f).modSeg fun c => { c with outstanding := some (.asking asked f 1 s.sck.elapsed) }

/-- R70: the oldest servable push entry, with its cabin's key generation. -/
theorem State.stationSent_sendPush {st : Nat} {k : Lock}
    (hst : (s.seg g).oldestServable (s.seg g).pushes = some st) (hk : s.lock? g st = some k) :
    s.stationSent (s.sendPush g) g
      { station := st, kind := 0x12, tag := s.nextTag
        body := be 2 ((k.kind.cabin?.map fun n => (s.cabin n).keyGen).getD 0) }
      (s.link (segLink g)).answers
      { s.seg g with
        outstanding := some (.asking .push { station := st, kind := 0x12, tag := s.nextTag
                                             body := be 2 ((k.kind.cabin?.map fun n => (s.cabin n).keyGen).getD 0) } 1
          s.sck.elapsed)
        measure := { start := s.sck.elapsed, limit := dozeMs (s.seg g).dozeTimer } } 1 := by
  have hvalue : s.pushValue g st = (k.kind.cabin?.map fun n => (s.cabin n).keyGen).getD 0 := by
    unfold State.pushValue
    rw [hk, Option.bind_some]
    cases k.kind.cabin? <;> rfl
  rw [← hvalue]
  unfold State.sendPush
  rw [hst]
  exact (s.stationSent_sendAsked g .push _).restartMeasure

/-- R77: the oldest servable fetch entry. -/
theorem State.stationSent_sendFetch {st : Nat} (hst : (s.seg g).oldestServable (s.seg g).fetches = some st) :
    s.stationSent (s.sendFetch g) g { station := st, kind := 0x16, tag := s.nextTag, body := [] }
      (s.link (segLink g)).answers
      { s.seg g with
        outstanding := some (.asking .logFetch { station := st, kind := 0x16, tag := s.nextTag, body := [] } 1
          s.sck.elapsed)
        measure := { start := s.sck.elapsed, limit := dozeMs (s.seg g).dozeTimer } } 1 := by
  unfold State.sendFetch
  rw [hst]
  exact (s.stationSent_sendAsked g .logFetch _).restartMeasure

/-- R75, R79: the sweep's POLL, which does not start the doze measure again. -/
theorem State.stationSent_sendPoll {st : Nat} (hst : (s.seg g).sweepStation? = some st) :
    s.stationSent (s.sendPoll g) g
      { station := st, kind := 0x14, tag := s.nextTag, body := be 4 s.sck.clock ++ flagByte (s.seg g).wanted }
      (s.link (segLink g)).answers
      { s.seg g with
        outstanding := some (.asking .poll
          { station := st, kind := 0x14, tag := s.nextTag, body := be 4 s.sck.clock ++ flagByte (s.seg g).wanted } 1
          s.sck.elapsed)
        cursor := if st < 600 then st + 1 else 1, lastPoll := some s.sck.elapsed } 1 := by
  unfold State.sendPoll
  rw [hst]
  exact (s.stationSent_sendAsked g .poll _).modSeg fun c =>
    { c with cursor := nextCursor st, lastPoll := some s.sck.elapsed }

/-- R71, R73: a frame sent again, with its tag and body. -/
theorem State.stationSent_resendFrame (s : State) (g : Nat) (o : Outstanding) :
    s.stationSent (s.resendFrame g o) g o.frame (s.link (segLink g)).answers
      { s.seg g with
        outstanding := some { o with sendings := o.sendings + 1, waitEnd := some (s.sck.elapsed + 40) }
        measure := if o.asked = .poll then (s.seg g).measure
          else { start := s.sck.elapsed, limit := dozeMs (s.seg g).dozeTimer } } 0 := by
  have hsent := (s.stationSent_sendFrame g o.frame).modSeg fun c => { c with
    outstanding := some { o with sendings := o.sendings + 1, waitEnd := some (s.sck.elapsed + 40) } }
  unfold State.resendFrame
  split
  · exact hsent
  · exact hsent.restartMeasure

end sendings

end Sys2Proof.Machine
end

section
/-! The end of a reply wait (R66, R73, R74), and the arbiter's order (R71). -/

namespace Sys2Proof.Machine

set_option Elab.async false

/-! ### After the fourth sending (R66, R73, R74) -/

theorem State.setSeg_setSeg {a : Segment} (h : a ≠ Segment.cold) (s : State) (g : Nat) (b : Segment) :
    (s.setSeg g a).setSeg g b = s.setSeg g b := by
  unfold State.setSeg
  dsimp only
  rw [setD_setD h]

theorem Segment.ne_cold_of_enrolled {c : Segment} {st : Nat} {k : Lock} (h : find? c.roster st = some k) :
    c ≠ Segment.cold := by
  rintro rfl
  cases h

/-- R184: REPLY_TIMEOUT is not SEVERE, and writes the fault registers and its notice alone. -/
theorem State.recordFault_of_timeout {r : FaultRecord} (h : r.kind = .replyTimeout) (s : State) :
    s.recordFault r = { s with nfu := (s.recordFault r).nfu } := by
  have hmild : s.nfu.isSevere r.kind = false := by
    rw [h]
    rfl
  unfold State.recordFault
  simp only [hmild, Bool.false_and, Bool.false_eq_true, if_false]
  split <;> rfl

section

variable {s : State} {g : Nat} {o : Outstanding}

theorem State.timeOut_of_withdrawn (h : o.withdrawn = true) :
    s.timeOut g o = s.setSeg g { s.seg g with outstanding := none } := if_pos h

/-- R73: the state with the frame ended and the fault recorded. -/
def State.timedOut (s : State) (g : Nat) (o : Outstanding) : State :=
  (s.setSeg g { s.seg g with outstanding := none }).recordFault (frameFault .replyTimeout (segLink g) o.frame)

theorem State.seg_timedOut (s : State) (g : Nat) (o : Outstanding) :
    (s.timedOut g o).seg g = { s.seg g with outstanding := none } := by
  unfold State.timedOut
  rw [State.recordFault_of_timeout rfl]
  exact (s.seg_setSeg g g _).trans (if_pos rfl)

theorem State.lock?_timedOut (s : State) (g : Nat) (o : Outstanding) (st : Nat) :
    (s.timedOut g o).lock? g st = s.lock? g st := by
  unfold State.lock?
  rw [State.seg_timedOut]

variable {k : Lock} (hkept : o.withdrawn = false) (hk : s.lock? g o.frame.station = some k)
include hkept hk

/-- R73, R74: the frame of an enrolled lock ends with REPLY_TIMEOUT; the lock becomes UNREACHABLE, and the fourth in a
row takes the link to RECOVERY. -/
theorem State.timeOut_of_enrolled :
    s.timeOut g o =
      if k.state = .unreachable then s.timedOut g o
      else if (s.seg g).unreachable + 1 < 4 then
        (s.timedOut g o).setSeg g { s.seg g with
          outstanding := none, roster := insert (s.seg g).roster o.frame.station { k with state := .unreachable }
          unreachable := (s.seg g).unreachable + 1 }
      else ((s.timedOut g o).setSeg g { s.seg g with
        outstanding := none, roster := insert (s.seg g).roster o.frame.station { k with state := .unreachable }
        unreachable := 0 }).recoverLink (segLink g) := by
  have hlock : ((s.modSeg g fun c => { c with outstanding := none }).recordFault
      (frameFault .replyTimeout (segLink g) o.frame)).lock? g o.frame.station = some k :=
    (s.lock?_timedOut g o o.frame.station).trans hk
  have hlost : (s.timedOut g o).setLock g o.frame.station { k with state := .unreachable } =
      (s.timedOut g o).setSeg g { s.seg g with
        outstanding := none, roster := insert (s.seg g).roster o.frame.station { k with state := .unreachable } } := by
    unfold State.setLock
    rw [State.seg_timedOut]
  have hlisted : ({ s.seg g with
      outstanding := none
      roster := insert (s.seg g).roster o.frame.station { k with state := .unreachable } } : Segment) ≠ Segment.cold :=
    Segment.ne_cold_of_enrolled (find?_insert_self _ _ _)
  have hcounted (f : Segment → Segment) :
      ((s.timedOut g o).setLock g o.frame.station { k with state := .unreachable }).modSeg g f =
        (s.timedOut g o).setSeg g (f { s.seg g with
          outstanding := none
          roster := insert (s.seg g).roster o.frame.station { k with state := .unreachable } }) := by
    unfold State.modSeg
    rw [hlost, State.setSeg_setSeg hlisted, State.seg_setSeg, if_pos rfl]
  have hunreachable : (((s.timedOut g o).setLock g o.frame.station { k with state := .unreachable }).seg g).unreachable =
      (s.seg g).unreachable := by
    rw [hlost, State.seg_setSeg, if_pos rfl]
  unfold State.timeOut
  simp only [hkept, hlock, Bool.false_eq_true, if_false]
  refine if_congr Iff.rfl rfl (if_congr (iff_of_eq (congrArg (· + 1 < 4) hunreachable)) ?_ ?_)
  · exact (hcounted _).trans rfl
  · exact congrArg (State.recoverLink · (segLink g)) (hcounted _)

end

/-! ### The end of a wait (R71, R73) -/

theorem State.onEvent_of_turn {s : State} {g : Nat} {ready : Bool} (hev : s.takesEvents = true) (hg : g ≤ 3)
    (hready : ready = true) (effect : State → State) :
    s.onEvent (isSegment g && ready) effect = .next (effect s) :=
  State.onEvent_of_due hev (by rw [isSegment_of_le hg, hready, Bool.and_true]) effect

section

variable {s : State} {g : Nat} {o : Outstanding} (hev : s.takesEvents = true) (hg : g ≤ 3)
  (ho : (s.seg g).outstanding = some o)
include hev hg ho

theorem exec_replyWaitExpiry {w : Nat} (hw : o.waitEnd = some w) (hdue : w ≤ s.sck.elapsed) :
    exec (.replyWaitExpiry g) s = .next (if o.sendings < 4 then
      (if s.pastBroadcast g then s.resendFrame g o
        else s.setSeg g { s.seg g with outstanding := some { o with waitEnd := none } })
      else s.timeOut g o) := by
  have hover : s.waitOver g = true := by simp [State.waitOver, ho, hw, hdue]
  have hrun : exec (.replyWaitExpiry g) s = .next (s.endWait g) :=
    State.onEvent_of_turn hev hg hover fun s => s.endWait g
  rw [hrun]
  unfold State.endWait
  rw [ho]
  rfl

theorem exec_resend (hup : (s.link (segLink g)).state = .up) (hnone : (s.link (segLink g)).answers = [])
    (hdue : (s.seg g).due = .none) (hheld : o.waitEnd = none) :
    exec (.resend g) s = .next (s.resendFrame g o) := by
  have hready := State.resendReady_of_held hup hnone hdue ho hheld
  have hrun : exec (.resend g) s = .next (s.sendHeldBack g) :=
    State.onEvent_of_turn hev hg hready fun s => s.sendHeldBack g
  rw [hrun]
  unfold State.sendHeldBack
  rw [ho]

end

/-- R53, R90: the gangway link and the venue link send their answers. -/
theorem exec_answer {s : State} {i : Instr} {n : Nat} {f : Frame} {rest : List Frame} (hev : s.takesEvents = true)
    (hi : i = .venueAnswer ∧ n = 0 ∨ i = .laneAnswer ∧ n = 1) (hup : (s.link n).state = .up)
    (hwaiting : (s.link n).answers = f :: rest) : exec i s = .next (s.sendAnswer n) := by
  have hready := State.answerReady_of_waiting hup hwaiting
  rcases hi with ⟨rfl, rfl⟩ | ⟨rfl, rfl⟩
  · exact State.onEvent_of_due hev hready fun s => s.sendAnswer vlLink
  · exact State.onEvent_of_due hev hready fun s => s.sendAnswer glLink

/-- Settles O59: each event's turn in the arbiter's order, then what its sending leaves. -/
theorem segmentsSend : Obligations.SegmentsSend := by
  intro s hev
  refine ⟨fun i n f rest hi hup hwaiting => ?_, fun g hg hup => ⟨fun f rest hwaiting => ?_, fun hnone hdue => ?_,
    fun hnone hdue hfree => ⟨fun before st after k hlist hbefore hst hk => ?_,
      fun hpushes before st after hlist hbefore hst => ?_,
      fun hpushes hfetches hspaced hroster st k hmem heligible hnext => ?_⟩, fun o ho => ⟨fun hheld hclear => ?_,
      fun w hw hdue => ⟨fun hmore hclear => ?_, fun hmore hbusy => ?_, fun hlast hgone => ?_,
        fun hlast hkept k hk => ⟨fun hlost => ?_, fun hreached => ?_⟩⟩⟩⟩⟩
  · exact ⟨_, exec_answer hev hi hup hwaiting, State.frameSent_sendAnswer hwaiting⟩
  · have hready := State.answerReady_of_waiting hup hwaiting
    exact ⟨_, State.onEvent_of_turn hev hg hready fun s => s.sendDoorAnswer g,
      State.stationSent_sendDoorAnswer hwaiting⟩
  · have hready := State.broadcastReady_of_due hup hnone hdue
    exact ⟨_, State.onEvent_of_turn hev hg hready fun s => s.sendBroadcast g,
      State.stationSent_sendBroadcast hdue⟩
  · have holdest := Segment.oldestServable_of_first hlist hbefore hst
    have hready := State.pushReady_of_oldest hup hnone hdue hfree holdest
    exact ⟨_, State.onEvent_of_turn hev hg hready fun s => s.sendPush g,
      State.stationSent_sendPush holdest hk⟩
  · have holdest := Segment.oldestServable_of_first hlist hbefore hst
    have hready := State.fetchReady_of_oldest hup hnone hdue hfree (Segment.oldestServable_of_none hpushes) holdest
    exact ⟨_, State.onEvent_of_turn hev hg hready fun s => s.sendFetch g,
      State.stationSent_sendFetch holdest⟩
  · have hnext := Segment.sweepStation?_eq_some hroster hmem heligible hnext
    have hready := State.pollReady_of_spaced hup hnone hdue hfree (Segment.oldestServable_of_none hpushes)
      (Segment.oldestServable_of_none hfetches) hspaced hnext
    exact ⟨_, State.onEvent_of_turn hev hg hready fun s => s.sendPoll g,
      State.stationSent_sendPoll hnext⟩
  · exact ⟨_, exec_resend hev hg ho hup hclear.1 hclear.2 hheld, s.stationSent_resendFrame g o⟩
  · refine ⟨_, (exec_replyWaitExpiry hev hg ho hw hdue).trans ?_, s.stationSent_resendFrame g o⟩
    rw [if_pos hmore, if_pos ((State.pastBroadcast_iff hup).mpr hclear)]
  · rw [exec_replyWaitExpiry hev hg ho hw hdue, if_pos hmore, if_neg fun h => hbusy ((State.pastBroadcast_iff hup).mp h)]
  · rw [exec_replyWaitExpiry hev hg ho hw hdue, if_neg (Nat.not_lt.mpr hlast), State.timeOut_of_withdrawn hgone]
  · rw [exec_replyWaitExpiry hev hg ho hw hdue, if_neg (Nat.not_lt.mpr hlast), State.timeOut_of_enrolled hkept hk,
      if_pos hlost]
    rfl
  · rw [exec_replyWaitExpiry hev hg ho hw hdue, if_neg (Nat.not_lt.mpr hlast), State.timeOut_of_enrolled hkept hk,
      if_neg hreached]
    rfl

end Sys2Proof.Machine
end

section
/-! The contact window derived again, and the locks that it makes STALE (R78, R82, log 23). -/

namespace Sys2Proof.Machine

set_option Elab.async false

/-! ### The notice (R182) -/

/-- R182: a set of bits with one number written in twice, or two numbers in either order. -/
theorem setMember_setMember {w : Nat} (set : BitVec w) (k : Nat) :
    setMember (setMember set k true) k true = setMember set k true := by
  simp [setMember, BitVec.or_assoc]

theorem setMember_comm {w : Nat} (set : BitVec w) (j k : Nat) :
    setMember (setMember set j true) k true = setMember (setMember set k true) j true := by
  simp only [setMember, if_true, BitVec.or_assoc, BitVec.or_comm (BitVec.ofNat w (2 ^ j))]

theorem State.nfu_raise (s : State) (n : Notice) :
    (s.raise n).nfu = { s.nfu with pending := setMember s.nfu.pending n.number true } := rfl

theorem State.raise_of_nfu {s t : State} {m : Notice} (h : t.nfu = (s.raise m).nfu) :
    (t.raise m).nfu = (s.raise m).nfu := by
  rw [State.nfu_raise, h, State.nfu_raise]
  dsimp only
  rw [setMember_setMember]

/-- R182: a notice raised on two conditions. -/
theorem State.nfu_raise_again {s u : State} {m : Notice} {a : Bool} (h : u.nfu = if a then (s.raise m).nfu else s.nfu)
    (b : Bool) : (if b then (u.raise m).nfu else u.nfu) = if a || b then (s.raise m).nfu else s.nfu := by
  cases a with
  | true =>
    have hnfu : u.nfu = (s.raise m).nfu := h
    rw [State.raise_of_nfu hnfu, hnfu, ite_self]
    rfl
  | false =>
    have hnfu : u.nfu = s.nfu := h
    rw [State.nfu_raise, hnfu]
    rfl

theorem State.nfu_raise_comm (s : State) (m n : Notice) : ((s.raise m).raise n).nfu = ((s.raise n).raise m).nfu :=
  congrArg (fun pending => { s.nfu with pending := pending }) (setMember_comm s.nfu.pending m.number n.number)

/-! ### One lock (R78) -/

/-- R78: the lock's contact deadline has passed. -/
def Segment.overdue (c : Segment) (now : Nat) (k : Lock) : Bool := (c.deadline? k).any (· ≤ now)

theorem Segment.settled_eq (c : Segment) (now : Nat) (k : Lock) :
    c.settled now k = if c.overdue now k then { k with state := .stale } else k := rfl

theorem Segment.excluded_settled (c : Segment) (now : Nat) (k : Lock) : (c.settled now k).excluded = k.excluded := by
  rw [Segment.settled_eq]
  split <;> rfl

/-- R78, R82: one lock made STALE where its deadline has passed. -/
def State.settleLock (s : State) (g st : Nat) : State := if s.contactDue g st then s.makeStale g st else s

theorem State.settleStale_eq (s : State) (g : Nat) :
    s.settleStale g = ((s.seg g).roster.map (·.1)).foldl (fun t st => t.settleLock g st) s := rfl

section

variable {s : State} {g st : Nat} {k : Lock} (hk : s.lock? g st = some k)
include hk

theorem State.contactDue_of_enrolled : s.contactDue g st = (s.seg g).overdue s.sck.elapsed k := by
  unfold State.contactDue
  rw [hk]
  rfl

theorem State.settleLock_of_overdue (h : (s.seg g).overdue s.sck.elapsed k = true) :
    s.settleLock g st = (s.setLock g st { k with state := .stale }).raise .lockStale := by
  unfold State.settleLock State.makeStale
  rw [State.contactDue_of_enrolled hk, if_pos h, State.modLock_of_some hk]

theorem State.settleLock_of_kept (h : (s.seg g).overdue s.sck.elapsed k = false) : s.settleLock g st = s := by
  unfold State.settleLock
  rw [State.contactDue_of_enrolled hk, h]
  rfl

end

/-! ### The roster -/

theorem insert_append_cons {α : Type} {pre rest : Table α} {k : Nat} {a : α}
    (h : rising (pre ++ (k, a) :: rest) = true) (b : α) :
    insert (pre ++ (k, a) :: rest) k b = pre ++ (k, b) :: rest := by
  induction pre with
  | nil => simp [insert]
  | cons e pre ih =>
    have hpairs := (rising_iff _).mp h
    rw [List.cons_append, List.pairwise_cons] at hpairs
    obtain ⟨hbelow, hrest⟩ := hpairs
    have hlt : e.1 < k := hbelow (k, a) (List.mem_append_right _ List.mem_cons_self)
    simp only [List.cons_append, insert, if_neg hlt.not_gt, if_neg hlt.ne', ih ((rising_iff _).mpr hrest)]

theorem rising_replaced {α : Type} {pre rest : Table α} {k : Nat} {a : α} (h : rising (pre ++ (k, a) :: rest) = true)
    (b : α) : rising ((pre ++ [(k, b)]) ++ rest) = true := by
  have hwritten := rising_insert k b h
  rw [insert_append_cons h] at hwritten
  rwa [List.append_assoc]

/-- R78: one lock settled, as its segment and the notices read. -/
theorem State.settleLock_reads {s : State} {g st : Nat} {k : Lock} {pre rest : Table Lock}
    (hroster : (s.seg g).roster = pre ++ (st, k) :: rest) (hr : rising (pre ++ (st, k) :: rest) = true) :
    (s.settleLock g st).seg g = { s.seg g with roster := pre ++ (st, (s.seg g).settled s.sck.elapsed k) :: rest } ∧
      (∀ h, h ≠ g → (s.settleLock g st).seg h = s.seg h) ∧ (s.settleLock g st).sck = s.sck ∧
      (s.settleLock g st).nfu =
        if (s.seg g).overdue s.sck.elapsed k then (s.raise .lockStale).nfu else s.nfu := by
  have hk : s.lock? g st = some k := by
    unfold State.lock?
    rw [hroster]
    exact find?_of_mem hr (List.mem_append_right _ List.mem_cons_self)
  rw [Segment.settled_eq]
  cases hdue : (s.seg g).overdue s.sck.elapsed k with
  | true =>
    rw [State.settleLock_of_overdue hk hdue]
    refine ⟨(s.seg_setLock g st g _).trans ?_, fun h hh => (s.seg_setLock g st h _).trans (if_neg hh), rfl, rfl⟩
    rw [if_pos rfl, hroster, insert_append_cons hr]
    rfl
  | false =>
    rw [State.settleLock_of_kept hk hdue]
    exact ⟨congrArg (fun r => { s.seg g with roster := r }) hroster, fun h _ => rfl, rfl, rfl⟩

/-- R78: what a state reads once the locks of a list have been settled on a segment: those of `rest`, listed after
those of `pre`. -/
def State.staleSettled (s t : State) (g : Nat) (pre rest : Table Lock) : Prop :=
  t.seg g = { s.seg g with roster := pre ++ mapRecords ((s.seg g).settled s.sck.elapsed) rest } ∧
    (∀ h, h ≠ g → t.seg h = s.seg h) ∧
    t.nfu = if rest.any fun e => (s.seg g).overdue s.sck.elapsed e.2 then (s.raise .lockStale).nfu else s.nfu

theorem State.settleLock_foldl {g : Nat} (rest : Table Lock) (pre : Table Lock) (s : State)
    (hroster : (s.seg g).roster = pre ++ rest) (hr : rising (pre ++ rest) = true) :
    s.staleSettled ((rest.map (·.1)).foldl (fun t st => t.settleLock g st) s) g pre rest := by
  induction rest generalizing pre s with
  | nil =>
    refine ⟨?_, fun h _ => rfl, rfl⟩
    exact congrArg (fun r => { s.seg g with roster := r }) hroster
  | cons e rest ih =>
    obtain ⟨st, k⟩ := e
    obtain ⟨hseg, hother, hsck, hnfu⟩ := State.settleLock_reads hroster hr
    have hone : ((s.settleLock g st).seg g).roster =
        (pre ++ [(st, (s.seg g).settled s.sck.elapsed k)]) ++ rest := by
      rw [hseg, List.append_assoc]
      rfl
    obtain ⟨htseg, htother, htnfu⟩ := ih _ (s.settleLock g st) hone (rising_replaced hr _)
    rw [hseg, hsck] at htseg htnfu
    refine ⟨htseg.trans ?_, fun h hh => (htother h hh).trans (hother h hh), htnfu.trans ?_⟩
    · rw [List.append_assoc]
      rfl
    · have hdeadline (r : Table Lock) (x : Lock) :
          ({ s.seg g with roster := r } : Segment).overdue s.sck.elapsed x = (s.seg g).overdue s.sck.elapsed x := rfl
      simp only [hdeadline, List.any_cons]
      exact State.nfu_raise_again hnfu _

/-! ### The whole segment (R82) -/

/-- R82: a segment with its contact window derived. -/
def Segment.windowed (c : Segment) : Segment := { c with window := c.deriveWindow }

/-- R78, R82: a segment with its window derived and its locks settled. -/
def Segment.derived (c : Segment) (now : Nat) : Segment :=
  { c.windowed with roster := mapRecords (c.windowed.settled now) c.roster }

theorem State.deriveWindow_reads {s : State} {g : Nat} (hr : rising (s.seg g).roster = true) :
    (s.deriveWindow g).seg g = (s.seg g).derived s.sck.elapsed ∧
      (∀ h, h ≠ g → (s.deriveWindow g).seg h = s.seg h) ∧
      (s.deriveWindow g).nfu =
        if (s.seg g).roster.any fun e => (s.seg g).windowed.overdue s.sck.elapsed e.2 then (s.raise .lockStale).nfu
        else s.nfu := by
  obtain ⟨u, hu⟩ : ∃ u, u = s.modSeg g Segment.windowed := ⟨_, rfl⟩
  have hseg : u.seg g = (s.seg g).windowed := by
    rw [hu]
    exact (s.seg_modSeg g g _).trans (if_pos rfl)
  have hroster : (u.seg g).roster = (s.seg g).roster := by
    rw [hseg]
    rfl
  obtain ⟨htseg, htother, htnfu⟩ := State.settleLock_foldl (s.seg g).roster [] u hroster hr
  have hrun : s.deriveWindow g = ((s.seg g).roster.map (·.1)).foldl (fun t st => t.settleLock g st) u := by
    rw [← hroster, ← State.settleStale_eq, hu]
    rfl
  rw [hseg] at htseg htnfu
  rw [hrun]
  refine ⟨htseg.trans ?_, fun h hh => (htother h hh).trans ?_, htnfu.trans ?_⟩
  · rw [hu]
    rfl
  · rw [hu]
    exact (s.seg_modSeg g h _).trans (if_neg hh)
  · rw [hu]
    rfl

section

variable (c : Segment) (now : Nat)

/-- R78: the settled locks' own deadlines are read under the same window. -/
theorem Segment.settled_derived : (c.derived now).settled now = c.windowed.settled now := rfl

theorem Segment.find?_derived (x : Nat) :
    find? (c.derived now).roster x = (find? c.roster x).map (c.windowed.settled now) :=
  find?_mapRecords _ c.roster x

/-- R82: STALE locks are swept as before. -/
theorem Segment.window_derived : (c.derived now).window = max c.windowAsked (c.derived now).sweepMinutes := by
  have hswept := countRecords_mapRecords (fun k : Lock => !k.excluded) (f := c.windowed.settled now)
    (fun k => by rw [Segment.excluded_settled]) c.roster
  unfold countRecords at hswept
  unfold Segment.sweepMinutes
  dsimp only [Segment.derived]
  rw [hswept]
  rfl

end

end Sys2Proof.Machine
end

section
/-! ENROL LOCK and WITHDRAW LOCK (R65, R66, R82). -/

namespace Sys2Proof.Machine

set_option Elab.async false

/-! ### The refusals (R65, R66) -/

theorem stationOk_iff {st : Nat} : stationOk st = true ↔ 1 ≤ st ∧ st ≤ 600 := by
  unfold stationOk
  rw [Bool.and_eq_true, decide_eq_true_iff, decide_eq_true_iff]
  rfl

theorem lockKindOk_iff {kind : LockKind} :
    lockKindOk kind = true ↔ (∀ c, kind = .cabin c → c ≤ 2047) ∧ ∀ a, kind = .area a → a ≤ 63 := by
  cases kind with
  | cabin c => exact decide_eq_true_iff.trans (by simp [Config.lastCabin])
  | area a => exact decide_eq_true_iff.trans (by simp)

section

variable {s : State} {g st : Nat} {kind : LockKind}

theorem enrolLock_of_range (h : ¬((g ≤ 3 ∧ 1 ≤ st ∧ st ≤ 600) ∧ (∀ c, kind = .cabin c → c ≤ 2047) ∧
    ∀ a, kind = .area a → a ≤ 63)) : enrolLock g st kind s = s.refuse .range := by
  rw [← stationOk_iff, ← lockKindOk_iff] at h
  unfold enrolLock
  refine if_pos ?_
  simp only [Bool.not_eq_true']
  simp only [not_and_or, Bool.not_eq_true, Nat.not_le] at h
  tauto

variable (hrange : (g ≤ 3 ∧ 1 ≤ st ∧ st ≤ 600) ∧ (∀ c, kind = .cabin c → c ≤ 2047) ∧ ∀ a, kind = .area a → a ≤ 63)
include hrange

/-- R65: the checks that follow the ranges. -/
theorem enrolLock_of_inRange :
    enrolLock g st kind s =
      if (s.lock? g st).isSome then s.refuse .inUse
      else if kind.cabin?.any fun c => !(s.cabin c).inUse then s.refuse .notFound
      else if kind.cabin?.any fun c => (s.cabin c).lock.isSome then s.refuse .inUse
      else ((s.enrol g st kind).deriveWindow g, Reply.ok []) := by
  rw [← stationOk_iff, ← lockKindOk_iff] at hrange
  obtain ⟨⟨hg, hst⟩, hkind⟩ := hrange
  unfold enrolLock
  rw [if_neg]
  · rfl
  · simp [hst, hkind, hg]

end

theorem enrolLock_of_free {s : State} {g st : Nat} {kind : LockKind}
    (hrange : (g ≤ 3 ∧ 1 ≤ st ∧ st ≤ 600) ∧ (∀ c, kind = .cabin c → c ≤ 2047) ∧ ∀ a, kind = .area a → a ≤ 63)
    (hfree : s.lock? g st = none) (hcabin : ∀ c, kind = .cabin c → (s.cabin c).inUse = true ∧ (s.cabin c).lock = none) :
    enrolLock g st kind s = ((s.enrol g st kind).deriveWindow g, Reply.ok []) := by
  rw [enrolLock_of_inRange hrange, hfree]
  cases kind with
  | cabin c =>
    obtain ⟨huse, hlock⟩ := hcabin c rfl
    simp [LockKind.cabin?, huse, hlock]
  | area a => rfl

section

variable {s : State} {g st : Nat}

theorem withdrawLock_of_range (h : ¬(g ≤ 3 ∧ 1 ≤ st ∧ st ≤ 600)) : withdrawLock g st s = s.refuse .range := by
  rw [← stationOk_iff] at h
  unfold withdrawLock
  refine if_pos ?_
  simp only [not_and_or, Bool.not_eq_true, Nat.not_le] at h
  simpa using h

variable (hrange : g ≤ 3 ∧ 1 ≤ st ∧ st ≤ 600)
include hrange

theorem withdrawLock_of_unknown (hnone : s.lock? g st = none) : withdrawLock g st s = s.refuse .notFound := by
  rw [← stationOk_iff] at hrange
  unfold withdrawLock
  rw [if_neg (by simp [hrange]), hnone]

theorem withdrawLock_of_enrolled {k : Lock} (hk : s.lock? g st = some k) :
    withdrawLock g st s = ((s.unenrol g st k.kind).deriveWindow g, Reply.ok (opt (be 2) k.ackGen)) := by
  rw [← stationOk_iff] at hrange
  unfold withdrawLock
  rw [if_neg (by simp [hrange]), hk]
  rfl

end

/-! ### The roster's other locks -/

theorem any_erase {α : Type} (t : Table α) (k : Nat) (f : Nat × α → Bool) :
    (erase t k).any f = t.any fun e => decide (e.1 ≠ k) && f e := List.any_filter

theorem any_insert_of_false {α : Type} {t : Table α} {k : Nat} {a : α} {f : Nat × α → Bool} (h : rising t = true)
    (hf : f (k, a) = false) : (insert t k a).any f = (erase t k).any f := by
  rw [← erase_insert t k a, any_erase, Bool.eq_iff_iff, List.any_eq_true, List.any_eq_true]
  refine exists_congr fun e => and_congr_right fun he => ?_
  obtain ⟨j, b⟩ := e
  by_cases hj : j = k
  · subst hj
    have hb := find?_of_mem (rising_insert j a h) he
    rw [find?_insert_self] at hb
    cases hb
    simp [hf]
  · simp [hj]

/-- R78: a lock that has not been heard from has no deadline. -/
theorem Segment.overdue_of_new (c : Segment) (now : Nat) {k : Lock} (h : k.state = .new) : c.overdue now k = false := by
  unfold Segment.overdue Segment.deadline?
  rw [h]
  rfl

theorem Segment.derived_eq (c : Segment) (now : Nat) :
    c.derived now = { c with
      roster := (c.derived now).roster, window := max c.windowAsked (c.derived now).sweepMinutes } := by
  rw [← Segment.window_derived]
  rfl

/-- R66: a segment without a station, its outstanding frame marked. -/
theorem Segment.withdraw_eq (c : Segment) (st : Nat) :
    c.withdraw st = { c with
      roster := erase c.roster st, pushes := c.pushes.filter (· ≠ st), fetches := c.fetches.filter (· ≠ st)
      outstanding := c.outstanding.map fun o =>
        { o with withdrawn := o.withdrawn || decide (o.frame.station = st) } } := by
  have hmarked (o : Outstanding) : (if o.frame.station = st then { o with withdrawn := true } else o) =
      { o with withdrawn := o.withdrawn || decide (o.frame.station = st) } := by
    split
    · simp [*]
    · simp [*]
  unfold Segment.withdraw
  simp only [hmarked]

/-! ### The writes -/

section

variable {s : State} {g st : Nat} (hr : rising (s.seg g).roster = true)
include hr

theorem State.rising_enrol (kind : LockKind) : rising ((s.enrol g st kind).seg g).roster = true := by
  rw [State.seg_enrol, if_pos rfl]
  exact rising_insert st _ hr

theorem State.rising_unenrol (kind : LockKind) : rising ((s.unenrol g st kind).seg g).roster = true := by
  rw [State.seg_unenrol, if_pos rfl]
  exact rising_erase st hr

end

theorem State.enrol_frame (s : State) (g st : Nat) (kind : LockKind) :
    s.enrol g st kind = { s with sc := (s.enrol g st kind).sc, ct := (s.enrol g st kind).ct } := by
  unfold State.enrol State.bindLock
  split <;> rfl

theorem State.unenrol_frame (s : State) (g st : Nat) (kind : LockKind) :
    s.unenrol g st kind = { s with sc := (s.unenrol g st kind).sc, ct := (s.unenrol g st kind).ct } := by
  unfold State.unenrol State.bindLock
  split <;> rfl

theorem State.deriveWindow_frame (s : State) (g : Nat) :
    s.deriveWindow g = { s with sc := (s.deriveWindow g).sc, nfu := (s.deriveWindow g).nfu } := by
  apply State.eq_of_fields <;> simp

/-- R65, R66, R82: what a roster command leaves, over its own writes `u`. -/
theorem State.rederived_reads {s u t : State} {g : Nat} {tag : Tag} {body : List Byte}
    (hu : u = { s with sc := u.sc, ct := u.ct }) (hother : ∀ h, h ≠ g → u.seg h = s.seg h)
    (hr : rising (u.seg g).roster = true) (ht : t = (u.deriveWindow g).answered tag .ok body) :
    t.seg g = (u.seg g).derived s.sck.elapsed ∧ (∀ h, h ≠ g → t.seg h = s.seg h) ∧
      (∀ x, t.lock? g x = (u.lock? g x).map ((t.seg g).settled s.sck.elapsed)) ∧ (∀ c, t.cabin c = u.cabin c) ∧
      (t.nfu = if (u.seg g).roster.any fun e => (t.seg g).overdue s.sck.elapsed e.2 then (s.raise .lockStale).nfu
        else s.nfu) ∧
      t = { s with sc := t.sc, ct := t.ct, nfu := t.nfu, pp := { s.pp with port := .answered tag .ok body } } := by
  have hsck : u.sck = s.sck := by rw [hu]
  have hnfu : u.nfu = s.nfu := by rw [hu]
  have hct : (u.deriveWindow g).ct = u.ct := State.deriveWindow_ct u g
  obtain ⟨hseg, hothers, hraised⟩ := State.deriveWindow_reads hr
  rw [hsck] at hseg hraised
  rw [State.nfu_raise, hnfu] at hraised
  have htseg : t.seg g = (u.seg g).derived s.sck.elapsed := by
    rw [ht]
    exact hseg
  refine ⟨htseg, fun h hh => ?_, fun x => ?_, fun c => ?_, ?_, ?_⟩
  · rw [ht]
    exact (hothers h hh).trans (hother h hh)
  · unfold State.lock?
    rw [htseg, Segment.settled_derived]
    exact (u.seg g).find?_derived s.sck.elapsed x
  · rw [ht]
    exact congrArg (fun ct => getD ct c Cabin.cold) hct
  · rw [htseg, ht]
    exact hraised
  · rw [ht]
    obtain ⟨v, hv⟩ : ∃ v, v = u.deriveWindow g := ⟨_, rfl⟩
    have hframe : v = { u with sc := v.sc, nfu := v.nfu } := by
      rw [hv]
      exact u.deriveWindow_frame g
    rw [← hv, hframe, hu]
    rfl

theorem State.exec_enrolLock {s : State} {tag : Tag} {g st : Nat} {kind : LockKind}
    (hacc : s.accepts (.enrolLock tag g st kind) = true) :
    exec (.enrolLock tag g st kind) s = .next ((enrolLock g st kind s).1.answer tag (enrolLock g st kind s).2) :=
  State.onCommand_of_accepts hacc tag (enrolLock g st kind)

theorem State.exec_withdrawLock {s : State} {tag : Tag} {g st : Nat} (hacc : s.accepts (.withdrawLock tag g st) = true) :
    exec (.withdrawLock tag g st) s = .next ((withdrawLock g st s).1.answer tag (withdrawLock g st s).2) :=
  State.onCommand_of_accepts hacc tag (withdrawLock g st)

/-- Settles O33: the commands' own writes, under the window derived again. -/
theorem rosterCommands : Obligations.RosterCommands := by
  refine ⟨fun tag g st kind s => ⟨fun hacc => ⟨fun hout => ?_, fun hin hused => ?_, fun c hc hin hfree =>
      ⟨fun hunused => ?_, fun huse hbound => ?_⟩⟩, fun hacc => ⟨fun hout => ?_, fun hin hnone => ?_⟩⟩,
    fun tag g st s hg h1 h600 hr => ⟨fun kind hacc hfree hcabin harea => ?_, fun k hacc hk => ?_⟩⟩
  · rw [State.exec_enrolLock hacc, enrolLock_of_range hout]
    rfl
  · rw [State.exec_enrolLock hacc, enrolLock_of_inRange hin, if_pos (Option.isSome_iff_ne_none.mpr hused)]
    rfl
  · subst hc
    rw [State.exec_enrolLock hacc, enrolLock_of_inRange hin, hfree]
    simp [LockKind.cabin?, hunused]
    rfl
  · subst hc
    rw [State.exec_enrolLock hacc, enrolLock_of_inRange hin, hfree]
    simp [LockKind.cabin?, huse, Option.isSome_iff_ne_none.mpr hbound]
    rfl
  · rw [State.exec_withdrawLock hacc, withdrawLock_of_range hout]
    rfl
  · rw [State.exec_withdrawLock hacc, withdrawLock_of_unknown hin hnone]
    rfl
  · have hother (h : Nat) (hh : h ≠ g) : (s.enrol g st kind).seg h = s.seg h :=
      (s.seg_enrol g st h kind).trans (if_neg hh)
    have hself : (s.enrol g st kind).seg g = _ := (s.seg_enrol g st g kind).trans (if_pos rfl)
    obtain ⟨t, ht⟩ : ∃ t, t = ((s.enrol g st kind).deriveWindow g).answered tag .ok [] := ⟨_, rfl⟩
    have hrun : exec (.enrolLock tag g st kind) s = .next t := by
      rw [State.exec_enrolLock hacc, ht,
        enrolLock_of_free ⟨⟨hg, h1, h600⟩, fun c hc => (hcabin c hc).1, harea⟩ hfree fun c hc => (hcabin c hc).2]
      rfl
    obtain ⟨hseg, hothers, hlock, hcabins, hnfu, hframe⟩ :=
      State.rederived_reads (s.enrol_frame g st kind) hother (State.rising_enrol hr kind) ht
    refine ⟨t, hrun, ?_, fun x hx => ?_, ?_, hothers, fun c => (hcabins c).trans (s.cabin_enrol g st c kind), ?_, hframe⟩
    · have hnew := hlock st
      rw [State.lock?_enrol, if_pos ⟨rfl, rfl⟩, Option.map_some, Segment.settled_eq,
        Segment.overdue_of_new _ _ (k := enrolled kind (s.seg g).wanted) rfl] at hnew
      exact hnew
    · rw [hlock, State.lock?_enrol, if_neg fun h => hx h.2]
    · rw [hself] at hseg
      rw [hseg]
      exact Segment.derived_eq _ _
    · refine hnfu.trans (if_congr (iff_of_eq (congrArg (· = true) ?_)) rfl rfl)
      rw [hself]
      exact (any_insert_of_false hr (Segment.overdue_of_new _ _ (k := enrolled kind (s.seg g).wanted) rfl)).trans
        (any_erase _ _ _)
  · have hother (h : Nat) (hh : h ≠ g) : (s.unenrol g st k.kind).seg h = s.seg h :=
      (s.seg_unenrol g st h k.kind).trans (if_neg hh)
    have hself : (s.unenrol g st k.kind).seg g = _ := (s.seg_unenrol g st g k.kind).trans (if_pos rfl)
    obtain ⟨t, ht⟩ : ∃ t, t = ((s.unenrol g st k.kind).deriveWindow g).answered tag .ok (opt (be 2) k.ackGen) :=
      ⟨_, rfl⟩
    have hrun : exec (.withdrawLock tag g st) s = .next t := by
      rw [State.exec_withdrawLock hacc, ht, withdrawLock_of_enrolled ⟨hg, h1, h600⟩ hk]
      rfl
    obtain ⟨hseg, hothers, hlock, hcabins, hnfu, hframe⟩ :=
      State.rederived_reads (s.unenrol_frame g st k.kind) hother (State.rising_unenrol hr k.kind) ht
    refine ⟨t, hrun, ?_, fun x hx => ?_, ?_, hothers, fun c => (hcabins c).trans (s.cabin_unenrol g st c k.kind), ?_,
      hframe⟩
    · exact (hlock st).trans (by rw [State.lock?_unenrol, if_pos ⟨rfl, rfl⟩]; rfl)
    · rw [hlock, State.lock?_unenrol, if_neg fun h => hx h.2]
    · rw [hself, Segment.withdraw_eq] at hseg
      rw [hseg]
      exact Segment.derived_eq _ _
    · refine hnfu.trans (if_congr (iff_of_eq (congrArg (· = true) ?_)) rfl rfl)
      rw [hself]
      exact any_erase _ _ _

end Sys2Proof.Machine
end

section
/-! SET SEGMENT (R79, R82). -/

namespace Sys2Proof.Machine

set_option Elab.async false

/-! ### The refusals (R82) -/

section

variable {s : State} {tag : Tag} {g doze spacing window : Nat} {list : List (Nat × Bool)}
  (hacc : s.accepts (.setSegment tag g doze spacing window list) = true)
include hacc

theorem State.exec_setSegment :
    exec (.setSegment tag g doze spacing window list) s =
      .next ((setSegment g doze spacing window list s).1.answer tag (setSegment g doze spacing window list s).2) :=
  State.onCommand_of_accepts hacc tag (setSegment g doze spacing window list)

theorem exec_setSegment_of_range (h : ¬(g ≤ 3 ∧ doze ≤ 5 ∧ ∀ e ∈ list, 1 ≤ e.1 ∧ e.1 ≤ 600)) :
    exec (.setSegment tag g doze spacing window list) s = .next (s.answered tag .range []) := by
  simp only [← stationOk_iff] at h
  rw [State.exec_setSegment hacc, setSegment_eq, if_pos]
  · rfl
  · by_contra hin
    simp only [not_or, Nat.not_lt, List.any_eq_true, Bool.not_eq_true', not_exists, not_and, Bool.not_eq_false] at hin
    exact h hin

variable (hin : g ≤ 3 ∧ doze ≤ 5 ∧ ∀ e ∈ list, 1 ≤ e.1 ∧ e.1 ≤ 600)
include hin

theorem State.exec_setSegment_of_inRange :
    exec (.setSegment tag g doze spacing window list) s =
      .next (if list.any fun e => (s.lock? g e.1).isNone then s.answered tag .notFound []
        else (s.configureSegment g doze spacing window list).answered tag .ok
          (be 4 ((s.configureSegment g doze spacing window list).seg g).spacing ++
            be 4 ((s.configureSegment g doze spacing window list).seg g).window)) := by
  simp only [← stationOk_iff] at hin
  obtain ⟨hg, hdoze, hlist⟩ := hin
  rw [State.exec_setSegment hacc, setSegment_eq, if_neg]
  · split <;> rfl
  · simp only [not_or, Nat.not_lt, List.any_eq_true, Bool.not_eq_true', not_exists, not_and, Bool.not_eq_false]
    exact ⟨hg, hdoze, hlist⟩

end

/-! ### The settings (R82) -/

/-- R82: a list that names no station twice gives each the flag of its one entry. -/
theorem listedFlag_eq {list : List (Nat × Bool)} (h : (list.map (·.1)).Nodup) (st : Nat) :
    listedFlag list st = (list.find? fun e => e.1 = st).map (·.2) := by
  rw [← List.head?_filter]
  have hnodup : ((list.filter fun e => e.1 = st).map (·.1)).Nodup := h.sublist (List.filter_sublist.map _)
  have hkeys : ∀ e ∈ list.filter fun e => e.1 = st, e.1 = st := fun e he => of_decide_eq_true (List.mem_filter.mp he).2
  unfold listedFlag
  generalize (list.filter fun e => decide (e.1 = st)) = hits at hnodup hkeys
  match hits with
  | [] => rfl
  | [e] => rfl
  | e :: f :: rest =>
    have hsame : f.1 = e.1 := (hkeys f (by simp)).trans (hkeys e (by simp)).symm
    simp [hsame] at hnodup

theorem Segment.rising_configured {c : Segment} (h : rising c.roster = true) (doze spacing window : Nat)
    (list : List (Nat × Bool)) : rising (c.configured doze spacing window list).roster = true :=
  (rising_iff _).mpr (List.pairwise_map.mpr ((rising_iff _).mp h))

/-! ### OFF (R79) -/

section

variable (s : State) (g doze : Nat)

/-- R79: OFF wakes a segment in DOZE. -/
def State.wakesAt : Bool := doze = 0 && (s.link (segLink g)).state = .doze

theorem State.wokenIf_reads :
    (∀ n, (if doze = 0 then s.wake g else s).link n =
      if n = segLink g ∧ s.wakesAt g doze then (s.link n).woken s.sck.elapsed else s.link n) ∧
    (∀ h, (if doze = 0 then s.wake g else s).seg h =
      if h = g ∧ s.wakesAt g doze then (s.seg h).remeasured s.sck.elapsed else s.seg h) ∧
    (if doze = 0 then s.wake g else s).nfu = if s.wakesAt g doze then (s.raise .linkChange).nfu else s.nfu := by
  unfold State.wakesAt
  by_cases h : doze = 0
  · simp only [h, if_true, decide_true, Bool.true_and, decide_eq_true_eq]
    exact ⟨s.link_wake g, s.seg_wake g, s.nfu_wake g⟩
  · simp only [h, if_false, decide_false, Bool.false_and, Bool.false_eq_true, and_false]
    simp

end

/-! ### The whole command (R79, R82) -/

section

variable {s : State} {g : Nat} (doze spacing window : Nat) (list : List (Nat × Bool))

/-- R82: a segment with its settings written, its window derived and its locks settled. -/
def Segment.reset (c : Segment) (now doze spacing window : Nat) (list : List (Nat × Bool)) : Segment :=
  (c.configured doze spacing window list).derived now

/-- R78, R82: some lock is past its deadline under the window that the settings give. -/
def Segment.resetStales (c : Segment) (now doze spacing window : Nat) (list : List (Nat × Bool)) : Bool :=
  (c.configured doze spacing window list).roster.any fun e =>
    (c.configured doze spacing window list).windowed.overdue now e.2

/-- R82: the settings written and the window derived, before OFF wakes the segment. -/
theorem State.rewindowed_reads (hr : rising (s.seg g).roster = true) {v : State}
    (hv : v = (s.modSeg g (Segment.configured doze spacing window list)).deriveWindow g) :
    v.seg g = (s.seg g).reset s.sck.elapsed doze spacing window list ∧ (∀ h, h ≠ g → v.seg h = s.seg h) ∧
      (v.nfu = if (s.seg g).resetStales s.sck.elapsed doze spacing window list then (s.raise .lockStale).nfu else s.nfu) ∧
      v = { s with sc := v.sc, nfu := v.nfu } := by
  obtain ⟨u, hu⟩ : ∃ u, u = s.modSeg g (Segment.configured doze spacing window list) := ⟨_, rfl⟩
  have hseg : u.seg g = (s.seg g).configured doze spacing window list := by
    rw [hu]
    exact (s.seg_modSeg g g _).trans (if_pos rfl)
  have hrising : rising (u.seg g).roster = true := by
    rw [hseg]
    exact Segment.rising_configured hr doze spacing window list
  obtain ⟨hvseg, hvother, hvnfu⟩ := State.deriveWindow_reads hrising
  rw [hseg] at hvseg hvnfu
  rw [← hu] at hv
  rw [← hv] at hvseg hvother hvnfu
  refine ⟨?_, fun h hh => ?_, ?_, ?_⟩
  · rw [hvseg, hu]
    rfl
  · rw [hvother h hh, hu]
    exact (s.seg_modSeg g h _).trans (if_neg hh)
  · rw [hvnfu, hu]
    rfl
  · have hframe : v = { u with sc := v.sc, nfu := v.nfu } := by
      rw [hv]
      exact u.deriveWindow_frame g
    rw [hframe, hu]
    rfl

/-- R79, R82: what SET SEGMENT leaves, OFF with its wake. -/
theorem State.configureSegment_reads (hr : rising (s.seg g).roster = true) {t : State}
    (ht : t = s.configureSegment g doze spacing window list) :
    (∀ n, t.link n = if n = segLink g ∧ s.wakesAt g doze then (s.link n).woken s.sck.elapsed else s.link n) ∧
      (t.seg g = if s.wakesAt g doze then
          ((s.seg g).reset s.sck.elapsed doze spacing window list).remeasured s.sck.elapsed
        else (s.seg g).reset s.sck.elapsed doze spacing window list) ∧
      (∀ h, h ≠ g → t.seg h = s.seg h) ∧
      (t.nfu = if (s.seg g).resetStales s.sck.elapsed doze spacing window list then
          ((if s.wakesAt g doze then s.raise .linkChange else s).raise .lockStale).nfu
        else (if s.wakesAt g doze then s.raise .linkChange else s).nfu) ∧
      t = { s with sc := t.sc, lk := t.lk, nfu := t.nfu } := by
  obtain ⟨v, hv⟩ : ∃ v, v = (s.modSeg g (Segment.configured doze spacing window list)).deriveWindow g := ⟨_, rfl⟩
  obtain ⟨hseg, hother, hnfu, hframe⟩ := State.rewindowed_reads doze spacing window list hr hv
  have htv : t = if doze = 0 then v.wake g else v := by
    rw [ht, hv]
    rfl
  obtain ⟨hlink, hwoken, hraised⟩ := v.wokenIf_reads g doze
  have hlk (n : Nat) : v.link n = s.link n := by
    rw [hframe]
    rfl
  have hwakes : v.wakesAt g doze = s.wakesAt g doze := by
    unfold State.wakesAt
    rw [hlk]
  have hsck : v.sck = s.sck := by rw [hframe]
  rw [hwakes] at hraised
  simp only [← htv, hwakes, hlk, hsck] at hlink hwoken hraised
  refine ⟨hlink, ?_, fun h hh => ?_, ?_, ?_⟩
  · rw [hwoken g, hseg]
    simp
  · rw [hwoken h, if_neg fun hg => hh hg.1]
    exact hother h hh
  · rw [hraised, State.nfu_raise, hnfu]
    cases s.wakesAt g doze with
    | true =>
      cases (s.seg g).resetStales s.sck.elapsed doze spacing window list with
      | true => exact s.nfu_raise_comm .lockStale .linkChange
      | false => rfl
    | false => rfl
  · have hlast : t = { v with sc := t.sc, lk := t.lk, nfu := t.nfu } := by
      rw [htv]
      split
      · apply State.eq_of_fields <;> simp
      · rfl
    rw [hlast, hframe]

end

section

variable (c : Segment) (now doze spacing window : Nat) {list : List (Nat × Bool)} (hlist : (list.map (·.1)).Nodup)
include hlist

/-- R82: the flag that a list gives a station, or that it keeps. -/
theorem Segment.find?_reset (k : Nat) :
    find? (c.reset now doze spacing window list).roster k =
      (find? c.roster k).map fun l => (c.reset now doze spacing window list).settled now { l with
        excluded := ((list.find? fun e => e.1 = k).map (·.2)).getD l.excluded } := by
  unfold Segment.reset
  rw [Segment.find?_derived, Segment.lock?_configured, Option.map_map, Segment.settled_derived, listedFlag_eq hlist]
  rfl

theorem Segment.resetStales_eq :
    c.resetStales now doze spacing window list = c.roster.any fun e =>
      ((c.reset now doze spacing window list).deadline? { e.2 with
        excluded := ((list.find? fun x => x.1 = e.1).map (·.2)).getD e.2.excluded }).any (· ≤ now) := by
  have hflagged : (c.configured doze spacing window list).roster = c.roster.map fun e => (e.1, { e.2 with
      excluded := ((list.find? fun x => x.1 = e.1).map (·.2)).getD e.2.excluded }) := by
    simp only [Segment.configured, listedFlag_eq hlist]
  have hdeadline (k : Lock) : (c.reset now doze spacing window list).deadline? k =
      (c.configured doze spacing window list).windowed.deadline? k := rfl
  unfold Segment.resetStales Segment.overdue
  rw [hflagged, List.any_map]
  simp only [hdeadline, Function.comp_def]

omit hlist in
/-- R82: the settings in their ranges, beside the doze measure. -/
theorem Segment.reset_eq (m : Measure) :
    { c.reset now doze spacing window list with measure := m } = { c with
      roster := (c.reset now doze spacing window list).roster, dozeTimer := doze, spacing := max 50 (min 1000 spacing)
      windowAsked := max 5 (min 120 window)
      window := max (max 5 (min 120 window)) (c.reset now doze spacing window list).sweepMinutes
      measure := m } := by
  have hwritten := (c.configured doze spacing window list).derived_eq now
  unfold Segment.reset
  rw [← clamp_eq (show 50 ≤ 1000 by decide) spacing, ← clamp_eq (show 5 ≤ 120 by decide) window]
  exact congrArg (fun x : Segment => { x with measure := m }) hwritten

end

/-- R79: the wake of OFF starts the measure again with no limit. -/
theorem State.reset_woken (s : State) (c : Segment) (g doze spacing window now : Nat) (list : List (Nat × Bool)) :
    (if s.wakesAt g doze then (c.reset now doze spacing window list).remeasured now
      else c.reset now doze spacing window list) =
      { c.reset now doze spacing window list with
        measure := if s.wakesAt g doze then { start := now, limit := none }
          else if doze = 0 then { c.measure with limit := none } else c.measure } := by
  cases hwakes : s.wakesAt g doze with
  | true =>
    unfold State.wakesAt at hwakes
    have hoff : doze = 0 := of_decide_eq_true (Bool.and_eq_true_iff.mp hwakes).1
    subst hoff
    rfl
  | false => rfl

/-- Settles O34: the settings written, the window derived again, and the wake of OFF. -/
theorem setSegmentWrites : Obligations.SetSegmentWrites := by
  intro tag g doze spacing window list s hacc
  refine ⟨exec_setSegment_of_range hacc, fun hin hunknown => ?_, fun hin henrolled hlist hr => ?_⟩
  · rw [State.exec_setSegment_of_inRange hacc hin, if_pos]
    simp only [not_forall, not_not] at hunknown
    obtain ⟨e, he, hnone⟩ := hunknown
    exact List.any_eq_true.mpr ⟨e, he, Option.isNone_iff_eq_none.mpr hnone⟩
  · obtain ⟨t, ht⟩ : ∃ t, t = s.configureSegment g doze spacing window list := ⟨_, rfl⟩
    have hrun := State.exec_setSegment_of_inRange hacc hin
    have hknown : ¬(list.any fun e => (s.lock? g e.1).isNone) = true := fun h => by
      obtain ⟨e, he, hnone⟩ := List.any_eq_true.mp h
      exact henrolled e he (Option.isNone_iff_eq_none.mp hnone)
    rw [if_neg hknown, ← ht] at hrun
    obtain ⟨hlink, hseg, hother, hnfu, hframe⟩ := State.configureSegment_reads doze spacing window list hr ht
    rw [State.reset_woken] at hseg
    have hfind := (s.seg g).find?_reset s.sck.elapsed doze spacing window hlist
    have hstales := (s.seg g).resetStales_eq s.sck.elapsed doze spacing window hlist
    have hstays (body : List Byte) : (t.answered tag .ok body).seg g = t.seg g := rfl
    refine ⟨_, hrun, fun k => ?_, ?_, hother, hlink, ?_, ?_⟩
    · rw [hstays, hseg]
      exact (congrArg (fun c : Segment => find? c.roster k) hseg).trans (hfind k)
    · rw [hstays, hseg]
      exact (s.seg g).reset_eq s.sck.elapsed doze spacing window _
    · dsimp only
      rw [hstays, hseg]
      exact hnfu.trans (if_congr (iff_of_eq (congrArg (· = true) hstales)) rfl rfl)
    · rw [hframe]
      rfl

end Sys2Proof.Machine
end

section
/-! The settings of the tab unit and the charge calculator (R87, R91, R102, R103, R113 to R116). -/

namespace Sys2Proof.Machine

set_option Elab.async false

/-- A number written into a set, or out of it. -/
theorem getLsbD_setMember_if {w n : Nat} (set : BitVec w) (h : n < w) (b : Bool) (k : Nat) :
    (setMember set n b).getLsbD k = if k = n then b else set.getLsbD k := by
  cases b with
  | true =>
    rw [getLsbD_setMember set h]
    by_cases hk : k = n <;> simp [hk]
  | false =>
    unfold setMember
    rw [if_neg Bool.false_ne_true, BitVec.getLsbD_and, BitVec.getLsbD_not, BitVec.getLsbD_ofNat, Nat.testBit_two_pow]
    by_cases hk : k = n
    · simp [hk, h]
    · by_cases hw : k < w
      · simp [hk, hw, Ne.symm hk]
      · simp [hk, BitVec.getLsbD_of_ge set k (by omega)]

/-- R113: the tabs that keep a venue in use. -/
theorem State.tabAtVenue_iff (s : State) (v : Nat) :
    s.tabAtVenue v = true ↔ ∃ e ∈ s.tu.slots, ∃ x, e.2.tab = some x ∧ x.venue = v := by
  unfold State.tabAtVenue
  rw [List.any_eq_true]
  refine exists_congr fun e => and_congr_right fun _ => ?_
  cases e.2.tab <;> simp

/-- R87: the checks of BIND TERMINAL in their order. -/
theorem bindTerminal_eq (t : Nat) (v : Option Nat) (s : State) :
    bindTerminal t v s =
      if t < 1 ∨ 64 < t ∨ (∃ n, v = some n ∧ 31 < n) then s.refuse .range
      else if ∃ n, v = some n ∧ (s.venue n).inUse = false then s.refuse .notFound
      else if (s.terminal t).tabs ≠ [] ∧ (s.terminal t).venue ≠ v then s.refuse .tabsOpen
      else (s.setTerminal t { s.terminal t with venue := v }, Reply.ok (opt (be 1) (s.terminal t).venue)) := by
  unfold bindTerminal Config.terminals Config.lastVenue
  simp [Option.any_eq_true]

/-- R113: the checks of SET VENUE in their order. -/
theorem setVenue_eq (v : Nat) (row : VenueRow) (s : State) :
    setVenue v row s =
      let kept := { row with serviceRate := min row.serviceRate 2500, taxRate := min row.taxRate 2500 }
      if 31 < v then s.refuse .range
      else if row.inUse = false ∧ (∃ e ∈ s.tu.slots, ∃ x, e.2.tab = some x ∧ x.venue = v) then s.refuse .tabsOpen
      else ({ s with cc := { s.cc with venues := setD s.cc.venues v coldVenue kept } }, Reply.ok kept.bytes) := by
  unfold setVenue Config.lastVenue
  simp only [← State.tabAtVenue_iff, Bool.and_eq_true, Bool.not_eq_true']

/-- R114: the cap as SET CLASS answers it (log 12). -/
theorem capOfCode_getD (code : Nat) : (capOfCode code).getD 7 = if code = 0 then 1 else code := by
  unfold capOfCode
  split
  · simp_all
  · simp only [Option.getD_some]
    split <;> omega

/-- R114: SET CLASS with its cap as the rule gives it. -/
theorem setClass_eq (c rate code : Nat) (s : State) :
    setClass c rate code s =
      let row : ClassRow := { rate := min rate 5000, cap := if code = 7 then none else some (max 1 code) }
      if 7 < c ∨ 7 < code then s.refuse .range
      else ({ s with cc := { s.cc with classes := setD s.cc.classes c ClassRow.cold row } },
        Reply.ok (be 4 (min rate 5000) ++ be 1 (if code = 0 then 1 else code))) := by
  have hcap : capOfCode code = if code = 7 then none else some (max 1 code) := by
    rw [capOfCode, Nat.max_comm]
  unfold setClass ClassRow.bytes
  dsimp only
  rw [capOfCode_getD, hcap]
  rfl

/-- R102: the set written is read back, and the set of no other class and venue differs. -/
theorem State.barred_setRestriction (s : State) (c v : Nat) (barred : BitVec 16) (d w : Nat) :
    ({ s with cc := { s.cc with restrictions := setD s.cc.restrictions (c * 32 + v) 0 barred } } : State).barred d w =
      if d * 32 + w = c * 32 + v then barred else s.barred d w :=
  getD_setD ..

theorem setHold_of_range {v : Nat} (held : Bool) (s : State) (h : 31 < v) : setHold v held s = s.refuse .range := if_pos h

theorem setHold_of_venue {v : Nat} (held : Bool) (s : State) (h : ¬31 < v) :
    setHold v held s = ({ s with tu := { s.tu with holds := setMember s.tu.holds v held } }, Reply.ok []) := if_neg h

theorem setRefusalReporting_of_range {v : Nat} (record notice : Bool) (s : State) (h : 31 < v) :
    setRefusalReporting v record notice s = s.refuse .range := if_pos h

theorem setRefusalReporting_of_venue {v : Nat} (record notice : Bool) (s : State) (h : ¬31 < v) :
    setRefusalReporting v record notice s =
      ({ s with nfu := { s.nfu with refusalRecord := setMember s.nfu.refusalRecord v record
                                    refusalNotice := setMember s.nfu.refusalNotice v notice } }, Reply.ok []) :=
  if_neg h

theorem setRestriction_of_range {c v : Nat} (barred : BitVec 16) (s : State) (h : 7 < c ∨ 31 < v) :
    setRestriction c v barred s = s.refuse .range := if_pos h

theorem setRestriction_of_row {c v : Nat} (barred : BitVec 16) (s : State) (h : ¬(7 < c ∨ 31 < v)) :
    setRestriction c v barred s =
      ({ s with cc := { s.cc with restrictions := setD s.cc.restrictions (c * 32 + v) 0 barred } }, Reply.ok []) :=
  if_neg h

/-- A command's two outcomes, its owner's refusal or its change, each with the answer that PP then holds. -/
theorem answer_ite {p : Prop} [Decidable p] (s : State) (c : Code) (tag : Tag) (t : State × Reply) :
    ((if p then s.refuse c else t).1.answer tag (if p then s.refuse c else t).2) =
      if p then s.answered tag c [] else t.1.answer tag t.2 := by
  split <;> rfl

/-- Settles O37, command by command. -/
theorem venueSettings : Obligations.VenueSettings := by
  intro tag s
  refine ⟨fun t v hacc => ?_, fun v held hacc hv => ?_, fun v held hacc hv => ?_, fun v r n hacc hv => ?_,
    fun v r n hacc hv => ?_, fun c v barred hacc hcv => ?_, fun c v barred hacc hc hv => ?_, fun v row hacc => ?_,
    fun c rate code hacc => ?_, fun x hacc => ?_, fun capped w hacc => ?_⟩
  · refine (State.onCommand_of_accepts hacc tag (bindTerminal t v)).trans (congrArg _ ?_)
    rw [bindTerminal_eq, answer_ite, answer_ite, answer_ite]
    rfl
  · refine (State.onCommand_of_accepts hacc tag (setHold v held)).trans (congrArg _ ?_)
    rw [setHold_of_range held s hv]
    rfl
  · refine ⟨_, State.onCommand_of_accepts hacc tag (setHold v held), ?_⟩
    rw [setHold_of_venue held s (by omega)]
    exact ⟨getLsbD_setMember_if _ (by omega) held, rfl⟩
  · refine (State.onCommand_of_accepts hacc tag (setRefusalReporting v r n)).trans (congrArg _ ?_)
    rw [setRefusalReporting_of_range r n s hv]
    rfl
  · refine ⟨_, State.onCommand_of_accepts hacc tag (setRefusalReporting v r n), ?_⟩
    rw [setRefusalReporting_of_venue r n s (by omega)]
    exact ⟨getLsbD_setMember_if _ (by omega) r, getLsbD_setMember_if _ (by omega) n, rfl⟩
  · refine (State.onCommand_of_accepts hacc tag (setRestriction c v barred)).trans (congrArg _ ?_)
    rw [setRestriction_of_range barred s hcv]
    rfl
  · refine ⟨_, State.onCommand_of_accepts hacc tag (setRestriction c v barred), ?_⟩
    rw [setRestriction_of_row barred s (by omega)]
    refine ⟨(s.barred_setRestriction c v barred c v).trans (if_pos rfl), fun d w hw hne => ?_, rfl⟩
    refine (s.barred_setRestriction c v barred d w).trans (if_neg fun heq => hne ?_)
    have hd : d = c := by omega
    have hw' : w = v := by omega
    rw [hd, hw']
  · refine (State.onCommand_of_accepts hacc tag (setVenue v row)).trans (congrArg _ ?_)
    rw [setVenue_eq]
    dsimp only
    rw [answer_ite, answer_ite]
    rfl
  · refine (State.onCommand_of_accepts hacc tag (setClass c rate code)).trans (congrArg _ ?_)
    rw [setClass_eq]
    dsimp only
    rw [answer_ite]
    rfl
  · exact State.onCommand_of_accepts hacc tag (setTaxState x)
  · refine (State.onCommand_of_accepts hacc tag (setCap capped w)).trans (congrArg _ ?_)
    rw [setCap, clamp_eq (by decide)]
    rfl

end Sys2Proof.Machine
end

section
/-! What the tab unit's writes leave to be read: slots, terminals and persons (R88, R89, R94, R96, R98). -/

namespace Sys2Proof.Machine

set_option Elab.async false

theorem State.slot_setSlot (s : State) (n m : Nat) (x : Slot) :
    (s.setSlot n x).slot m = if m = n then x else s.slot m := getD_setD ..

theorem State.terminal_setTerminal (s : State) (n m : Nat) (x : Terminal) :
    (s.setTerminal n x).terminal m = if m = n then x else s.terminal m := getD_setD ..

theorem State.slot_of_tu {s t : State} (h : t.tu = s.tu) (n : Nat) : t.slot n = s.slot n := by
  unfold State.slot
  rw [h]

theorem State.terminal_of_tu {s t : State} (h : t.tu = s.tu) (n : Nat) : t.terminal n = s.terminal n := by
  unfold State.terminal
  rw [h]

theorem State.person?_of_pt {s t : State} (h : t.pt = s.pt) (p : Nat) : t.person? p = s.person? p := by
  unfold State.person?
  rw [h]

theorem State.modPerson_of_some {s : State} {p : Nat} {r : Person} (hr : s.person? p = some r) (f : Person → Person) :
    s.modPerson p f = s.setPerson p (f r) := by
  unfold State.modPerson
  simp only [hr]

theorem State.person?_modPerson_of_some {s : State} {p : Nat} {r : Person} (hr : s.person? p = some r)
    (f : Person → Person) (q : Nat) : (s.modPerson p f).person? q = if q = p then some (f r) else s.person? q := by
  rw [State.modPerson_of_some hr, State.person?_setPerson]

/-! ### The append (R125) -/

theorem State.signalFill_congr {s t : State} (hpq : t.pq = s.pq) (hnfu : t.nfu = s.nfu) :
    t.signalFill.pq = s.signalFill.pq ∧ t.signalFill.nfu = s.signalFill.nfu := by
  have hfill : t.fill = s.fill := by
    unfold State.fill
    rw [hpq]
  unfold State.signalFill
  rw [hfill]
  split <;> split <;> simp [State.raise, hpq, hnfu]

/-- R125: what an append does to the queue and the notices is decided by them alone. -/
theorem State.append_congr {s t : State} (hpq : t.pq = s.pq) (hnfu : t.nfu = s.nfu) (time : Nat) (person : Option Nat)
    (day : Nat) (body : PostingBody) :
    (t.append time person day body).pq = (s.append time person day body).pq ∧
      (t.append time person day body).nfu = (s.append time person day body).nfu := by
  have hfree : t.free = s.free := by
    unfold State.free State.fill
    rw [hpq]
  by_cases h : s.free < 1
  · rw [State.append_of_full h, State.append_of_full (hfree ▸ h)]
    exact ⟨hpq, hnfu⟩
  · rw [State.append_of_room h, State.append_of_room (hfree ▸ h)]
    refine State.signalFill_congr ?_ hnfu
    unfold State.enqueue
    rw [hpq]

/-- R129: an append takes at most one free entry. -/
theorem State.free_append (s : State) (time : Nat) (person : Option Nat) (day : Nat) (body : PostingBody) :
    s.free - 1 ≤ (s.append time person day body).free := by
  by_cases h : s.free < 1
  · rw [State.append_of_full h]
    omega
  · have hfree : (s.enqueue ⟨s.pq.next, time, person, day, body⟩).signalFill.free =
        (s.enqueue ⟨s.pq.next, time, person, day, body⟩).free := by
      unfold State.signalFill
      split <;> split <;> rfl
    rw [State.append_of_room h, hfree]
    simp only [State.free, State.fill, State.enqueue, List.length_append, List.length_singleton]
    omega

/-! ### The roll (R94) -/

theorem State.person?_roll {s : State} {p : Nat} {r : Person} (hr : s.person? p = some r) (q : Nat) :
    (s.roll p).person? q =
      if q = p then some { r with folio := r.folio.rolled s.sck.openDay } else s.person? q := by
  have hposted (t : State) (ht : t.pt = s.pt) : t.person? q = s.person? q := State.person?_of_pt ht q
  unfold State.roll Folio.rolled
  simp only [hr]
  by_cases hbehind : r.folio.day < s.sck.openDay
  · rw [if_pos hbehind, if_pos hbehind, State.person?_setPerson]
    split
    · rfl
    · exact hposted _ (by split <;> simp)
  · rw [if_neg hbehind, if_neg hbehind]
    by_cases hq : q = p
    · rw [if_pos hq, hq, hr]
    · rw [if_neg hq]

/-- R94: the queue and the notices after a roll, which they and the clock decide. -/
theorem State.roll_posts {s t : State} {p : Nat} {r : Person} (hr : t.person? p = some r) (hpq : t.pq = s.pq)
    (hnfu : t.nfu = s.nfu) (hsck : t.sck = s.sck) :
    (t.roll p).pq = (s.rollPosted p r.folio).pq ∧ (t.roll p).nfu = (s.rollPosted p r.folio).nfu := by
  unfold State.roll State.rollPosted
  simp only [hr, hsck]
  by_cases hbehind : r.folio.day < s.sck.openDay
  · by_cases hspend : r.folio.dailySpend = 0
    · simp [hbehind, hspend, hpq, hnfu]
    · have hposts := State.append_congr hpq hnfu s.sck.clock (some p) s.sck.openDay
        (.dayTotal r.folio.day r.folio.dailySpend)
      simp [hbehind, hspend, hposts]
  · simp [hbehind, hpq, hnfu]

theorem State.rollPosted_frame (s : State) (p : Nat) (f : Folio) :
    s.rollPosted p f = { s with pq := (s.rollPosted p f).pq, nfu := (s.rollPosted p f).nfu } := by
  unfold State.rollPosted
  split
  · apply State.eq_of_fields <;> simp
  · rfl

theorem TabUnit.eq_of_holds {u w : TabUnit} (h : u.holds = w.holds) :
    u = { w with slots := u.slots, terminals := u.terminals } := by
  rw [← h]

/-! ### A tab created (R88, R94) -/

/-- R88: the reference of the next tab of a slot. -/
def State.nextRef (s : State) (n : Nat) : TabRef := { slot := n, use := ((s.slot n).use + 1) % 256 }

/-- R94: a tab as it is created. -/
def newTab (terminal venue person now : Nat) : Tab :=
  { terminal := terminal, venue := venue, person := person, opened := now, lines := [], total := 0, voidable := false }

theorem State.createTab_ref (s : State) (n terminal venue p : Nat) :
    (s.createTab n terminal venue p).2 = s.nextRef n := rfl

theorem State.slot_createTab (s : State) (n terminal venue p m : Nat) :
    (s.createTab n terminal venue p).1.slot m =
      if m = n then { use := (s.nextRef n).use, tab := some (newTab terminal venue p s.sck.clock) } else s.slot m :=
  (State.slot_of_tu (State.modPerson_tu ..) m).trans (s.slot_setSlot n m _)

theorem State.terminal_createTab (s : State) (n terminal venue p m : Nat) :
    (s.createTab n terminal venue p).1.terminal m =
      if m = terminal then { s.terminal m with tabs := (s.terminal m).tabs ++ [s.nextRef n] } else s.terminal m := by
  refine (State.terminal_of_tu (State.modPerson_tu ..) m).trans ((State.terminal_setTerminal _ terminal m _).trans ?_)
  by_cases hm : m = terminal
  · rw [if_pos hm, if_pos hm, hm]
    rfl
  · rw [if_neg hm, if_neg hm]
    rfl

theorem State.person?_createTab {s : State} {p : Nat} {r : Person} (hr : s.person? p = some r) (n terminal venue q : Nat) :
    (s.createTab n terminal venue p).1.person? q =
      if q = p then some { r with tabs := r.tabs ++ [s.nextRef n] } else s.person? q :=
  State.person?_modPerson_of_some (s := (s.setSlot n _).setTerminal terminal _) hr _ q

/-! ### A line added (R96) -/

theorem State.slot_putLine (s : State) (n : Nat) (t : Tab) (line : Line) (total m : Nat) :
    (s.putLine n t line total).slot m =
      if m = n then { use := (s.slot n).use
                      tab := some { t with lines := t.lines ++ [line], total := total, voidable := true } }
      else s.slot m :=
  (State.slot_of_tu (State.modPerson_tu ..) m).trans (s.slot_setSlot n m _)

theorem State.terminal_putLine (s : State) (n : Nat) (t : Tab) (line : Line) (total m : Nat) :
    (s.putLine n t line total).terminal m = s.terminal m :=
  State.terminal_of_tu (s := s.setSlot n _) (State.modPerson_tu ..) m

/-- R96, R119: a person whose tab has a line added. -/
def Person.lineAdded (r : Person) (oldTotal total : Nat) (capped : Bool) (e : Serving) : Person :=
  { r with
    folio := { r.folio with held := r.folio.held + total - oldTotal }
    servings := if capped then addServing r.servings e else r.servings }

theorem State.person?_putLine {s : State} {t : Tab} {r : Person} (hr : s.person? t.person = some r) (n : Nat)
    (line : Line) (total q : Nat) :
    (s.putLine n t line total).person? q =
      if q = t.person then some (r.lineAdded t.total total (s.isCapped line.category)
        { stamp := s.minute, slot := n, line := t.lines.length, count := line.quantity }) else s.person? q :=
  State.person?_modPerson_of_some (s := s.setSlot n _) hr _ q

theorem State.person?_pruneIf {s : State} {p : Nat} {r : Person} (hr : s.person? p = some r) (made : Bool) (q : Nat) :
    (s.pruneIf p made).person? q =
      if q = p then some { r with servings := if made then s.prune r.servings else r.servings } else s.person? q := by
  unfold State.pruneIf
  cases made with
  | true => exact State.person?_modPerson_of_some hr _ q
  | false =>
    by_cases hq : q = p
    · simp [hq, hr]
    · simp [hq]

/-- R118, R119: the pruning of a capped check and the line that follows it, as one change of the list. -/
theorem State.served_eq (s : State) (l : List Serving) (category : Nat) (e : Serving) :
    s.served l category e = if s.isCapped category then addServing (s.prune l) e else l := by
  unfold State.served State.isCapped inSet addServing State.prune pruneServings Serving.counts Config.servingEntries
  simp only [← not_lt, ite_not]

/-! ### A tab dropped (R98) -/

/-- R98: the tab of a slot dropped, and its person's folio changed with it. -/
theorem State.tabGone_dropTab {s t : State} {x : Tab} {r : Person} (hpt : t.pt = s.pt) (htu : t.tu = s.tu)
    (hr : s.person? x.person = some r) (n : Nat) (f : Folio → Folio) :
    s.tabGone ((t.dropTab n x).modPerson x.person fun r => { r with folio := f r.folio }) n x r (f r.folio) := by
  have hslot (m : Nat) : t.slot m = s.slot m := State.slot_of_tu htu m
  have hterminal (m : Nat) : t.terminal m = s.terminal m := State.terminal_of_tu htu m
  have hperson (q : Nat) : t.person? q = s.person? q := State.person?_of_pt hpt q
  have hdropped (q : Nat) : (t.dropTab n x).person? q =
      if q = x.person then some { r with tabs := r.tabs.filter (· ≠ ⟨n, (s.slot n).use⟩) } else s.person? q := by
    rw [← hperson q, ← hslot n]
    exact State.person?_modPerson_of_some (s := (t.setSlot n _).setTerminal x.terminal _) ((hperson _).trans hr) _ q
  refine ⟨fun m => ?_, fun m => ?_, fun q => ?_⟩
  · rw [State.slot_of_tu (State.modPerson_tu ..), ← hslot n, ← hslot m]
    exact (State.slot_of_tu (State.modPerson_tu ..) m).trans (t.slot_setSlot n m _)
  · rw [State.terminal_of_tu (State.modPerson_tu ..), ← hslot n, ← hterminal m]
    refine (State.terminal_of_tu (State.modPerson_tu ..) m).trans
      ((State.terminal_setTerminal (t.setSlot n _) x.terminal m _).trans ?_)
    by_cases hm : m = x.terminal
    · rw [if_pos hm, if_pos hm, hm]
    · rw [if_neg hm, if_neg hm]
      rfl
  · rw [State.person?_modPerson_of_some ((hdropped _).trans (if_pos rfl)), hdropped q]
    split <;> rfl

end Sys2Proof.Machine
end

section
/-! A request of a venue: its checks (R92, R93, R95), and its answer with the report of a refusal (R90, R103). -/

namespace Sys2Proof.Machine

set_option Elab.async false

/-! ### The answer and the report (R90, R103) -/

/-- R90: the answer to a venue request. -/
def venueAnswer (f : Frame) (c : Code) (body : List Byte) : Frame :=
  { station := f.station, kind := 0x2F, tag := f.tag, body := be 1 c.number ++ body }

/-- R103, log 33: the venue that a refusal of a request is reported for. -/
def State.refusalVenue? (s : State) (terminal : Nat) (ref : Option TabRef) : Option Nat :=
  ((ref.bind (s.findTab terminal)).map (·.venue)).or (s.boundVenue? terminal)

theorem State.onVenue_of_range {s : State} {f : Frame} (h : f.station < 1 ∨ 64 < f.station) (ref : Option TabRef)
    (category : Option Nat) (serve : State → Served) :
    s.onVenue f ref category serve = s.recordFault (frameFault .stationUnknown vlLink f) := if_pos h

/-- R103: the report of a refusal as the venue's two sets ask for it. -/
theorem State.reportRefusal_eq (s : State) (v terminal : Nat) (person category : Option Nat) (c : Code) :
    s.reportRefusal v terminal person category c = s.refusalReported v terminal person category c := by
  have hroom : 1 ≤ s.room ↔ s.pq.records.length < 3840 := by
    unfold State.room State.free State.fill Config.queueRecords Config.queueReserve
    omega
  unfold State.reportRefusal State.refusalReported inSet
  simp only [Bool.and_eq_true, decide_eq_true_eq, hroom]

/-- R90, R103: a request served, at a terminal in range. -/
theorem State.onVenue_of_served {s : State} {f : Frame} (h1 : 1 ≤ f.station) (h64 : f.station ≤ 64) (ref : Option TabRef)
    (category : Option Nat) {serve : State → Served} {r : Served} (hr : serve s = r) :
    s.onVenue f ref category serve =
      (match s.refusalVenue? f.station ref with
        | some v =>
          if Code.reported r.code then r.state.refusalReported v f.station r.person category r.code else r.state
        | none => r.state).queueAnswer 0 (venueAnswer f r.code r.body) := by
  unfold State.onVenue State.refusalVenue?
  rw [if_neg (show ¬(f.station < 1 ∨ Config.terminals < f.station) by unfold Config.terminals; omega)]
  dsimp only
  rw [hr]
  cases ref.bind (s.findTab f.station) <;> cases s.boundVenue? f.station <;> simp [State.reportRefusal_eq] <;> rfl

/-- R90: an answer that is no venue refusal, or one for which no venue can be named, is not reported. -/
theorem State.onVenue_of_unreported {s u : State} {f : Frame} (h1 : 1 ≤ f.station) (h64 : f.station ≤ 64)
    {ref : Option TabRef} (category : Option Nat) {serve : State → Served} {c : Code} {body : List Byte}
    {person : Option Nat} (hr : serve s = { state := u, code := c, body := body, person := person })
    (h : Code.reported c = false ∨ s.refusalVenue? f.station ref = none) :
    s.onVenue f ref category serve = u.queueAnswer 0 (venueAnswer f c body) := by
  rw [State.onVenue_of_served h1 h64 ref category hr]
  rcases h with h | h
  · simp only [h]
    split <;> rfl
  · simp only [h]

/-- R103: a refusal at a venue. -/
theorem State.onVenue_of_declined {s u : State} {f : Frame} (h1 : 1 ≤ f.station) (h64 : f.station ≤ 64)
    {ref : Option TabRef} {category : Option Nat} {serve : State → Served} {c : Code} {person : Option Nat} {v : Nat}
    (hr : serve s = u.decline c person) (hv : s.refusalVenue? f.station ref = some v) (hc : Code.reported c = true) :
    s.onVenue f ref category serve =
      (u.refusalReported v f.station person category c).queueAnswer 0 (venueAnswer f c []) := by
  rw [State.onVenue_of_served h1 h64 ref category hr]
  simp only [hv, State.decline, hc, if_true]

theorem State.declines_queueAnswer (u : State) (f : Frame) (c : Code) :
    u.declines (u.queueAnswer 0 (venueAnswer f c [])) f c := by
  unfold venueAnswer
  rw [List.append_nil]
  exact ⟨State.answerWaits_queueAnswer rfl 0 f 0x2F _, State.queueAnswer_frame u 0 _⟩

/-! ### The tab of a reference (R88) -/

theorem State.findTab_of_slot {s : State} {ref : TabRef} {x : Tab}
    (h : s.slot ref.slot = { use := ref.use, tab := some x }) : s.findTab x.terminal ref = some x := by
  unfold State.findTab
  simp [h]

theorem State.findTab_of_absent {s : State} {terminal : Nat} {ref : TabRef}
    (h : ∀ x, s.slot ref.slot = { use := ref.use, tab := some x } → x.terminal ≠ terminal) :
    s.findTab terminal ref = none := by
  unfold State.findTab
  obtain ⟨use, tab, hslot⟩ : ∃ use tab, s.slot ref.slot = { use := use, tab := tab } := ⟨_, _, rfl⟩
  rw [hslot] at h ⊢
  cases tab with
  | none => rfl
  | some x =>
    refine if_neg fun hx => h x ?_ hx.2
    exact congrArg (fun u => ({ use := u, tab := some x } : Slot)) hx.1

theorem State.boundVenue?_of_inUse {s : State} {terminal v : Nat} (hv : (s.terminal terminal).venue = some v)
    (hin : (s.venue v).inUse = true) : s.boundVenue? terminal = some v := by
  unfold State.boundVenue?
  simp only [hv, hin, if_true]

theorem State.boundVenue?_of_unbound {s : State} {terminal : Nat}
    (h : ∀ v, (s.terminal terminal).venue = some v → (s.venue v).inUse = false) : s.boundVenue? terminal = none := by
  unfold State.boundVenue?
  cases hv : (s.terminal terminal).venue with
  | none => rfl
  | some v => simp [h v hv]

/-! ### The checks of a card (R92, R93) -/

/-- R38: the state with the evidence of a card at a venue. -/
def State.shown (s : State) (terminal v person : Nat) (serial : Serial) : State :=
  s.sendEvidence { person := person, time := s.sck.clock, serial := serial, source := .venue v terminal, offline := false }

section card

variable {s : State} {f : Frame} {serial : Serial} {tests : Bool} {v : Nat} {e : Card}

theorem State.cardAsk_of_unbound (h : s.boundVenue? f.station = none) (serial : Serial) (tests : Bool) :
    s.cardAsk f serial tests =
      .declined ((s.recordFault (frameFault .stationUnknown vlLink f)).decline .unbound none) := by
  unfold State.cardAsk
  simp only [h]

theorem State.cardAsk_of_held (hv : s.boundVenue? f.station = some v) (h : s.venueHeld v = true) (serial : Serial) :
    s.cardAsk f serial true = .declined (s.decline .held none) := by
  unfold State.cardAsk
  simp only [hv, h, Bool.and_self, if_true]

variable (hv : s.boundVenue? f.station = some v) (hheld : tests = true → s.venueHeld v = false)
include hv hheld

theorem State.cardAsk_of_unheld :
    s.cardAsk f serial tests =
      match s.card? serial with
      | none => .declined (s.decline .unknownCard none)
      | some e =>
        match e.state with
        | .revoked _ =>
          .declined ((s.revokedUse e.person serial (.venue v f.station)).decline .revoked (some e.person))
        | .active =>
          match s.person? e.person with
          | none => .declined ((s.shown f.station v e.person serial).decline .presence (some e.person))
          | some r =>
            if r.presence = .aboard then .passed (s.shown f.station v e.person serial) v e.person r
            else .declined ((s.shown f.station v e.person serial).decline .presence (some e.person)) := by
  unfold State.cardAsk
  simp only [hv]
  exact if_neg (by cases tests <;> simp_all)

theorem State.cardAsk_of_unknown (hcard : s.card? serial = none) :
    s.cardAsk f serial tests = .declined (s.decline .unknownCard none) := by
  rw [State.cardAsk_of_unheld hv hheld]
  simp only [hcard]

theorem State.cardAsk_of_revoked {day : Nat} (hcard : s.card? serial = some e) (hstate : e.state = .revoked day) :
    s.cardAsk f serial tests =
      .declined ((s.revokedUse e.person serial (.venue v f.station)).decline .revoked (some e.person)) := by
  rw [State.cardAsk_of_unheld hv hheld]
  simp only [hcard, hstate]

theorem State.cardAsk_of_away {r : Person} (hcard : s.card? serial = some e) (hstate : e.state = .active)
    (hr : s.person? e.person = some r) (haway : r.presence ≠ .aboard) :
    s.cardAsk f serial tests =
      .declined ((s.shown f.station v e.person serial).decline .presence (some e.person)) := by
  rw [State.cardAsk_of_unheld hv hheld]
  simp only [hcard, hstate, hr, if_neg haway]

theorem State.cardAsk_of_aboard {r : Person} (hcard : s.card? serial = some e) (hstate : e.state = .active)
    (hr : s.person? e.person = some r) (haboard : r.presence = .aboard) :
    s.cardAsk f serial tests = .passed (s.shown f.station v e.person serial) v e.person r := by
  rw [State.cardAsk_of_unheld hv hheld]
  simp only [hcard, hstate, hr, if_pos haboard]

end card

/-- R93: a card that serves at its terminal. -/
theorem State.cardAsk_of_cardServes {s : State} {f : Frame} {serial : Serial} {tests : Bool} {v p : Nat} {r : Person}
    (h : s.cardServes f.station serial v p r) (hheld : tests = true → s.venueHeld v = false) :
    s.cardAsk f serial tests = .passed (s.shown f.station v p serial) v p r := by
  obtain ⟨-, -, hvenue, hin, ⟨e, hcard, hstate, rfl⟩, hr, haboard⟩ := h
  exact State.cardAsk_of_aboard (State.boundVenue?_of_inUse hvenue hin) hheld hcard hstate hr haboard

/-! ### The checks of a new tab (R93) -/

theorem State.emptySlot?_eq_none (s : State) : s.emptySlot? = none ↔ ¬∃ k, k ≤ 255 ∧ (s.slot k).tab = none := by
  unfold State.emptySlot? Config.tabSlots
  rw [List.find?_range_eq_none]
  simp [Nat.lt_succ_iff, Option.isSome_iff_ne_none]

/-- R88: the lowest empty slot. -/
theorem State.emptySlot?_of_lowest {s : State} {n : Nat} (hn : n ≤ 255) (hempty : (s.slot n).tab = none)
    (hbelow : ∀ k, k < n → (s.slot k).tab ≠ none) : s.emptySlot? = some n := by
  unfold State.emptySlot? Config.tabSlots
  rw [List.find?_range_eq_some]
  refine ⟨by rw [hempty]; rfl, List.mem_range.mpr (by omega), fun k hk => ?_⟩
  cases htab : (s.slot k).tab with
  | none => exact absurd htab (hbelow k hk)
  | some x => rfl

/-- R93: checks 5 to 7 in their order. -/
theorem State.openRefusal?_eq (s : State) (terminal : Nat) (r : Person) :
    s.openRefusal? terminal r =
      if 2 ≤ r.tabs.length then some .personTabs
      else if 8 ≤ (s.terminal terminal).tabs.length then some .terminalTabs
      else if s.emptySlot? = none then some .tabStoreFull
      else if s.room < 2 then some .queueFull
      else if ¬r.folio.balance + (r.folio.held : Int) < (r.folio.creditLimit : Int) then some .limit
      else none := by
  unfold State.openRefusal? Config.personTabs Config.terminalTabs
  simp only [Option.isNone_iff_eq_none, ge_iff_le, not_lt]

theorem State.openRefusal?_of_tabOpens {s : State} {terminal v n : Nat} {r : Person} (h : s.tabOpens terminal v n r) :
    s.openRefusal? terminal r = none ∧ s.emptySlot? = some n := by
  obtain ⟨-, hperson, hterminal, hn, hempty, hbelow, hroom, hcredit⟩ := h
  have hslot : s.emptySlot? = some n := State.emptySlot?_of_lowest hn hempty hbelow
  refine ⟨?_, hslot⟩
  rw [State.openRefusal?_eq, if_neg (not_le.mpr hperson), if_neg (not_le.mpr hterminal), if_neg (by simp [hslot]),
    if_neg (not_lt.mpr hroom), if_neg (not_not_intro hcredit)]

/-! ### The checks of a line (R95, R110, R118) -/

theorem overCredit_iff (f : Folio) (old total : Nat) :
    overCredit f old total = true ↔ (f.creditLimit : Int) < f.balance + ((f.held : Int) - old + total) := by
  unfold overCredit
  rw [decide_eq_true_eq]
  omega

/-- R110: a test of a daily limit, present or absent, that is read as an integer. -/
theorem any_intCast_iff (limit : Option Nat) (p : Int → Bool) :
    Option.any p (do let d ← limit; pure (d : Int)) = true ↔ ∃ d : Nat, limit = some d ∧ p d = true := by
  cases limit <;> simp

theorem overDaily_iff (f : Folio) (openDay old total : Nat) :
    overDaily f openDay old total = true ↔ ∃ d, f.dailyLimit = some d ∧
      (d : Int) < (if f.day < openDay then 0 else f.dailySpend : Nat) + ((f.held : Int) - old + total) := by
  unfold overDaily Folio.spendOn
  rw [any_intCast_iff]
  refine exists_congr fun d => and_congr_right fun _ => ?_
  rw [decide_eq_true_eq]
  omega

/-- R95: the code of the line's checks is the outcome. -/
theorem State.checkLine_code (s : State) (r : Person) (v : Nat) (lines : List Line) (old category price quantity : Nat) :
    (s.checkLine r v lines old category price quantity).code =
      s.lineOutcome r v lines old category price quantity := by
  unfold State.checkLine State.lineOutcome
  simp only [apply_ite LineCheck.code, overCredit_iff, overDaily_iff, Nat.lt_one_iff, any_intCast_iff,
    decide_eq_true_eq]
  rfl

/-- R96: the new running total that the checks of a line are made with. -/
theorem State.checkLine_total (s : State) (r : Person) (v : Nat) (lines : List Line) (old category price quantity : Nat) :
    (s.checkLine r v lines old category price quantity).total =
      (s.price v r.cls (lines ++ [newLine category price quantity])).total := by
  unfold State.checkLine
  simp only [apply_ite LineCheck.total, ite_self]

/-- R118: a capped check has been made of a capped line that is refused for the cap or goes on to the limits. -/
theorem State.checkLine_capChecked (s : State) (r : Person) (v : Nat) (lines : List Line)
    (old category price quantity : Nat) {c : LineCheck} (hc : s.checkLine r v lines old category price quantity = c) :
    c.capChecked = (s.isCapped category && decide (c.code = .cap ∨ c.code = .limit ∨ c.code = .daily ∨ c.code = .ok)) := by
  subst hc
  unfold State.checkLine
  dsimp only
  split
  · simp
  split
  · simp
  split
  · simp
  split
  · simp_all
  split
  · simp
  split <;> simp

/-- R95: a line that is in order passes every check. -/
theorem State.lineOutcome_of_lineOk {s : State} {r : Person} {v : Nat} {lines : List Line} {old category price quantity : Nat}
    (h : s.lineOk r v lines old (s.price v r.cls (lines ++ [newLine category price quantity])).total category price
      quantity) : s.lineOutcome r v lines old category price quantity = .ok := by
  obtain ⟨hcategory, hprice, hone, hquantity, hbarred, hlines, hcap, hcredit, hdaily⟩ := h
  unfold newLine at hcredit hdaily
  unfold State.lineOutcome
  dsimp only
  rw [if_neg (by omega), if_neg (by simp [hbarred]), if_neg (by omega), if_neg ?_, if_neg (by omega), if_neg ?_]
  · rw [any_intCast_iff]
    rintro ⟨d, hd, hover⟩
    have hwithin := hdaily d hd
    rw [decide_eq_true_eq] at hover
    split at hover <;> simp_all <;> omega
  · rw [Bool.and_eq_true, Option.any_eq_true]
    rintro ⟨hcapped, k, hk, hover⟩
    exact absurd (of_decide_eq_true hover) (not_lt.mpr (hcap hcapped k hk))

end Sys2Proof.Machine
end

section
/-! OPEN TAB and QUERY BALANCE that pass every check (R93, R94, R99). -/

namespace Sys2Proof.Machine

set_option Elab.async false

theorem exec_openTab {st : Nat} {tag : Byte} {serial : Serial} {s0 s : State} {f : Frame}
    (hi : (Instr.openTab st tag serial).stationFrame = some (0, f)) (h : s0.takeFrame 0 f = some s) :
    exec (.openTab st tag serial) s0 = .next (s.onVenue f none none (openTab f serial)) :=
  State.onFrame_of_takeFrame hi h fun _ f s1 => s1.onVenue f none none (openTab f serial)

theorem exec_queryBalance {st : Nat} {tag : Byte} {serial : Serial} {s0 s : State} {f : Frame}
    (hi : (Instr.queryBalance st tag serial).stationFrame = some (0, f)) (h : s0.takeFrame 0 f = some s) :
    exec (.queryBalance st tag serial) s0 = .next (s.onVenue f none none (queryBalance f serial)) :=
  State.onFrame_of_takeFrame hi h fun _ f s1 => s1.onVenue f none none (queryBalance f serial)

/-! ### A tab opened (R94, R100) -/

/-- R94, R100: the evidence of the card, the roll, the pruning of a capped check, and a tab in a slot. -/
def State.tabOpened (s : State) (n terminal v p : Nat) (serial : Serial) (capChecked : Bool) : State :=
  ((((s.shown terminal v p serial).roll p).pruneIf p capChecked).createTab n terminal v p).1

/-- R94, R118: a person whose tab has been opened. -/
def Person.tabOpened (r : Person) (openDay : Nat) (servings : List Serving) (ref : TabRef) : Person :=
  { r with tabs := r.tabs ++ [ref], folio := r.folio.rolled openDay, servings := servings }

section opened

variable (s : State) (n terminal v : Nat) {p : Nat} {r : Person} (serial : Serial) (capChecked : Bool)

theorem State.slot_tabOpened (p m : Nat) :
    (s.tabOpened n terminal v p serial capChecked).slot m =
      if m = n then { use := (s.nextRef n).use, tab := some (newTab terminal v p s.sck.clock) } else s.slot m := by
  have hslot (k : Nat) : (((s.shown terminal v p serial).roll p).pruneIf p capChecked).slot k = s.slot k :=
    State.slot_of_tu (by rw [State.pruneIf_tu, State.roll_tu]; rfl) k
  have hsck : (((s.shown terminal v p serial).roll p).pruneIf p capChecked).sck = s.sck := by
    rw [State.pruneIf_sck, State.roll_sck]
    rfl
  unfold State.tabOpened
  rw [State.slot_createTab, State.nextRef, hslot, hslot, hsck]
  rfl

theorem State.terminal_tabOpened (p m : Nat) :
    (s.tabOpened n terminal v p serial capChecked).terminal m =
      if m = terminal then { s.terminal m with tabs := (s.terminal m).tabs ++ [s.nextRef n] } else s.terminal m := by
  have htu : (((s.shown terminal v p serial).roll p).pruneIf p capChecked).tu = s.tu := by
    rw [State.pruneIf_tu, State.roll_tu]
    rfl
  unfold State.tabOpened
  rw [State.terminal_createTab, State.nextRef, State.slot_of_tu htu, State.terminal_of_tu htu]
  rfl

variable {s}

theorem State.person?_tabOpened (hr : s.person? p = some r) (q : Nat) :
    (s.tabOpened n terminal v p serial capChecked).person? q =
      if q = p then some (r.tabOpened s.sck.openDay (if capChecked then s.prune r.servings else r.servings) (s.nextRef n))
      else s.person? q := by
  have hrolled (q : Nat) := State.person?_roll (s := s.shown terminal v p serial) hr q
  have hpruned (q : Nat) := State.person?_pruneIf ((hrolled p).trans (if_pos rfl)) capChecked q
  have htu : (((s.shown terminal v p serial).roll p).pruneIf p capChecked).tu = s.tu := by
    rw [State.pruneIf_tu, State.roll_tu]
    rfl
  have hprune (l : List Serving) : ((s.shown terminal v p serial).roll p).prune l = s.prune l := by
    unfold State.prune State.minute
    rw [State.roll_sck, State.roll_cc]
    rfl
  unfold State.tabOpened
  rw [State.person?_createTab ((hpruned p).trans (if_pos rfl)), State.nextRef, State.slot_of_tu htu]
  by_cases hq : q = p
  · rw [if_pos hq, if_pos hq, hprune]
    rfl
  · rw [if_neg hq, if_neg hq, hpruned, if_neg hq, hrolled, if_neg hq]
    rfl

/-- R94, R38: what an opened tab leaves of the rest. -/
theorem State.tabOpened_frame (hr : s.person? p = some r) :
    s.tabOpened n terminal v p serial capChecked = { s.rollPosted p r.folio with
      pt := (s.tabOpened n terminal v p serial capChecked).pt
      tu := { s.tu with slots := (s.tabOpened n terminal v p serial capChecked).tu.slots
                        terminals := (s.tabOpened n terminal v p serial capChecked).tu.terminals }
      pu := { s.pu with evidence := s.pu.evidence ++
        [{ person := p, time := s.sck.clock, serial := serial, source := .venue v terminal, offline := false }] } } := by
  obtain ⟨hpq, hnfu⟩ := State.roll_posts (s := s) (t := s.shown terminal v p serial) hr rfl rfl rfl
  have hframe := s.rollPosted_frame p r.folio
  have htu := TabUnit.eq_of_holds (u := (s.tabOpened n terminal v p serial capChecked).tu) (w := s.tu)
    (by simp [State.tabOpened, State.shown])
  rw [hframe]
  apply State.eq_of_fields
  case tu => exact htu
  case pq => simpa [State.tabOpened] using hpq
  case nfu => simpa [State.tabOpened] using hnfu
  case pu => simp [State.tabOpened, State.shown, State.sendEvidence]
  all_goals simp [State.tabOpened, State.shown]

end opened

/-- R94: OPEN TAB of a card that serves, where a tab opens. -/
theorem openTab_of_tabOpens {s : State} {f : Frame} {serial : Serial} {v p n : Nat} {r : Person}
    (hserves : s.cardServes f.station serial v p r) (hopens : s.tabOpens f.station v n r) :
    openTab f serial s =
      { state := s.tabOpened n f.station v p serial false, code := .ok
        body := refBytes (s.nextRef n) ++ be 2 p ++ be 4 (availableCredit r.folio), person := some p } := by
  have hcard := State.cardAsk_of_cardServes (tests := true) hserves fun _ => hopens.1
  obtain ⟨hnone, hslot⟩ := State.openRefusal?_of_tabOpens (s := s.shown f.station v p serial) hopens
  have href : ((s.shown f.station v p serial).roll p).nextRef n = s.nextRef n := by
    rw [State.nextRef, State.slot_of_tu (State.roll_tu ..)]
    rfl
  unfold openTab
  simp only [hcard, hnone, hslot]
  rw [State.createTab_ref, href]
  rfl

/-- R99: QUERY BALANCE of a card that serves. -/
theorem queryBalance_of_passed {s u : State} {f : Frame} {serial : Serial} {v p : Nat} {r : Person}
    (hcard : s.cardAsk f serial false = .passed u v p r) :
    queryBalance f serial s =
      { state := u, code := .ok
        body := be 4 (availableCredit r.folio) ++ opt (be 4) (dailyRemaining r.folio s.sck.openDay), person := some p } := by
  unfold queryBalance
  simp only [hcard]

/-- R99, R110: the daily remaining as the answer carries it, worked out in integers. -/
theorem opt_dailyRemaining (f : Folio) (openDay : Nat) :
    opt (be 4) (dailyRemaining f openDay) =
      opt (fun d : Int => be 4 (d - (if f.day < openDay then 0 else f.dailySpend : Nat) - f.held).toNat)
        (do let d ← f.dailyLimit; pure (d : Int)) := by
  unfold dailyRemaining Folio.spendOn
  cases f.dailyLimit with
  | none => rfl
  | some d =>
    refine congrArg (fun k => 1 :: be 4 k) ?_
    dsimp only
    omega

/-- Settles O39, by what the opened tab leaves to be read. -/
theorem tabRequests : Obligations.TabRequests := by
  intro st tag serial s0 s v p r hserves sent credit
  obtain ⟨h1, h64, -, -, -, hr, -⟩ := id hserves
  refine ⟨fun f n hf htake hopens => ?_, fun f hf htake => ?_⟩
  · obtain rfl : f.station = st := by rw [hf]
    have hrun := exec_openTab (st := f.station) (tag := tag) (serial := serial) (by rw [hf]; rfl) htake
    rw [State.onVenue_of_unreported h1 h64 none (openTab_of_tabOpens hserves hopens) (.inl rfl)] at hrun
    have hframe := State.tabOpened_frame n f.station v serial false hr
    have hlk : (s.tabOpened n f.station v p serial false).lk = s.lk := by
      rw [hframe, State.rollPosted_frame]
    refine ⟨_, hrun, fun m => ?_, fun m => ?_, fun q => ?_, ?_, ?_⟩
    · exact (State.slot_of_tu (State.queueAnswer_tu ..) m).trans (s.slot_tabOpened n f.station v serial false p m)
    · exact (State.terminal_of_tu (State.queueAnswer_tu ..) m).trans
        (s.terminal_tabOpened n f.station v serial false p m)
    · exact (State.person?_of_pt (State.queueAnswer_pt ..) q).trans
        (State.person?_tabOpened n f.station v serial false hr q)
    · rw [List.append_assoc, List.append_assoc, ← List.append_assoc (refBytes _)]
      exact State.answerWaits_queueAnswer hlk 0 f 0x2F _
    · rw [State.queueAnswer_frame, hframe]
  · obtain rfl : f.station = st := by rw [hf]
    have hrun := exec_queryBalance (st := f.station) (tag := tag) (serial := serial) (by rw [hf]; rfl) htake
    have hcard := State.cardAsk_of_cardServes (tests := false) hserves (fun h => absurd h (by decide))
    rw [State.onVenue_of_unreported h1 h64 none (queryBalance_of_passed hcard) (.inl rfl), opt_dailyRemaining] at hrun
    refine ⟨_, hrun, ?_, State.queueAnswer_frame ..⟩
    rw [List.append_assoc]
    exact State.answerWaits_queueAnswer rfl 0 f 0x2F _

end Sys2Proof.Machine
end

section
/-! CLOSE TAB and FORCE CLOSE (R98, R101, R111, R112, R127). -/

namespace Sys2Proof.Machine

set_option Elab.async false

/-! ### The figures of a close (R111, R112) -/

/-- R112: the balance after an addition, and whether it saturated. -/
theorem addBalance_eq (b : Int) (z : Nat) :
    addBalance b z = (max (-999999999) (min 999999999 (b + z)),
      decide (b + (z : Int) ≠ max (-999999999) (min 999999999 (b + z)))) := by
  unfold addBalance Config.topAmount
  dsimp only
  split
  · refine Prod.ext ?_ (decide_eq_true ?_).symm <;> omega
  · split
    · refine Prod.ext ?_ (decide_eq_true ?_).symm <;> omega
    · refine Prod.ext ?_ (decide_eq_false ?_).symm <;> omega

/-- R111: the figures of a close are those of its bill. -/
theorem closeFigures_eq (p : Prices) (f : Folio) (old tipRequest : Nat) :
    closeFigures p f old tipRequest =
      let b := billOf p f old tipRequest
      { prices := p, tip := b.tip, amount := b.amount, tipClamped := b.tip < min tipRequest 999999
        tipRequestClamped := 999999 < tipRequest, overLimit := (f.creditLimit : Int) < f.balance + b.amount
        saturated := f.balance + (b.amount : Int) ≠ b.balance, balance := b.balance } := by
  unfold closeFigures billOf
  simp only [addBalance_eq]

/-- R127: the CHARGE of a close, at the H that the close subtracts. -/
theorem chargeBody_eq (x : Tab) (ref : TabRef) (p : Prices) (f : Folio) (old tipRequest : Nat) (forced quick : Bool) :
    chargeBody x ref (closeFigures p f old tipRequest) forced quick =
      chargeOf { x with total := old } ref p f tipRequest forced quick := by
  rw [closeFigures_eq]
  rfl

/-- R111, R112: the folio after a charge. -/
theorem Folio.charge_eq (f g : Folio) (p : Prices) (old tipRequest h : Nat) :
    g.charge (closeFigures p f old tipRequest) h = { g with
      balance := (billOf p f old tipRequest).balance, held := g.held - h
      dailySpend := min 999999999 (g.dailySpend + (billOf p f old tipRequest).amount) } := by
  rw [closeFigures_eq, Folio.charge, addSpend, Nat.min_comm (_ + _)]
  rfl

/-! ### A tab closed (R98) -/

/-- R98: a tab dropped, and its person's folio changed. -/
def State.closedWith (s : State) (n : Nat) (x : Tab) (f : Folio → Folio) : State :=
  (s.dropTab n x).modPerson x.person fun r => { r with folio := f r.folio }

/-- R98: the held amount that a close gives back. -/
def Folio.released (f : Folio) (old : Nat) : Folio := { f with held := f.held - old }

theorem State.closedWith_frame {s t : State} (h : t.tu.holds = s.tu.holds) (n : Nat) (x : Tab) (f : Folio → Folio) :
    t.closedWith n x f = { t with
      pt := (t.closedWith n x f).pt
      tu := { s.tu with slots := (t.closedWith n x f).tu.slots, terminals := (t.closedWith n x f).tu.terminals } } := by
  have hholds : (t.closedWith n x f).tu.holds = s.tu.holds := by simp [State.closedWith, h]
  apply State.eq_of_fields
  case tu => exact TabUnit.eq_of_holds hholds
  all_goals simp [State.closedWith]

theorem State.tabGone_congr {s t u : State} {n : Nat} {x : Tab} {r : Person} {f : Folio} (hpt : u.pt = t.pt)
    (htu : u.tu = t.tu) (h : s.tabGone t n x r f) : s.tabGone u n x r f := by
  unfold State.tabGone at h ⊢
  simp only [State.slot_of_tu htu, State.terminal_of_tu htu, State.person?_of_pt hpt]
  exact h

theorem State.price_classOf {s : State} {p : Nat} {r : Person} (hr : s.person? p = some r) (v : Nat)
    (lines : List Line) : s.price v (s.classOf p) lines = s.price v r.cls lines := by
  unfold State.classOf
  rw [hr]
  rfl

theorem State.folioOf_of_some {s : State} {p : Nat} {r : Person} (hr : s.person? p = some r) :
    s.folioOf p = r.folio := by
  unfold State.folioOf
  simp only [hr]

section closing

variable {s : State} {x : Tab} (n tip : Nat) (forced quick : Bool)

theorem State.closeTab_of_empty (hempty : lineTotal x.lines = 0) :
    s.closeTab n x tip forced quick = .empty (s.closedWith n x (·.released x.total)) := by
  rw [State.closeTab_eq, if_pos hempty]
  rfl

theorem State.closeTab_of_full (hempty : lineTotal x.lines ≠ 0) (hfree : s.free = 0) :
    s.closeTab n x tip forced quick = .full := by
  rw [State.closeTab_eq, if_neg hempty, if_pos (by omega)]

/-- R98, R127: the CHARGE of a close appended. -/
def State.chargePosted (s : State) (n : Nat) (x : Tab) (r : Person) (tip : Nat) (forced quick : Bool) : State :=
  s.append s.sck.clock (some x.person) r.folio.day
    (.charge (chargeOf x { slot := n, use := (s.slot n).use } (s.price x.venue r.cls x.lines) r.folio tip forced quick))

theorem State.closeTab_of_charged {r : Person} (hr : s.person? x.person = some r) (hempty : lineTotal x.lines ≠ 0)
    (hfree : 1 ≤ s.free) :
    let b := billOf (s.price x.venue r.cls x.lines) r.folio x.total tip
    s.closeTab n x tip forced quick = .charged
      ((s.chargePosted n x r tip forced quick).closedWith n x
        (·.charge (closeFigures (s.price x.venue r.cls x.lines) r.folio x.total tip) x.total))
      b.amount b.tip b.balance s.pq.next := by
  rw [State.closeTab_eq, if_neg hempty, if_neg (by omega), State.folioOf_of_some hr, State.price_classOf hr]
  dsimp only
  rw [chargeBody_eq, closeFigures_eq]
  rfl

end closing

theorem State.answer_of_pp {s t : State} (h : t.pp = s.pp) (tag : Tag) (r : Reply) :
    t.answer tag r = { t with pp := { s.pp with port := .answered tag r.code r.body } } := by
  rw [State.answer, h]

/-! ### FORCE CLOSE (R101) -/

theorem forceClose_of_range {n : Nat} (s : State) (h : 255 < n) : forceClose n s = s.refuse .range := if_pos h

theorem forceClose_of_emptySlot {n : Nat} {s : State} (hn : n ≤ 255) (h : (s.slot n).tab = none) :
    forceClose n s = s.refuse .notFound := by
  unfold forceClose Config.tabSlots
  rw [if_neg (by omega)]
  simp only [h]

theorem forceClose_of_closing {n use : Nat} {s : State} {x : Tab} (hn : n ≤ 255)
    (hslot : s.slot n = { use := use, tab := some x }) :
    forceClose n s =
      match s.closeTab n x 0 true false with
      | .empty t => (t, { code := .closedEmpty, body := be 1 n ++ be 1 use ++ be 1 x.terminal ++ be 2 x.person })
      | .full => s.refuse .queueFull
      | .charged t z g b seq =>
        (t, Reply.ok (be 1 n ++ be 1 use ++ be 1 x.terminal ++ be 2 x.person ++ chargedBytes z g b seq)) := by
  unfold forceClose Config.tabSlots
  rw [if_neg (by omega)]
  simp only [hslot] <;> rfl

/-! ### CLOSE TAB (R98) -/

theorem exec_closeTab {st : Nat} {tag : Byte} {ref : TabRef} {tip : Nat} {s0 s : State} {f : Frame}
    (hi : (Instr.closeTab st tag ref tip).stationFrame = some (0, f)) (h : s0.takeFrame 0 f = some s) :
    exec (.closeTab st tag ref tip) s0 = .next (s.onVenue f (some ref) none (closeTab st ref tip)) :=
  State.onFrame_of_takeFrame hi h fun _ f s1 => s1.onVenue f (some ref) none (closeTab st ref tip)

theorem closeTab_of_closing {s : State} {x : Tab} {n use : Nat} (hslot : s.slot n = { use := use, tab := some x })
    (tip : Nat) :
    closeTab x.terminal { slot := n, use := use } tip s =
      match s.closeTab n x tip false false with
      | .empty t => { state := t, code := .closedEmpty, body := [], person := some x.person }
      | .full => s.decline .queueFull (some x.person)
      | .charged t z g b seq => { state := t, code := .ok, body := chargedBytes z g b seq, person := some x.person } := by
  unfold closeTab
  simp only [State.findTab_of_slot (ref := { slot := n, use := use }) hslot] <;> rfl

/-- Settles O42, by whether the tab closes empty, meets a full queue or is charged. -/
theorem closeCharges : Obligations.CloseCharges := by
  refine ⟨fun tag n s hacc => ⟨fun hn => ?_, fun hn hnone => ?_⟩, ?_⟩
  · refine (State.onCommand_of_accepts hacc tag (forceClose n)).trans (congrArg _ ?_)
    rw [forceClose_of_range s hn]
    rfl
  · refine (State.onCommand_of_accepts hacc tag (forceClose n)).trans (congrArg _ ?_)
    rw [forceClose_of_emptySlot hn hnone]
    rfl
  · intro n use s x r hn hslot hr ref empty named released p bill charged posted
    have hposted (tip : Nat) (forced : Bool) : s.chargePosted n x r tip forced false = posted tip forced := by
      rw [State.chargePosted, hslot]
    have hcharged (tip : Nat) : r.folio.charge (closeFigures p r.folio x.total tip) x.total = charged tip :=
      Folio.charge_eq r.folio r.folio p x.total tip x.total
    have hemptied : s.tabGone (s.closedWith n x (·.released x.total)) n x r released :=
      State.tabGone_dropTab rfl rfl hr n (·.released x.total)
    have hpaid (tip : Nat) (forced : Bool) :
        s.tabGone ((posted tip forced).closedWith n x (·.charge (closeFigures p r.folio x.total tip) x.total)) n x r
          (charged tip) := by
      rw [← hcharged]
      exact State.tabGone_dropTab (State.append_pt ..) (State.append_tu ..) hr n
        (·.charge (closeFigures p r.folio x.total tip) x.total)
    refine ⟨fun tag hacc => ?_, fun tag tip s0 f h1 h64 hf htake => ?_⟩
    · have hrun : exec (.forceClose tag n) s = _ := State.onCommand_of_accepts hacc tag (forceClose n)
      rw [forceClose_of_closing hn hslot] at hrun
      refine ⟨fun hempty => ?_, fun hempty hfree => ?_, fun hempty hfree => ?_⟩
      · rw [State.closeTab_of_empty n _ _ _ hempty] at hrun
        exact ⟨_, hrun, hemptied, congrArg (fun t : State => t.answer tag _) (State.closedWith_frame rfl n x _)⟩
      · rw [State.closeTab_of_full n _ _ _ hempty hfree] at hrun
        exact hrun
      · rw [State.closeTab_of_charged n _ _ _ hr hempty hfree, hposted] at hrun
        refine ⟨_, hrun, hpaid 0 true, ?_⟩
        rw [State.answer_of_pp (s := s) (by simp [State.closedWith, posted]),
          State.closedWith_frame (s := s) (congrArg TabUnit.holds (State.append_tu ..))]
        rfl
    · have hrun := exec_closeTab (st := x.terminal) (tag := tag) (ref := ref) (tip := tip) (by rw [hf]; rfl) htake
      obtain hstation : f.station = x.terminal := by rw [hf]
      rw [← hstation] at h1 h64
      have hserve := closeTab_of_closing hslot tip
      refine ⟨fun hempty => ?_, fun hempty hfree => ?_, fun hempty hfree => ?_⟩
      · rw [State.closeTab_of_empty n _ _ _ hempty] at hserve
        rw [State.onVenue_of_unreported h1 h64 none hserve (.inl rfl)] at hrun
        refine ⟨_, hrun, State.tabGone_congr (State.queueAnswer_pt ..) (State.queueAnswer_tu ..) hemptied,
          State.answerWaits_queueAnswer (by simp [State.closedWith]) 0 f 0x2F _, ?_⟩
        rw [State.queueAnswer_frame, State.closedWith_frame (s := s) rfl]
      · rw [State.closeTab_of_full n _ _ _ hempty hfree] at hserve
        rw [State.onVenue_of_unreported h1 h64 none hserve (.inl rfl)] at hrun
        exact ⟨_, hrun, State.answerWaits_queueAnswer rfl 0 f 0x2F _, State.queueAnswer_frame ..⟩
      · rw [State.closeTab_of_charged n _ _ _ hr hempty hfree, hposted] at hserve
        rw [State.onVenue_of_unreported h1 h64 none hserve (.inl rfl)] at hrun
        refine ⟨_, hrun, State.tabGone_congr (State.queueAnswer_pt ..) (State.queueAnswer_tu ..) (hpaid tip false),
          State.answerWaits_queueAnswer (by simp [State.closedWith, posted]) 0 f 0x2F _, ?_⟩
        rw [State.queueAnswer_frame, State.closedWith_frame (s := s) (congrArg TabUnit.holds (State.append_tu ..))]

end Sys2Proof.Machine
end

section
/-! QUICK SALE that passes every check (R100). -/

namespace Sys2Proof.Machine

set_option Elab.async false

theorem exec_quickSale {st category price quantity tip : Nat} {tag : Byte} {serial : Serial} {s0 s : State} {f : Frame}
    (hi : (Instr.quickSale st tag serial category price quantity tip).stationFrame = some (0, f))
    (h : s0.takeFrame 0 f = some s) :
    exec (.quickSale st tag serial category price quantity tip) s0 =
      .next (s.onVenue f none (reportedCategory category) (quickSale f serial category price quantity tip)) :=
  State.onFrame_of_takeFrame hi h fun _ f s1 =>
    s1.onVenue f none (reportedCategory category) (quickSale f serial category price quantity tip)

/-- R111: the bill of a tab whose H is in the held amount is that of the folio without it. -/
theorem billOf_held (p : Prices) (f : Folio) (total tip : Nat) :
    billOf p { f with held := f.held + total } total tip = billOf p f 0 tip := by
  have hroom : (f.creditLimit : Int) - f.balance - ((f.held + total : Nat) : Int) + (total : Int) - (p.total : Int) =
      (f.creditLimit : Int) - f.balance - (f.held : Int) + ((0 : Nat) : Int) - (p.total : Int) := by omega
  unfold billOf
  simp only [hroom]

/-- R127: so is its CHARGE. -/
theorem chargeOf_held (x : Tab) (ref : TabRef) (p : Prices) (f : Folio) (total tip : Nat) (forced quick : Bool) :
    chargeOf { x with total := total } ref p { f with held := f.held + total } tip forced quick =
      chargeOf { x with total := 0 } ref p f tip forced quick := by
  unfold chargeOf
  simp only [billOf_held]

/-! ### The line of a sale (R96, R100) -/

/-- R100: the tab of a sale with its line. -/
def saleTab (terminal v p now : Nat) (line : Line) (total : Nat) : Tab :=
  { newTab terminal v p now with lines := [line], total := total, voidable := true }

/-- R100: the tab opened and the line added to it. -/
def State.saleRung (s : State) (n terminal v p : Nat) (serial : Serial) (line : Line) (total : Nat) : State :=
  (s.tabOpened n terminal v p serial (s.isCapped line.category)).putLine n (newTab terminal v p s.sck.clock) line total

/-- R94, R96: the folio of a sale before its close. -/
def Folio.rung (f : Folio) (openDay total : Nat) : Folio :=
  { f.rolled openDay with held := (f.rolled openDay).held + total }

/-- R94, R96, R119: the person of a sale before its close. -/
def Person.rung (r : Person) (openDay total : Nat) (servings : List Serving) (ref : TabRef) : Person :=
  { r with tabs := r.tabs ++ [ref], folio := r.folio.rung openDay total, servings := servings }

section rung

variable (s : State) (n terminal v : Nat) {p : Nat} {r : Person} (serial : Serial) (line : Line) (total : Nat)

theorem State.slot_saleRung (p m : Nat) :
    (s.saleRung n terminal v p serial line total).slot m =
      if m = n then { use := (s.nextRef n).use, tab := some (saleTab terminal v p s.sck.clock line total) }
      else s.slot m := by
  unfold State.saleRung
  rw [State.slot_putLine, State.slot_tabOpened, State.slot_tabOpened, if_pos rfl]
  split <;> rfl

theorem State.terminal_saleRung (p m : Nat) :
    (s.saleRung n terminal v p serial line total).terminal m =
      if m = terminal then { s.terminal m with tabs := (s.terminal m).tabs ++ [s.nextRef n] } else s.terminal m :=
  (State.terminal_putLine ..).trans (s.terminal_tabOpened ..)

variable {s}

theorem State.person?_saleRung (hr : s.person? p = some r) (q : Nat) :
    (s.saleRung n terminal v p serial line total).person? q =
      if q = p then some (r.rung s.sck.openDay total
        (s.served r.servings line.category { stamp := s.minute, slot := n, line := 0, count := line.quantity })
        (s.nextRef n)) else s.person? q := by
  have hopened (q : Nat) := State.person?_tabOpened n terminal v serial (s.isCapped line.category) hr q
  have hframe := State.tabOpened_frame n terminal v serial (s.isCapped line.category) hr
  have hcapped : (s.tabOpened n terminal v p serial (s.isCapped line.category)).isCapped line.category =
      s.isCapped line.category := by
    rw [hframe, State.rollPosted_frame]
    rfl
  have hminute : (s.tabOpened n terminal v p serial (s.isCapped line.category)).minute = s.minute := by
    rw [hframe, State.rollPosted_frame]
    rfl
  unfold State.saleRung
  rw [State.person?_putLine ((hopened p).trans (if_pos rfl)), hopened, State.served_eq, hcapped, hminute]
  by_cases hq : q = p
  · rw [if_pos (show q = (newTab terminal v p s.sck.clock).person from hq), if_pos hq]
    cases s.isCapped line.category <;> rfl
  · rw [if_neg (show ¬q = (newTab terminal v p s.sck.clock).person from hq), if_neg hq, if_neg hq]

/-- R100: what the line of a sale leaves of the rest. -/
theorem State.saleRung_frame (hr : s.person? p = some r) :
    s.saleRung n terminal v p serial line total = { s.rollPosted p r.folio with
      pt := (s.saleRung n terminal v p serial line total).pt
      tu := (s.saleRung n terminal v p serial line total).tu
      pu := { s.pu with evidence := s.pu.evidence ++
        [{ person := p, time := s.sck.clock, serial := serial, source := .venue v terminal, offline := false }] } } := by
  have hframe := State.tabOpened_frame n terminal v serial (s.isCapped line.category) hr
  apply State.eq_of_fields
  case pt => rfl
  case tu => rfl
  all_goals
    unfold State.saleRung
    simp only [State.putLine_pending, State.putLine_tagCount, State.putLine_pp, State.putLine_lk, State.putLine_ci,
      State.putLine_ct, State.putLine_pu, State.putLine_sc, State.putLine_cc, State.putLine_pq, State.putLine_oe,
      State.putLine_nfu, State.putLine_sck]
    rw [hframe]

theorem State.holds_saleRung (hr : s.person? p = some r) :
    (s.saleRung n terminal v p serial line total).tu.holds = s.tu.holds := by
  unfold State.saleRung
  rw [State.putLine_tu_holds, State.tabOpened_frame n terminal v serial (s.isCapped line.category) hr]

theorem State.lk_saleRung (hr : s.person? p = some r) : (s.saleRung n terminal v p serial line total).lk = s.lk := by
  rw [State.saleRung_frame n terminal v serial line total hr, State.rollPosted_frame]

theorem State.sck_saleRung (hr : s.person? p = some r) : (s.saleRung n terminal v p serial line total).sck = s.sck := by
  rw [State.saleRung_frame n terminal v serial line total hr, State.rollPosted_frame]

theorem State.pq_saleRung (hr : s.person? p = some r) :
    (s.saleRung n terminal v p serial line total).pq = (s.rollPosted p r.folio).pq := by
  rw [State.saleRung_frame n terminal v serial line total hr]

theorem State.price_saleRung (hr : s.person? p = some r) (venue cls : Nat) (lines : List Line) :
    (s.saleRung n terminal v p serial line total).price venue cls lines = s.price venue cls lines := by
  rw [State.saleRung_frame n terminal v serial line total hr, State.rollPosted_frame]
  rfl

end rung

/-! ### The sale (R100) -/

/-- R100: a sale is its tab with its line, closed. -/
theorem State.sellQuick_eq (s : State) (n terminal v p : Nat) (serial : Serial) (line : Line) (code : Code)
    (total tip : Nat) :
    (s.shown terminal v p serial).sellQuick n terminal v p line ⟨code, total, s.isCapped line.category⟩ tip =
      match (s.saleRung n terminal v p serial line total).closeTab n (saleTab terminal v p s.sck.clock line total) tip
        false true with
      | .empty t => { state := t, code := .closedEmpty, body := [], person := some p }
      | .full => (s.shown terminal v p serial).decline .queueFull (some p)
      | .charged t z g b seq =>
        { state := t, code := .ok, body := chargedBytes z g b seq ++ refBytes (s.nextRef n), person := some p } := by
  have href : (((s.shown terminal v p serial).roll p).pruneIf p (s.isCapped line.category)).nextRef n = s.nextRef n := by
    rw [State.nextRef, State.slot_of_tu ((State.pruneIf_tu ..).trans (State.roll_tu ..))]
    rfl
  rw [← href]
  rfl

/-- R100: QUICK SALE of a card that serves and a line that is in order, up to its close. -/
theorem quickSale_of_lineOk {s : State} {f : Frame} {serial : Serial} {v p n category price quantity : Nat} {r : Person}
    {line : Line} {total : Nat} (hserves : s.cardServes f.station serial v p r) (hopens : s.tabOpens f.station v n r)
    (hline : line = newLine category price quantity) (htotal : total = (s.price v r.cls [line]).total)
    (hok : s.lineOk r v [] 0 total category price quantity) (tip : Nat) :
    quickSale f serial category price quantity tip s =
      (s.shown f.station v p serial).sellQuick n f.station v p line ⟨.ok, total, s.isCapped line.category⟩ tip := by
  subst hline htotal
  have hcard := State.cardAsk_of_cardServes (tests := true) hserves fun _ => hopens.1
  obtain ⟨hnone, hslot⟩ := State.openRefusal?_of_tabOpens (s := s.shown f.station v p serial) hopens
  obtain ⟨c, hc⟩ : ∃ c, (s.shown f.station v p serial).checkLine r v [] 0 category price quantity = c := ⟨_, rfl⟩
  have hcode : c.code = .ok := by
    rw [← hc, State.checkLine_code]
    exact State.lineOutcome_of_lineOk hok
  have htotal : c.total = (s.price v r.cls [newLine category price quantity]).total := by
    rw [← hc, State.checkLine_total]
    rfl
  have hcapped : c.capChecked = s.isCapped category := by
    rw [State.checkLine_capChecked _ _ _ _ _ _ _ _ hc, hcode]
    exact Bool.and_true _
  obtain ⟨code, total, capChecked⟩ := c
  subst hcode htotal hcapped
  unfold quickSale
  simp only [hcard, hnone, hslot, hc]
  rfl

/-! ### The close of a sale (R98, R111, R127) -/

theorem lineTotal_singleton (category price quantity : Nat) :
    lineTotal [newLine category price quantity] = price * quantity := rfl

theorem Folio.released_rung (f : Folio) (openDay total : Nat) : (f.rung openDay total).released total = f.rolled openDay := by
  unfold Folio.released Folio.rung
  simp only [Nat.add_sub_cancel]

/-- R111, R112: the charge of a sale leaves the held amount as it was. -/
theorem Folio.charge_rung (f : Folio) (p : Prices) (openDay total tip : Nat) :
    (f.rung openDay total).charge (closeFigures p (f.rung openDay total) total tip) total =
      { f.rolled openDay with
        balance := (billOf p (f.rolled openDay) 0 tip).balance
        dailySpend := min 999999999 ((f.rolled openDay).dailySpend + (billOf p (f.rolled openDay) 0 tip).amount) } := by
  rw [Folio.charge_eq]
  unfold Folio.rung
  rw [billOf_held]
  simp only [Nat.add_sub_cancel]

/-- R125: an append does not depend on the persons, the tabs and the presence unit. -/
theorem State.append_withTabs (s : State) (pt : Table Person) (tu : TabUnit) (pu : PresenceUnit) (time : Nat)
    (person : Option Nat) (day : Nat) (body : PostingBody) :
    ({ s with pt := pt, tu := tu, pu := pu } : State).append time person day body =
      { s.append time person day body with pt := pt, tu := tu, pu := pu } := by
  have hposts := State.append_congr (s := s) (t := { s with pt := pt, tu := tu, pu := pu }) rfl rfl time person day body
  apply State.eq_of_fields
  case pq => exact hposts.1
  case nfu => exact hposts.2
  all_goals simp

theorem filter_ne_append (l : List TabRef) (ref : TabRef) : (l ++ [ref]).filter (· ≠ ref) = l.filter (· ≠ ref) := by
  simp

section sale

variable {s : State} {n terminal v p : Nat} {r : Person} {serial : Serial} {line : Line} {total : Nat}

theorem State.use_saleRung : ((s.saleRung n terminal v p serial line total).slot n).use = (s.nextRef n).use := by
  rw [State.slot_saleRung, if_pos rfl]

/-- R100: what is read after a sale's close: the tab gone again, the serving entry kept. -/
theorem State.saleClosed_reads (hr : s.person? p = some r) {t closed : State} {f : Folio → Folio}
    (hclosed : t.closedWith n (saleTab terminal v p s.sck.clock line total) f = closed)
    (hpt : t.pt = (s.saleRung n terminal v p serial line total).pt)
    (htu : t.tu = (s.saleRung n terminal v p serial line total).tu) (answer : Frame) :
    let u := closed.queueAnswer 0 answer
    (∀ m, u.slot m = if m = n then { use := (s.nextRef n).use, tab := none } else s.slot m) ∧
    (∀ m, u.terminal m = if m = terminal then
      { s.terminal m with tabs := (s.terminal m).tabs.filter (· ≠ s.nextRef n) } else s.terminal m) ∧
    ∀ q, u.person? q = if q = p then some { r with
      tabs := r.tabs.filter (· ≠ s.nextRef n), folio := f (r.folio.rung s.sck.openDay total)
      servings := s.served r.servings line.category
        { stamp := s.minute, slot := n, line := 0, count := line.quantity } } else s.person? q := by
  intro u
  have hrung := State.person?_saleRung n terminal v serial line total hr
  have hgone := State.tabGone_dropTab (x := saleTab terminal v p s.sck.clock line total) hpt htu
    ((hrung p).trans (if_pos rfl)) n f
  rw [← State.closedWith, hclosed] at hgone
  obtain ⟨hslot, hterminal, hperson⟩ :=
    State.tabGone_congr (u := u) (State.queueAnswer_pt ..) (State.queueAnswer_tu ..) hgone
  simp only [State.use_saleRung] at hslot hterminal hperson
  refine ⟨fun m => (hslot m).trans ?_, fun m => (hterminal m).trans ?_, fun q => (hperson q).trans ?_⟩
  · rw [State.slot_saleRung]
    split <;> rfl
  · rw [State.terminal_saleRung]
    by_cases hm : m = terminal
    · rw [if_pos (show m = (saleTab terminal v p s.sck.clock line total).terminal from hm), if_pos hm, if_pos hm]
      exact congrArg (fun tabs => ({ s.terminal m with tabs := tabs } : Terminal)) (filter_ne_append _ _)
    · rw [if_neg (show ¬m = (saleTab terminal v p s.sck.clock line total).terminal from hm), if_neg hm, if_neg hm]
  · rw [hrung]
    by_cases hq : q = p
    · rw [if_pos (show q = (saleTab terminal v p s.sck.clock line total).person from hq), if_pos hq]
      exact congrArg (fun tabs => some ({ r with
        tabs := tabs, folio := f (r.folio.rung s.sck.openDay total)
        servings := s.served r.servings line.category
          { stamp := s.minute, slot := n, line := 0, count := line.quantity } } : Person)) (filter_ne_append _ _)
    · rw [if_neg (show ¬q = (saleTab terminal v p s.sck.clock line total).person from hq), if_neg hq, if_neg hq]

/-- R129: the room that a new tab asks for leaves a free entry for the CHARGE of a sale. -/
theorem State.free_saleRung (hr : s.person? p = some r) (hroom : 2 ≤ s.room) :
    1 ≤ (s.saleRung n terminal v p serial line total).free := by
  have hfree : (s.saleRung n terminal v p serial line total).free = (s.rollPosted p r.folio).free := by
    unfold State.free State.fill
    rw [State.pq_saleRung n terminal v serial line total hr]
  have hroll : s.free - 1 ≤ (s.rollPosted p r.folio).free := by
    unfold State.rollPosted
    split
    · exact s.free_append ..
    · omega
  have hspare : 2 ≤ s.free - 256 := hroom
  omega

/-- R100, R127: the CHARGE of a sale, at the folio that the roll has left. -/
theorem State.chargePosted_saleRung (hr : s.person? p = some r) (servings : List Serving) (tip : Nat) :
    (s.saleRung n terminal v p serial line total).chargePosted n (saleTab terminal v p s.sck.clock line total)
        (r.rung s.sck.openDay total servings (s.nextRef n)) tip false true =
      { (s.rollPosted p r.folio).append s.sck.clock (some p) (r.folio.rolled s.sck.openDay).day
          (.charge (chargeOf (saleTab terminal v p s.sck.clock line 0) (s.nextRef n) (s.price v r.cls [line])
            (r.folio.rolled s.sck.openDay) tip false true)) with
        pt := (s.saleRung n terminal v p serial line total).pt
        tu := (s.saleRung n terminal v p serial line total).tu
        pu := { s.pu with evidence := s.pu.evidence ++
          [{ person := p, time := s.sck.clock, serial := serial, source := .venue v terminal, offline := false }] } } := by
  let rolled := r.folio.rolled s.sck.openDay
  have hframe := State.saleRung_frame n terminal v serial line total hr
  have hcharge := chargeOf_held (saleTab terminal v p s.sck.clock line total) (s.nextRef n) (s.price v r.cls [line]) rolled
    total tip false true
  show (s.saleRung n terminal v p serial line total).append (s.saleRung n terminal v p serial line total).sck.clock
    (some p) rolled.day (.charge (chargeOf (saleTab terminal v p s.sck.clock line total)
      { slot := n, use := ((s.saleRung n terminal v p serial line total).slot n).use }
      ((s.saleRung n terminal v p serial line total).price v r.cls [line])
      { rolled with held := rolled.held + total } tip false true)) = _
  rw [State.use_saleRung, State.sck_saleRung n terminal v serial line total hr,
    State.price_saleRung n terminal v serial line total hr]
  refine (congrArg (fun body => State.append _ _ _ _ (.charge body)) hcharge).trans ?_
  exact (congrArg (fun u : State => u.append _ _ _ _) hframe).trans (State.append_withTabs ..)

end sale

section closing

variable {s : State} {f : Frame} {serial : Serial} {v p n category price quantity : Nat} {r : Person} {line : Line}
  {total : Nat} (hserves : s.cardServes f.station serial v p r) (hopens : s.tabOpens f.station v n r)
  (hline : line = newLine category price quantity) (htotal : total = (s.price v r.cls [line]).total)
  (hok : s.lineOk r v [] 0 total category price quantity) (tip : Nat)
include hserves hopens hline htotal hok

/-- R100: QUICK SALE of a line of amount 0. -/
theorem quickSale_of_empty (hprice : price = 0) :
    ∃ closed, (s.saleRung n f.station v p serial line total).closedWith n
        (saleTab f.station v p s.sck.clock line total) (·.released total) = closed ∧
      quickSale f serial category price quantity tip s =
        { state := closed, code := .closedEmpty, body := [], person := some p } := by
  have hempty : lineTotal (saleTab f.station v p s.sck.clock line total).lines = 0 := by
    rw [hline, hprice]
    exact Nat.zero_mul quantity
  rw [quickSale_of_lineOk hserves hopens hline htotal hok, State.sellQuick_eq,
    State.closeTab_of_empty n tip false true hempty]
  exact ⟨_, rfl, rfl⟩

/-- R100, R111: QUICK SALE of a line with an amount. -/
theorem quickSale_of_charged (hprice : price ≠ 0) :
    let rung := s.saleRung n f.station v p serial line total
    let x := saleTab f.station v p s.sck.clock line total
    let r' := r.rung s.sck.openDay total
      (s.served r.servings line.category { stamp := s.minute, slot := n, line := 0, count := line.quantity }) (s.nextRef n)
    let b := billOf (s.price v r.cls [line]) (r.folio.rolled s.sck.openDay) 0 tip
    ∃ closed, (rung.chargePosted n x r' tip false true).closedWith n x
        (·.charge (closeFigures (s.price v r.cls [line]) (r.folio.rung s.sck.openDay total) total tip) total) = closed ∧
      quickSale f serial category price quantity tip s =
        { state := closed, code := .ok
          body := billBytes b (s.rollPosted p r.folio).pq.next ++ refBytes (s.nextRef n), person := some p } := by
  intro rung x r' b
  obtain ⟨-, -, -, -, -, hr, -⟩ := id hserves
  have hamount : lineTotal x.lines ≠ 0 := by
    obtain ⟨-, -, hquantity, -⟩ := hok
    have hsum : lineTotal x.lines = price * quantity := by
      rw [show x.lines = [line] from rfl, hline, lineTotal_singleton]
    rw [hsum]
    exact Nat.mul_ne_zero hprice (by omega)
  have hr' : rung.person? x.person = some r' :=
    (State.person?_saleRung n f.station v serial line total hr p).trans (if_pos rfl)
  obtain ⟨-, -, -, -, -, -, hroom, -⟩ := id hopens
  have hfree : 1 ≤ rung.free := State.free_saleRung hr hroom
  have hpq : rung.pq = (s.rollPosted p r.folio).pq := State.pq_saleRung n f.station v serial line total hr
  have hprice' : rung.price x.venue r'.cls x.lines = s.price v r.cls [line] :=
    State.price_saleRung n f.station v serial line total hr v r.cls [line]
  have hbill : billOf (s.price v r.cls [line]) r'.folio x.total tip = b := billOf_held ..
  rw [quickSale_of_lineOk hserves hopens hline htotal hok, State.sellQuick_eq,
    State.closeTab_of_charged n tip false true hr' hamount hfree, hprice', hpq, hbill]
  exact ⟨_, rfl, rfl⟩

end closing

/-- R98, R90: a step that has written persons, tabs and evidence beside `a`, and then closes a tab and answers. -/
theorem State.queueAnswer_closedWith {a s t : State} {pt : Table Person} {tu : TabUnit} {pu : PresenceUnit}
    (ht : t = { a with pt := pt, tu := tu, pu := pu }) (hholds : tu.holds = s.tu.holds) (n : Nat) (x : Tab)
    (f : Folio → Folio) (m : Nat) (g : Frame) :
    (t.closedWith n x f).queueAnswer m g = { a with
      pt := ((t.closedWith n x f).queueAnswer m g).pt, lk := ((t.closedWith n x f).queueAnswer m g).lk
      tu := { s.tu with slots := ((t.closedWith n x f).queueAnswer m g).tu.slots
                        terminals := ((t.closedWith n x f).queueAnswer m g).tu.terminals }
      pu := pu } := by
  subst ht
  rw [State.queueAnswer_frame]
  rw [State.closedWith_frame (s := s) hholds]

/-- Settles O43, by whether the sale has an amount. -/
theorem quickSaleCharges : Obligations.QuickSaleCharges := by
  intro st tag serial category price quantity tip n v person r s0 s f hf htake hserves hopens line p hok ref x rolled b s1 s2
    after
  obtain ⟨h1, h64, -, -, -, hr, -⟩ := id hserves
  obtain rfl : f.station = st := by rw [hf]
  have hrun := exec_quickSale (st := f.station) (category := category) (price := price) (quantity := quantity) (tip := tip)
    (tag := tag) (serial := serial) (by rw [hf]; rfl) htake
  have hline : line = newLine category price quantity := rfl
  have hp : p = s.price v r.cls [line] := rfl
  have hframe := State.saleRung_frame n f.station v serial line p.total hr
  have hholds := State.holds_saleRung n f.station v serial line p.total hr
  have hlk := State.lk_saleRung n f.station v serial line p.total hr
  by_cases hprice : price = 0
  · obtain ⟨closed, hclosed, hserve⟩ := quickSale_of_empty hserves hopens hline (congrArg Prices.total hp) hok tip hprice
    rw [State.onVenue_of_unreported h1 h64 _ hserve (.inl rfl)] at hrun
    obtain ⟨hslots, hterminals, hpersons⟩ := State.saleClosed_reads hr hclosed rfl rfl (venueAnswer f .closedEmpty [])
    refine ⟨_, hrun, hslots, hterminals, fun q => (hpersons q).trans ?_, ?_, ?_⟩
    · rw [if_pos hprice, Folio.released_rung, hline]
      rfl
    · rw [if_pos hprice]
      exact State.answerWaits_queueAnswer (by rw [← hclosed]; simp [State.closedWith, hlk]) 0 f 0x2F _
    · rw [show after = s1 from if_pos hprice, ← hclosed]
      exact State.queueAnswer_closedWith hframe hholds n _ _ 0 _
  · obtain ⟨closed, hclosed, hserve⟩ := quickSale_of_charged hserves hopens hline (congrArg Prices.total hp) hok tip hprice
    rw [State.onVenue_of_unreported h1 h64 _ hserve (.inl rfl)] at hrun
    have hposted := State.chargePosted_saleRung (n := n) (terminal := f.station) (v := v) (serial := serial) (line := line)
      (total := p.total) hr (s.served r.servings line.category ⟨s.minute, n, 0, line.quantity⟩) tip
    obtain ⟨hslots, hterminals, hpersons⟩ := State.saleClosed_reads (serial := serial) hr hclosed (State.append_pt ..)
      (State.append_tu ..) (venueAnswer f .ok (billBytes b s1.pq.next ++ refBytes ref))
    refine ⟨_, hrun, hslots, hterminals, fun q => (hpersons q).trans ?_, ?_, ?_⟩
    · rw [if_neg hprice, ← hp, Folio.charge_rung, hline]
      rfl
    · rw [if_neg hprice, List.append_assoc]
      exact State.answerWaits_queueAnswer (by rw [← hclosed]; simp [State.closedWith, State.chargePosted, hlk]) 0 f 0x2F _
    · rw [show after = s2 from if_neg hprice, ← hclosed]
      exact State.queueAnswer_closedWith hposted hholds n _ _ 0 _

end Sys2Proof.Machine
end

section
/-! ADD LINE and VOID LAST (R95 to R97, R119, R121). -/

namespace Sys2Proof.Machine

set_option Elab.async false

theorem exec_addLine {st category price quantity : Nat} {tag : Byte} {ref : TabRef} {s0 s : State} {f : Frame}
    (hi : (Instr.addLine st tag ref category price quantity).stationFrame = some (0, f)) (h : s0.takeFrame 0 f = some s) :
    exec (.addLine st tag ref category price quantity) s0 =
      .next (s.onVenue f (some ref) (reportedCategory category) (addLine st ref category price quantity)) :=
  State.onFrame_of_takeFrame hi h fun _ f s1 =>
    s1.onVenue f (some ref) (reportedCategory category) (addLine st ref category price quantity)

theorem exec_voidLast {st : Nat} {tag : Byte} {ref : TabRef} {s0 s : State} {f : Frame}
    (hi : (Instr.voidLast st tag ref).stationFrame = some (0, f)) (h : s0.takeFrame 0 f = some s) :
    exec (.voidLast st tag ref) s0 = .next (s.onVenue f (some ref) none (voidLast st ref)) :=
  State.onFrame_of_takeFrame hi h fun _ f s1 => s1.onVenue f (some ref) none (voidLast st ref)

/-- R90: a step that has written persons and slots, and then answers. -/
theorem State.queueAnswer_slots {s t : State} {pt : Table Person} {slots : Table Slot}
    (ht : t = { s with pt := pt, tu := { s.tu with slots := slots } }) (m : Nat) (g : Frame) :
    t.queueAnswer m g = { s with
      pt := (t.queueAnswer m g).pt, lk := (t.queueAnswer m g).lk
      tu := { s.tu with slots := (t.queueAnswer m g).tu.slots } } := by
  subst ht
  rw [State.queueAnswer_frame]

/-! ### A line added (R96) -/

/-- R96, R118: the pruning of a capped check, and the line. -/
def State.lineAdded (s : State) (n : Nat) (x : Tab) (line : Line) (total : Nat) : State :=
  (s.pruneIf x.person (s.isCapped line.category)).putLine n x line total

section added

variable {s : State} {x : Tab} {r : Person} (n : Nat) (line : Line) (total : Nat)

theorem State.slot_lineAdded (s : State) (x : Tab) (m : Nat) :
    (s.lineAdded n x line total).slot m =
      if m = n then { use := (s.slot n).use
                      tab := some { x with lines := x.lines ++ [line], total := total, voidable := true } }
      else s.slot m := by
  unfold State.lineAdded
  rw [State.slot_putLine, State.slot_of_tu (State.pruneIf_tu ..), State.slot_of_tu (State.pruneIf_tu ..)]

theorem State.person?_lineAdded (hr : s.person? x.person = some r) (q : Nat) :
    (s.lineAdded n x line total).person? q =
      if q = x.person then some { r with
        folio := { r.folio with held := r.folio.held + total - x.total }
        servings := s.served r.servings line.category
          { stamp := s.minute, slot := n, line := x.lines.length, count := line.quantity } }
      else s.person? q := by
  have hpruned (q : Nat) := State.person?_pruneIf hr (s.isCapped line.category) q
  have hcapped : (s.pruneIf x.person (s.isCapped line.category)).isCapped line.category = s.isCapped line.category := by
    unfold State.isCapped
    rw [State.pruneIf_cc]
  have hminute : (s.pruneIf x.person (s.isCapped line.category)).minute = s.minute := by
    unfold State.minute
    rw [State.pruneIf_sck]
  unfold State.lineAdded
  rw [State.person?_putLine ((hpruned x.person).trans (if_pos rfl)), hpruned, State.served_eq, hcapped, hminute]
  by_cases hq : q = x.person
  · rw [if_pos hq, if_pos hq]
    cases s.isCapped line.category <;> rfl
  · rw [if_neg hq, if_neg hq, if_neg hq]

theorem State.lineAdded_frame (s : State) (x : Tab) :
    s.lineAdded n x line total = { s with
      pt := (s.lineAdded n x line total).pt
      tu := { s.tu with slots := (s.lineAdded n x line total).tu.slots } } := by
  have hterminals : (s.lineAdded n x line total).tu.terminals = s.tu.terminals := by simp [State.lineAdded]
  have hholds : (s.lineAdded n x line total).tu.holds = s.tu.holds := by simp [State.lineAdded]
  apply State.eq_of_fields
  case tu =>
    dsimp only
    rw [← hterminals, ← hholds]
  all_goals simp [State.lineAdded]

end added

/-- R95, R96: ADD LINE of a line that is in order. -/
theorem addLine_of_lineOk {s : State} {ref : TabRef} {x : Tab} {r : Person} {category price quantity : Nat} {line : Line}
    {total : Nat} (hslot : s.slot ref.slot = { use := ref.use, tab := some x }) (hr : s.person? x.person = some r)
    (hheld : s.venueHeld x.venue = false) (haboard : r.presence = .aboard)
    (hline : line = newLine category price quantity) (htotal : total = (s.price x.venue r.cls (x.lines ++ [line])).total)
    (hok : s.lineOk r x.venue x.lines x.total total category price quantity) :
    addLine x.terminal ref category price quantity s =
      { state := s.lineAdded ref.slot x line total, code := .ok
        body := be 1 x.lines.length ++ be 4 total, person := some x.person } := by
  subst hline htotal
  obtain ⟨c, hc⟩ : ∃ c, s.checkLine r x.venue x.lines x.total category price quantity = c := ⟨_, rfl⟩
  have hcode : c.code = .ok := by
    rw [← hc, State.checkLine_code]
    exact State.lineOutcome_of_lineOk hok
  have htotal : c.total = (s.price x.venue r.cls (x.lines ++ [newLine category price quantity])).total := by
    rw [← hc, State.checkLine_total]
  have hcapped : c.capChecked = s.isCapped category := by
    rw [State.checkLine_capChecked _ _ _ _ _ _ _ _ hc, hcode]
    exact Bool.and_true _
  obtain ⟨code, total, capChecked⟩ := c
  subst hcode htotal hcapped
  unfold addLine
  simp only [State.findTab_of_slot hslot, hheld, hr, haboard, hc]
  rfl

/-! ### The newest line voided (R97, R121) -/

theorem voidNewest_append (older : List Line) (last : Line) :
    voidNewest (older ++ [last]) = older ++ [{ last with voided := true }] := by
  unfold voidNewest
  simp

theorem removeServing_of_absent {l : List Serving} {slot line : Nat} (h : ∀ e ∈ l, ¬(e.slot = slot ∧ e.line = line)) :
    removeServing l slot line = l := by
  unfold removeServing
  rw [List.eraseP_of_forall_not (by simpa using h), List.reverse_reverse]

/-- R121: the newest entry of the slot and the line leaves. -/
theorem removeServing_of_newest {before after : List Serving} {e : Serving} {slot line : Nat} (hslot : e.slot = slot)
    (hline : e.line = line) (h : ∀ y ∈ after, ¬(y.slot = slot ∧ y.line = line)) :
    removeServing (before ++ e :: after) slot line = before ++ after := by
  unfold removeServing
  rw [List.reverse_append, List.reverse_cons, List.append_assoc, List.eraseP_append_right _ (by simpa using h)]
  simp [hslot, hline]

/-- R97, R121: the newest line of a tab voided. -/
def State.lineVoided (s : State) (ref : TabRef) (x : Tab) (lines : List Line) (total : Nat) : State :=
  (s.setSlot ref.slot { s.slot ref.slot with
    tab := some { x with lines := lines, total := total, voidable := false } }).modPerson x.person fun r => { r with
      folio := { r.folio with held := r.folio.held + total - x.total }
      servings := removeServing r.servings ref.slot (x.lines.length - 1) }

theorem State.lineVoided_frame (s : State) (ref : TabRef) (x : Tab) (lines : List Line) (total : Nat) :
    s.lineVoided ref x lines total = { s with
      pt := (s.lineVoided ref x lines total).pt
      tu := { s.tu with slots := (s.lineVoided ref x lines total).tu.slots } } := by
  apply State.eq_of_fields
  case tu =>
    unfold State.lineVoided
    rw [State.modPerson_tu]
    rfl
  all_goals simp [State.lineVoided]

/-- R97: VOID LAST of a voidable line. -/
theorem voidLast_of_voidable {s : State} {ref : TabRef} {x : Tab} {r : Person} {older : List Line} {last : Line}
    (hslot : s.slot ref.slot = { use := ref.use, tab := some x }) (hr : s.person? x.person = some r)
    (hvoidable : x.voidable = true) (hlines : x.lines = older ++ [last]) {total : Nat}
    (htotal : total = (s.price x.venue r.cls (older ++ [{ last with voided := true }])).total) :
    voidLast x.terminal ref s =
      { state := s.lineVoided ref x (older ++ [{ last with voided := true }]) total, code := .ok
        body := be 4 total, person := some x.person } := by
  subst htotal
  have hvoided : voidNewest x.lines = older ++ [{ last with voided := true }] := by rw [hlines, voidNewest_append]
  unfold voidLast
  simp only [State.findTab_of_slot hslot, hvoidable]
  rw [hvoided, State.price_classOf hr]
  rfl

/-- Settles O41, by what the line added or voided leaves to be read. -/
theorem lineRequests : Obligations.LineRequests := by
  intro st tag ref s0 s x r h1 h64 hslot hst hr kept
  subst hst
  have huse : (s.slot ref.slot).use = ref.use := congrArg Slot.use hslot
  refine ⟨fun f category price quantity hf htake => ?_, fun f older last hf htake hvoidable hlines => ?_⟩
  · intro line total hheld haboard hok
    have hstation : f.station = x.terminal := by rw [hf]
    rw [← hstation] at h1 h64
    have hrun := exec_addLine (st := x.terminal) (tag := tag) (ref := ref) (category := category) (price := price)
      (quantity := quantity) (by rw [hf]; rfl) htake
    have hserve := addLine_of_lineOk (line := line) hslot hr hheld haboard rfl rfl hok
    rw [State.onVenue_of_unreported h1 h64 _ hserve (.inl rfl)] at hrun
    have hframe := s.lineAdded_frame ref.slot line total x
    refine ⟨_, hrun, ⟨fun m => ?_, fun k => ?_, State.queueAnswer_slots hframe 0 _⟩, ?_⟩
    · rw [State.slot_of_tu (State.queueAnswer_tu ..), State.slot_lineAdded, huse]
    · rw [State.person?_of_pt (State.queueAnswer_pt ..), State.person?_lineAdded ref.slot line total hr]
      rfl
    · rw [List.append_assoc]
      exact State.answerWaits_queueAnswer (by rw [hframe]) 0 f 0x2F _
  · intro lines total
    have hstation : f.station = x.terminal := by rw [hf]
    rw [← hstation] at h1 h64
    have hrun := exec_voidLast (st := x.terminal) (tag := tag) (ref := ref) (by rw [hf]; rfl) htake
    have hserve := voidLast_of_voidable (total := total) hslot hr hvoidable hlines rfl
    rw [State.onVenue_of_unreported h1 h64 _ hserve (.inl rfl)] at hrun
    have hframe := s.lineVoided_frame ref x lines total
    have hnewest : x.lines.length - 1 = older.length := by rw [hlines]; simp
    refine ⟨_, removeServing r.servings ref.slot older.length, hrun, removeServing_of_absent,
      fun before e after hsplit hslot hline hafter => ?_, ⟨fun m => ?_, fun k => ?_, State.queueAnswer_slots hframe 0 _⟩,
      State.answerWaits_queueAnswer (by rw [hframe]) 0 f 0x2F _⟩
    · rw [hsplit, removeServing_of_newest hslot hline hafter]
    · rw [State.slot_of_tu (State.queueAnswer_tu ..), ← huse]
      exact (State.slot_of_tu (State.modPerson_tu ..) m).trans (s.slot_setSlot ref.slot m _)
    · rw [State.person?_of_pt (State.queueAnswer_pt ..), ← hnewest]
      exact State.person?_modPerson_of_some (s := s.setSlot ref.slot _) hr _ k

end Sys2Proof.Machine
end

section
/-! Refused venue requests (R90, R92, R93, R95, R97, R99, R100, R103). -/

namespace Sys2Proof.Machine

set_option Elab.async false

/-- R176: every frame that comes on the venue link is a request that the tab unit takes. -/
theorem exec_of_venueFrame {i : Instr} {s0 s : State} {f : Frame} (hi : i.stationFrame = some (0, f))
    (h : s0.takeFrame 0 f = some s) : ∃ ref category serve, exec i s0 = .next (s.onVenue f ref category serve) := by
  cases i with
  | openTab => exact ⟨_, _, _, exec_openTab hi h⟩
  | addLine => exact ⟨_, _, _, exec_addLine hi h⟩
  | voidLast => exact ⟨_, _, _, exec_voidLast hi h⟩
  | closeTab => exact ⟨_, _, _, exec_closeTab hi h⟩
  | quickSale => exact ⟨_, _, _, exec_quickSale hi h⟩
  | queryBalance => exact ⟨_, _, _, exec_queryBalance hi h⟩
  | _ => simp [Instr.stationFrame, segLink] at hi

/-- R103: a refused request at a venue, with its answer. -/
theorem State.refused_onVenue {s u : State} {f : Frame} (h1 : 1 ≤ f.station) (h64 : f.station ≤ 64)
    {ref : Option TabRef} {category : Option Nat} {serve : State → Served} {c : Code} {person : Option Nat} {v : Nat}
    (hr : serve s = u.decline c person) (hv : s.refusalVenue? f.station ref = some v) (hc : Code.reported c = true) :
    (u.refusalReported v f.station person category c).declines (s.onVenue f ref category serve) f c := by
  rw [State.onVenue_of_declined h1 h64 hr hv hc]
  exact State.declines_queueAnswer _ f c

/-- R90: a refused request that is not reported, with its answer. -/
theorem State.unreported_onVenue {s u : State} {f : Frame} (h1 : 1 ≤ f.station) (h64 : f.station ≤ 64)
    {ref : Option TabRef} {category : Option Nat} {serve : State → Served} {c : Code} {person : Option Nat}
    (hr : serve s = u.decline c person) (h : Code.reported c = false ∨ s.refusalVenue? f.station ref = none) :
    u.declines (s.onVenue f ref category serve) f c := by
  rw [State.onVenue_of_unreported h1 h64 category hr h]
  exact State.declines_queueAnswer u f c

theorem State.lineOutcome_cases (s : State) (r : Person) (v : Nat) (lines : List Line)
    (old category price quantity : Nat) {c : Code} (hc : s.lineOutcome r v lines old category price quantity = c) :
    c = .range ∨ c = .barred ∨ c = .tabLines ∨ c = .cap ∨ c = .limit ∨ c = .daily ∨ c = .ok := by
  subst hc
  unfold State.lineOutcome
  dsimp only
  split_ifs <;> simp

/-- R95, R103: every outcome of a line but OK is a venue refusal. -/
theorem State.lineOutcome_reported {s : State} {r : Person} {v : Nat} {lines : List Line}
    {old category price quantity : Nat} {c : Code} (hc : s.lineOutcome r v lines old category price quantity = c)
    (h : c ≠ .ok) : Code.reported c = true := by
  rcases s.lineOutcome_cases r v lines old category price quantity hc with rfl | rfl | rfl | rfl | rfl | rfl | rfl
  case inr.inr.inr.inr.inr.inr => exact absurd rfl h
  all_goals rfl

/-! ### The checks of a new tab (R93), in their order -/

section openRefusal?

variable {s : State} {terminal : Nat} {r : Person}

theorem State.openRefusal?_of_personTabs (s : State) (h : 2 ≤ r.tabs.length) :
    s.openRefusal? terminal r = some .personTabs := by
  rw [State.openRefusal?_eq, if_pos h]

variable (hperson : r.tabs.length < 2)
include hperson

theorem State.openRefusal?_of_terminalTabs (h : 8 ≤ (s.terminal terminal).tabs.length) :
    s.openRefusal? terminal r = some .terminalTabs := by
  rw [State.openRefusal?_eq, if_neg (not_le.mpr hperson), if_pos h]

variable (hterminal : (s.terminal terminal).tabs.length < 8)
include hterminal

theorem State.openRefusal?_of_storeFull (h : s.emptySlot? = none) :
    s.openRefusal? terminal r = some .tabStoreFull := by
  rw [State.openRefusal?_eq, if_neg (not_le.mpr hperson), if_neg (not_le.mpr hterminal), if_pos h]

variable (hslot : s.emptySlot? ≠ none)
include hslot

theorem State.openRefusal?_of_queueFull (h : s.room < 2) : s.openRefusal? terminal r = some .queueFull := by
  rw [State.openRefusal?_eq, if_neg (not_le.mpr hperson), if_neg (not_le.mpr hterminal), if_neg hslot, if_pos h]

variable (hroom : 2 ≤ s.room)
include hroom

theorem State.openRefusal?_of_limit (h : ¬r.folio.balance + (r.folio.held : Int) < (r.folio.creditLimit : Int)) :
    s.openRefusal? terminal r = some .limit := by
  rw [State.openRefusal?_eq, if_neg (not_le.mpr hperson), if_neg (not_le.mpr hterminal), if_neg hslot,
    if_neg (not_lt.mpr hroom), if_pos h]

theorem State.openRefusal?_of_free (h : r.folio.balance + (r.folio.held : Int) < (r.folio.creditLimit : Int)) :
    s.openRefusal? terminal r = none := by
  rw [State.openRefusal?_eq, if_neg (not_le.mpr hperson), if_neg (not_le.mpr hterminal), if_neg hslot,
    if_neg (not_lt.mpr hroom), if_neg (not_not_intro h)]

end openRefusal?

/-! ### Requests with a card (R93, R99, R100) -/

/-- R93, R99, R100: a request that begins with the card's checks, with the hold among them where `tests` says so; goes on
to those of a new tab; and of a sale to those of its line. -/
structure ServesCard (s : State) (f : Frame) (serial : Serial) (tests : Bool) (sale : Option (Nat × Nat × Nat))
    (serve : State → Served) : Prop where
  declined : ∀ {r}, s.cardAsk f serial tests = .declined r → serve s = r
  refused : ∀ {u v p r c}, tests = true → s.cardAsk f serial tests = .passed u v p r →
    u.openRefusal? f.station r = some c → serve s = u.decline c (some p)
  barred : ∀ {u v p r category price quantity}, sale = some (category, price, quantity) →
    s.cardAsk f serial tests = .passed u v p r → u.openRefusal? f.station r = none →
    u.lineOutcome r v [] 0 category price quantity ≠ .ok →
    serve s = u.decline (u.lineOutcome r v [] 0 category price quantity) (some p)

theorem openTab_servesCard (s : State) (f : Frame) (serial : Serial) :
    ServesCard s f serial true none (openTab f serial) where
  declined h := by
    unfold openTab
    simp only [h]
  refused _ h hc := by
    unfold openTab
    simp only [h, hc]
  barred hsale := by cases hsale

theorem queryBalance_servesCard (s : State) (f : Frame) (serial : Serial) :
    ServesCard s f serial false none (queryBalance f serial) where
  declined h := by
    unfold queryBalance
    simp only [h]
  refused htests := by cases htests
  barred hsale := by cases hsale

theorem quickSale_servesCard (s : State) (f : Frame) (serial : Serial) (category price quantity tip : Nat) :
    ServesCard s f serial true (some (category, price, quantity)) (quickSale f serial category price quantity tip) where
  declined h := by
    unfold quickSale
    simp only [h]
  refused _ h hc := by
    unfold quickSale
    simp only [h, hc]
  barred hsale h hnone hcode := by
    cases hsale
    rw [← State.checkLine_code] at hcode ⊢
    unfold quickSale
    simp only [h, hnone, hcode, ne_eq, not_false_eq_true, if_true]

/-- The three requests with a card, as they are dispatched. -/
theorem exec_cardRequest {i : Instr} {st : Nat} {tag : Byte} {serial : Serial} {tests : Bool}
    {sale : Option (Nat × Nat × Nat)} {s0 s : State} {f : Frame} (hi : i.stationFrame = some (0, f))
    (h : s0.takeFrame 0 f = some s)
    (hrequest : i = .openTab st tag serial ∧ tests = true ∧ sale = none ∨
      i = .queryBalance st tag serial ∧ tests = false ∧ sale = none ∨
      ∃ c p q tip, i = .quickSale st tag serial c p q tip ∧ tests = true ∧ sale = some (c, p, q)) :
    ∃ serve, exec i s0 = .next (s.onVenue f none ((sale.map (·.1)).filter (· ≤ 15)) serve) ∧
      ServesCard s f serial tests sale serve := by
  rcases hrequest with ⟨rfl, rfl, rfl⟩ | ⟨rfl, rfl, rfl⟩ | ⟨c, p, q, tip, rfl, rfl, rfl⟩
  · exact ⟨_, exec_openTab hi h, openTab_servesCard s f serial⟩
  · exact ⟨_, exec_queryBalance hi h, queryBalance_servesCard s f serial⟩
  · refine ⟨_, ?_, quickSale_servesCard s f serial c p q tip⟩
    rw [exec_quickSale hi h]
    simp [reportedCategory, Option.filter]

/-! ### Requests with a tab reference (R95, R97, R98) -/

/-- The three requests with a tab reference, as they are dispatched. -/
theorem exec_refRequest {i : Instr} {st : Nat} {tag : Byte} {ref : TabRef} {category : Option Nat} {s0 s : State}
    {f : Frame} (hi : i.stationFrame = some (0, f)) (h : s0.takeFrame 0 f = some s)
    (hrequest : i = .voidLast st tag ref ∧ category = none ∨ (∃ tip, i = .closeTab st tag ref tip) ∧ category = none ∨
      ∃ c p q, i = .addLine st tag ref c p q ∧ category = if c ≤ 15 then some c else none) :
    ∃ serve, exec i s0 = .next (s.onVenue f (some ref) category serve) ∧
      (s.findTab st ref = none → serve s = s.decline .noTab none) := by
  rcases hrequest with ⟨rfl, rfl⟩ | ⟨⟨tip, rfl⟩, rfl⟩ | ⟨c, p, q, rfl, rfl⟩
  · refine ⟨_, exec_voidLast hi h, fun hnone => ?_⟩
    unfold voidLast
    simp only [hnone]
  · refine ⟨_, exec_closeTab hi h, fun hnone => ?_⟩
    unfold closeTab
    simp only [hnone]
  · refine ⟨_, exec_addLine hi h, fun hnone => ?_⟩
    unfold addLine
    simp only [hnone]

theorem voidLast_of_unvoidable {s : State} {ref : TabRef} {x : Tab} (hfind : s.findTab x.terminal ref = some x)
    (h : x.voidable = false) : voidLast x.terminal ref s = s.decline .nothingToVoid (some x.person) := by
  unfold voidLast
  simp only [hfind, h]
  rfl

section addLine

variable {s : State} {ref : TabRef} {x : Tab} {r : Person} (hfind : s.findTab x.terminal ref = some x)
  (category price quantity : Nat)
include hfind

theorem addLine_of_held (h : s.venueHeld x.venue = true) :
    addLine x.terminal ref category price quantity s = s.decline .held (some x.person) := by
  unfold addLine
  simp only [hfind, h, if_true]

variable (hheld : s.venueHeld x.venue = false) (hr : s.person? x.person = some r)
include hheld hr

theorem addLine_of_away (h : r.presence ≠ .aboard) :
    addLine x.terminal ref category price quantity s = s.decline .presence (some x.person) := by
  unfold addLine
  simp only [hfind, hheld, hr, h, ne_eq, not_false_eq_true, if_true, Bool.false_eq_true, if_false]

omit hfind hheld in
theorem State.pruneIf_eq (made : Bool) : s.pruneIf x.person made = if made then s.capPruned x.person r else s := by
  unfold State.pruneIf
  split
  · exact State.modPerson_of_some hr _
  · rfl

/-- R95, R118: a line that is not in order, after the pruning of the capped check where it was made. -/
theorem addLine_of_refused (haboard : r.presence = .aboard) {code : Code}
    (hcode : s.lineOutcome r x.venue x.lines x.total category price quantity = code) (hne : code ≠ .ok) :
    addLine x.terminal ref category price quantity s =
      (if s.isCapped category && decide (code = .cap ∨ code = .limit ∨ code = .daily) then s.capPruned x.person r
        else s).decline code (some x.person) := by
  obtain ⟨c, hc⟩ : ∃ c, s.checkLine r x.venue x.lines x.total category price quantity = c := ⟨_, rfl⟩
  have hcode' : c.code = code := by rw [← hc, State.checkLine_code, hcode]
  have hcapped := State.checkLine_capChecked _ _ _ _ _ _ _ _ hc
  simp only [hcode', hne, or_false] at hcapped
  unfold addLine
  simp only [hfind, hheld, hr, haboard, hc, hcode', hne, ne_eq, not_true_eq_false, not_false_eq_true, if_true,
    Bool.false_eq_true, if_false]
  rw [State.pruneIf_eq hr, hcapped]

end addLine

/-- Settles O40, check by check. -/
theorem venueRequestsRefused : Obligations.VenueRequestsRefused := by
  intro i st kind tag body s0 s f hf hi htake answered unknown
  have hunknown : s.recordFault (frameFault .stationUnknown vlLink f) = unknown := by
    rw [hf]
    rfl
  obtain rfl : f.station = st := by rw [hf]
  refine ⟨fun hrange => ?_, fun h1 h64 => ⟨fun serial tests sale hrequest => ?_, fun ref category hrequest => ?_⟩⟩
  · obtain ⟨ref, category, serve, hrun⟩ := exec_of_venueFrame hi htake
    rw [hrun, State.onVenue_of_range hrange, hunknown]
  · obtain ⟨serve, hrun, hserves⟩ := exec_cardRequest hi htake hrequest
    refine ⟨fun hunbound => ?_, fun v hvenue hin => ?_⟩
    · have hserve := hserves.declined (State.cardAsk_of_unbound (State.boundVenue?_of_unbound hunbound) serial tests)
      rw [hunknown] at hserve
      exact ⟨_, hrun, State.unreported_onVenue h1 h64 hserve (.inl rfl)⟩
    · intro category refused
      have hbound : s.boundVenue? f.station = some v := State.boundVenue?_of_inUse hvenue hin
      have hrefused {c : Code} {u : State} {p : Option Nat} (hserve : serve s = u.decline c p)
          (hc : Code.reported c = true) : refused c u p :=
        ⟨_, hrun, State.refused_onVenue h1 h64 hserve hbound hc⟩
      refine ⟨fun htests hheld => ?_, fun hheld => ⟨fun hcard => ?_, fun e day hcard hstate => ?_,
        fun e r hcard hstate hr => ?_⟩⟩
      · subst htests
        exact hrefused (hserves.declined (State.cardAsk_of_held hbound hheld serial)) rfl
      · exact hrefused (hserves.declined (State.cardAsk_of_unknown hbound hheld hcard)) rfl
      · exact hrefused (hserves.declined (State.cardAsk_of_revoked hbound hheld hcard hstate)) rfl
      · intro u lists store credit
        refine ⟨fun haway => hrefused (hserves.declined (State.cardAsk_of_away hbound hheld hcard hstate hr haway)) rfl,
          fun haboard htests => ?_⟩
        have hpassed := State.cardAsk_of_aboard hbound hheld hcard hstate hr haboard
        have hdeclined {c : Code} (hc : Code.reported c = true) (h : u.openRefusal? f.station r = some c) :
            refused c u (some e.person) := hrefused (hserves.refused htests hpassed h) hc
        have hstore : u.emptySlot? = none ↔ ¬store := State.emptySlot?_eq_none u
        have hslot (hs : store) : u.emptySlot? ≠ none := hstore.not.mpr (not_not_intro hs)
        refine ⟨fun hperson => hdeclined rfl (State.openRefusal?_of_personTabs u hperson),
          fun hperson hterminal => hdeclined rfl (State.openRefusal?_of_terminalTabs hperson hterminal),
          fun hl hfull => hdeclined rfl (State.openRefusal?_of_storeFull hl.1 hl.2 (hstore.mpr hfull)),
          fun hl hs hlow => ⟨_, hrun, State.unreported_onVenue h1 h64 (hserves.refused htests hpassed
            (State.openRefusal?_of_queueFull hl.1 hl.2 (hslot hs) hlow)) (.inl rfl)⟩,
          fun hl hs hfree hcredit =>
            hdeclined rfl (State.openRefusal?_of_limit hl.1 hl.2 (hslot hs) hfree hcredit),
          fun c p q hsale hl hs hfree hcredit hne => ?_⟩
        exact hrefused (hserves.barred hsale hpassed
          (State.openRefusal?_of_free hl.1 hl.2 (hslot hs) hfree hcredit) hne) (State.lineOutcome_reported rfl hne)
  · obtain ⟨serve, hrun, hnone⟩ := exec_refRequest hi htake hrequest
    refine ⟨fun hother => ?_, fun x hslot hst => ?_⟩
    · have hfind : s.findTab f.station ref = none := State.findTab_of_absent hother
      have hvenue : s.refusalVenue? f.station (some ref) = s.boundVenue? f.station := by
        unfold State.refusalVenue?
        rw [Option.bind_some, hfind]
        rfl
      refine ⟨fun hunbound => ⟨_, hrun, State.unreported_onVenue h1 h64 (hnone hfind) (.inr ?_)⟩,
        fun v hv hin => ⟨_, hrun, State.refused_onVenue h1 h64 (hnone hfind) ?_ rfl⟩⟩
      · rw [hvenue, State.boundVenue?_of_unbound hunbound]
      · rw [hvenue, State.boundVenue?_of_inUse hv hin]
    · intro refused
      have hfind : s.findTab x.terminal ref = some x := State.findTab_of_slot hslot
      have hvenue : s.refusalVenue? f.station (some ref) = some x.venue := by
        unfold State.refusalVenue?
        rw [Option.bind_some, ← hst, hfind]
        rfl
      refine ⟨fun hvoid hfixed => ?_, fun c p q hadd => ?_⟩
      · subst hvoid
        obtain rfl : category = none := by simpa using hrequest
        refine ⟨_, exec_voidLast hi htake, State.refused_onVenue h1 h64 ?_ hvenue rfl⟩
        rw [← hst, voidLast_of_unvoidable hfind hfixed]
      · subst hadd
        obtain rfl : category = reportedCategory c := by simpa [reportedCategory] using hrequest
        have hrefused {code : Code} {u : State}
            (hserve : addLine x.terminal ref c p q s = u.decline code (some x.person))
            (hc : Code.reported code = true) : refused code u :=
          ⟨_, exec_addLine hi htake, State.refused_onVenue h1 h64 (hst ▸ hserve) hvenue hc⟩
        refine ⟨fun hheld => hrefused (addLine_of_held hfind c p q hheld) rfl, fun r hheld hr =>
          ⟨fun haway => hrefused (addLine_of_away hfind c p q hheld hr haway) rfl, ?_⟩⟩
        intro haboard code capChecked hne
        exact hrefused (addLine_of_refused hfind c p q hheld hr haboard rfl hne) (State.lineOutcome_reported rfl hne)

end Sys2Proof.Machine
end
